-- ==== Sys2Proof/Word.lean ====
section
/-! DEFINITION. The octet of the Coordinator Line and its plainest arithmetic (R179, R191). -/

namespace Sys2Proof

/-- One octet of the Coordinator Line (R178), as the slots and the messages carry it. -/
abbrev Octet := BitVec 8

/-- The number of a record slot, 0 to 63 (R1). -/
abbrev RecNo := Fin 64

/-- The octet that carries a number. -/
def octet (n : Nat) : Octet := BitVec.ofNat 8 n

/-- The two octets of a value, high octet first (R191). -/
def octetPair (v : Nat) : List Octet := [octet (v / 256), octet v]

/-- The value of bit `k` of an octet when the mark `b` is set, 0 when it is clear. -/
def bitAt (k : Nat) (b : Bool) : Nat := if b then 2 ^ k else 0

/-- Every record number, lowest first. -/
def allRecNos : List RecNo := List.finRange 64

end Sys2Proof
end

