-- ==== Sys2Proof/Syntax.lean ====
section
/-! DEFINITION. The names the commands use and the commands themselves: one constructor of `Instr` for each row of
spec/opcode_table.json. -/

namespace Sys2Proof

/-- The four soiled-side stations (00_scope.md, section 2). -/
inductive Station where
  | a | b | c | d
deriving DecidableEq, Repr

/-- The nine trackpoints (R51): OA to OD are `outfeed`, then SP, EN, EX, UL, DS. -/
inductive Eye where
  | outfeed (x : Station)
  | sp | en | ex | ul | ds
deriving DecidableEq, Repr

/-- The five zones of the tunnel, zone 0 to zone 4 (R79). -/
inductive Zone where
  | preWash | wash | powerRinse | finalRinse | dryer
deriving DecidableEq, Repr

/-- The eight nodes of the line; a node's address is its role (00_scope.md, section 2). -/
inductive Node where
  | panel | tunnel | drive | unload
  | station (x : Station)
deriving DecidableEq, Repr

/-- The seven line commands (R160), highest priority first. -/
inductive LineCommand where
  | stop | clear | setup | commit | hold | drain | run
deriving DecidableEq, Repr

/-- A load entry (R15) with the widths its two octets give it (R191): kind in bits 7-3 and class in bits 2-0 of the
first, count in the second. -/
structure LoadEntry where
  kind  : Fin 32
  cls   : Fin 8
  count : Fin 256
deriving DecidableEq, Repr

/-- One of the inputs that are sampled once per millisecond (R53, R70). -/
inductive SampleInput where
  | eye (e : Eye)
  | estop
deriving DecidableEq, Repr

/-- The separate events that one frame end may bring (R180 to R187): the acceptance of a code slot, the absence of a
node, the acceptance of a message pair, of a temperature slot, of the pump map, and the count of frames of a channel. -/
inductive FrameEvent where
  | code (n : Node)
  | absent (n : Node)
  | message (n : Node)
  | temperature (z : Zone)
  | pumpMap
  | count (n : Node)
deriving DecidableEq, Repr

/-- A request as its octets spell it (R191), before any check of its arguments. -/
inductive Request where
  | status
  | readRack (r : Octet)
  | readLane (place start : Octet)
  | register (place : Octet)
  | load (r : Octet) (replace finish : Bool) (entries : List LoadEntry)
  | unloaded (r : Octet)
  | rewash (r : Octet)
  | retire (r : Octet)
  | place (r : Octet) (place : Octet)
  | purge
  | command (code : Octet)
  | set (param index : Octet) (value : BitVec 16)
  | get (param index : Octet)
deriving DecidableEq, Repr

/-- The commands of the part: one constructor for each row of spec/opcode_table.json, with what the row's event
carries. A request and a line command carry the node that sends them; the other rows are events of the inputs, the
timers and the blocks. -/
inductive Instr where
  /-- STATUS (R195). -/
  | status (n : Node)
  /-- READ_RACK (R196). -/
  | readRack (n : Node) (r : Octet)
  /-- READ_LANE (R197). -/
  | readLane (n : Node) (place start : Octet)
  /-- REGISTER (R22). -/
  | register (n : Node) (place : Octet)
  /-- LOAD (R21). -/
  | load (n : Node) (r : Octet) (replace finish : Bool) (entries : List LoadEntry)
  /-- UNLOADED (R130). -/
  | unloaded (n : Node) (r : Octet)
  /-- REWASH (R132). -/
  | rewash (n : Node) (r : Octet)
  /-- RETIRE (R47). -/
  | retire (n : Node) (r : Octet)
  /-- PLACE (R48). -/
  | place (n : Node) (r : Octet) (place : Octet)
  /-- PURGE (R49). -/
  | purge (n : Node)
  /-- SET (R201). -/
  | set (n : Node) (param index : Octet) (value : BitVec 16)
  /-- GET (R201). -/
  | get (n : Node) (param index : Octet)
  /-- STOP (R165), as a COMMAND request of node `n` (R161). -/
  | stop (n : Node)
  /-- CLEAR (R172). -/
  | clear (n : Node)
  /-- SETUP (R165). -/
  | setup (n : Node)
  /-- COMMIT (R173). -/
  | commit (n : Node)
  /-- HOLD (R168). -/
  | hold (n : Node)
  /-- DRAIN (R175). -/
  | drain (n : Node)
  /-- RUN (R167). -/
  | run (n : Node)
  /-- STARTING_COMPLETE (R167). -/
  | startingComplete
  /-- HOLDING_END (R168). -/
  | holdingEnd
  /-- HEAT_TIMER_EXPIRY (R167). -/
  | heatTimerExpiry
  /-- SETTLE_TIMER_EXPIRY (R168). -/
  | settleTimerExpiry
  /-- DRAIN_COMPLETE (R175). -/
  | drainComplete
  /-- BLOCKED_EDGE (R55) of trackpoint `e`. -/
  | blockedEdge (e : Eye)
  /-- CLEAR_EDGE (R60) of trackpoint `e`. -/
  | clearEdge (e : Eye)
  /-- UNLOAD_RELEASE_OPEN (R127). -/
  | unloadReleaseOpen
  /-- MERGE_GRANT_OPEN (R142). -/
  | mergeGrantOpen
  /-- DISPATCH_GRANT_OPEN (R152). -/
  | dispatchGrantOpen
  /-- MERGE_TIMEOUT (R145). -/
  | mergeTimeout
  /-- DISPATCH_TIMEOUT (R155). -/
  | dispatchTimeout
  /-- JAM (R57) at trackpoint `e`. -/
  | jam (e : Eye)
  /-- ESTOP_ACTIVE (R71). -/
  | estopActive
  /-- ESTOP_RELEASED (R72). -/
  | estopReleased
  /-- ENCODER_COUNT (R74). -/
  | encoderCount
  /-- STEP (R75). -/
  | step
  /-- EXIT_MISSING (R87) of the record `r` of XT. -/
  | exitMissing (r : RecNo)
  /-- TUNNEL_STALL (R92). -/
  | tunnelStall
  /-- CREDIT_SAMPLE (R102). -/
  | creditSample
  /-- FRAME_END (R180): the octets of the up slots from slot 0 on (an unlisted slot is undriven and reads FFh, R179) and
  the order in which the separate events of this frame end fall (those not named follow in a fixed order). -/
  | frameEnd (slots : List Octet) (order : List FrameEvent)
  /-- REQUEST_TIMEOUT (R185) of the channel of node `n`. -/
  | requestTimeout (n : Node)
  /-- RESPONSE_DROP (R186) of the channel of node `n`. -/
  | responseDrop (n : Node)
  /-- NODE_ABSENT (R181). -/
  | nodeAbsent (n : Node)
  /-- HARDWARE_RESET (R177). -/
  | hardwareReset
  /-- EYE_SAMPLE (R53): the eyes whose raw sample reads BLOCKED (every other reads CLEAR), whether ESTOP# is low, and the
  order in which the inputs are taken (those not named follow in a fixed order). -/
  | eyeSample (blocked : List Eye) (estopLow : Bool) (order : List SampleInput)
deriving DecidableEq, Repr

/-- The stations by letter. -/
def Station.all : List Station := [.a, .b, .c, .d]

/-- The trackpoints in the order OA, OB, OC, OD, SP, EN, EX, UL, DS (R68, R173, R202). -/
def Eye.all : List Eye :=
  [.outfeed .a, .outfeed .b, .outfeed .c, .outfeed .d, .sp, .en, .ex, .ul, .ds]

/-- The zones in the order of travel (R79). -/
def Zone.all : List Zone := [.preWash, .wash, .powerRinse, .finalRinse, .dryer]

/-- The nodes by address (00_scope.md, section 2). -/
def Node.all : List Node :=
  [.panel, .tunnel, .drive, .unload, .station .a, .station .b, .station .c, .station .d]

/-- The line commands by priority (R160). -/
def LineCommand.all : List LineCommand := [.stop, .clear, .setup, .commit, .hold, .drain, .run]

end Sys2Proof
end

