-- ==== Sys2Proof/Machine/Operands.lean ====
section
/-! DEFINITION. The codes by which the line names nodes, places, commands, settings and load entries (R179, R191, R202),
and the slot map of the up direction (R179). -/

namespace Sys2Proof

/-- The address of a node (00_scope.md, section 2). -/
def Node.address : Node → Nat
  | .panel => 0
  | .tunnel => 1
  | .drive => 2
  | .unload => 3
  | .station .a => 4
  | .station .b => 5
  | .station .c => 6
  | .station .d => 7

/-- The number of a station in the codes of the line: 1 to 4 for A to D (R179, R196). -/
def Station.number : Station → Nat
  | .a => 1
  | .b => 2
  | .c => 3
  | .d => 4

/-- The index of a trackpoint in the order OA, OB, OC, OD, SP, EN, EX, UL, DS (R195, R202). -/
def Eye.index : Eye → Nat
  | .outfeed x => x.number - 1
  | .sp => 4
  | .en => 5
  | .ex => 6
  | .ul => 7
  | .ds => 8

/-- The number of a zone (R79). -/
def Zone.number : Zone → Nat
  | .preWash => 0
  | .wash => 1
  | .powerRinse => 2
  | .finalRinse => 3
  | .dryer => 4

/-- The places of R27 and the finish-order list (R35), as place codes name them (R191). -/
inductive Place where
  | lp (x : Station)
  | outfeed (x : Station)
  | spur | acc | tun | xt | unl | ret | off
  | finishOrder
deriving DecidableEq, Repr

/-- The places that hold records, in the order of their codes (R27, R191). -/
def Place.holding : List Place :=
  [.lp .a, .lp .b, .lp .c, .lp .d, .outfeed .a, .outfeed .b, .outfeed .c, .outfeed .d,
    .spur, .acc, .tun, .xt, .unl, .ret, .off]

/-- The place code (R191). -/
def Place.code : Place → Nat
  | .lp x => x.number - 1
  | .outfeed x => x.number + 3
  | .spur => 0x08
  | .acc => 0x09
  | .tun => 0x0A
  | .xt => 0x0B
  | .unl => 0x0C
  | .ret => 0x0D
  | .off => 0x0E
  | .finishOrder => 0x0F

/-- The place a code names (R191). -/
def Place.ofCode (o : Octet) : Option Place := (Place.holding ++ [.finishOrder])[o.toNat]?

/-- The places READ-LANE names: 00h to 0Fh (R197). -/
def readablePlace (o : Octet) : Bool := (Place.ofCode o).isSome

/-- The place REGISTER names: a loading position or the RET tail (R198). -/
def registerPlace (o : Octet) : Option Place :=
  match Place.ofCode o with
  | some (.lp x) => some (.lp x)
  | some .ret => some .ret
  | _ => none

/-- The place PLACE names: a loading position, the SPUR tail or the RET tail (R198). -/
def placeTarget (o : Octet) : Option Place :=
  match Place.ofCode o with
  | some (.lp x) => some (.lp x)
  | some .spur => some .spur
  | some .ret => some .ret
  | _ => none

/-- The record number an octet names: 00h to 3Fh (R191, R193 check 4). -/
def recNoOf (o : Octet) : Option RecNo :=
  if h : o.toNat < 64 then some ⟨o.toNat, h⟩ else none

/-- The octet of a record number, FFh for none (R191). -/
def recNoOctet : Option RecNo → Octet
  | some n => octet n.val
  | none => 0xFF

/-- The line command a command code names: 00h to 06h (R191). -/
def LineCommand.ofCode (o : Octet) : Option LineCommand := LineCommand.all[o.toNat]?

/-- The command code (R191). -/
def LineCommand.code : LineCommand → Nat
  | .stop => 0
  | .clear => 1
  | .setup => 2
  | .commit => 3
  | .hold => 4
  | .drain => 5
  | .run => 6

/-- The load entry two octets spell (R191). -/
def LoadEntry.ofOctets (p q : Octet) : LoadEntry :=
  { kind := ⟨p.toNat / 8, by have := p.isLt; omega⟩
    cls := ⟨p.toNat % 8, Nat.mod_lt _ (by decide)⟩
    count := ⟨q.toNat, q.isLt⟩ }

/-- The two octets of a load entry (R191). -/
def LoadEntry.octets (e : LoadEntry) : List Octet :=
  [octet (e.kind.val * 8 + e.cls.val), octet e.count.val]

/-- The result codes of a response (R192). -/
inductive Result where
  | ok | pending | alreadyPending | clamped
  | notPermitted | badRequest | badArgument | wrongState | notFound | isProtected | full
  | rewashRequired | draining
deriving DecidableEq, Repr

/-- The code of a result (R192). -/
def Result.code : Result → Octet
  | .ok => 0x00
  | .pending => 0x01
  | .alreadyPending => 0x02
  | .clamped => 0x03
  | .notPermitted => 0x10
  | .badRequest => 0x11
  | .badArgument => 0x12
  | .wrongState => 0x13
  | .notFound => 0x14
  | .isProtected => 0x15
  | .full => 0x16
  | .rewashRequired => 0x17
  | .draining => 0x18

/-- The settings (R202), each with its index. -/
inductive Param where
  | rackLimit | unknownClass | fixPoint
  | outfeedCap | spurCap | accumCap | unloadCap | returnCap | tunnelCells
  | eyeCheck (e : Eye) | rackMin (e : Eye) | rackMax (e : Eye) | jamLimit (e : Eye)
  | pitchCounts
  | zoneLen (z : Zone)
  | exitWindow | stallLimit
  | classSpeed (c : Fin 8)
  | idleSpeed | creditPeriod
  | zoneBase (z : Zone) | zoneStep (z : Zone) | zoneWeight (z : Zone) (b : Fin 16)
  | classTarget (c : Fin 8)
  | rinseFloor | rewashLimit | mergeWindow | dispatchWindow | heatTimeout | settleTimeout | framePeriod
deriving DecidableEq, Repr

/-- An unindexed parameter accepts index 0 alone (R201). -/
def unindexed (p : Param) (i : Nat) : Option Param := if i = 0 then some p else none

/-- A parameter indexed by trackpoint (R202). -/
def byEye (p : Eye → Param) (i : Nat) : Option Param := Eye.all[i]?.map p

/-- A parameter indexed by zone (R202). -/
def byZone (p : Zone → Param) (i : Nat) : Option Param := Zone.all[i]?.map p

/-- A parameter indexed by class (R202). -/
def byClass (p : Fin 8 → Param) (i : Nat) : Option Param :=
  if h : i < 8 then some (p ⟨i, h⟩) else none

/-- ZONE_WEIGHT takes the index 16 z + b (R202). -/
def byZoneAndBand (p : Zone → Fin 16 → Param) (i : Nat) : Option Param :=
  Zone.all[i / 16]?.map fun z => p z ⟨i % 16, Nat.mod_lt _ (by decide)⟩

/-- The setting a parameter code and an index name, none where it does not exist (R201, R202). -/
def Param.ofCode (code index : Octet) : Option Param :=
  let i := index.toNat
  match code.toNat with
  | 0x01 => unindexed .rackLimit i
  | 0x02 => unindexed .unknownClass i
  | 0x03 => unindexed .fixPoint i
  | 0x04 => unindexed .outfeedCap i
  | 0x05 => unindexed .spurCap i
  | 0x06 => unindexed .accumCap i
  | 0x07 => unindexed .unloadCap i
  | 0x08 => unindexed .returnCap i
  | 0x09 => unindexed .tunnelCells i
  | 0x0A => byEye .eyeCheck i
  | 0x0B => byEye .rackMin i
  | 0x0C => byEye .rackMax i
  | 0x0D => byEye .jamLimit i
  | 0x0E => unindexed .pitchCounts i
  | 0x0F => byZone .zoneLen i
  | 0x10 => unindexed .exitWindow i
  | 0x11 => unindexed .stallLimit i
  | 0x12 => byClass .classSpeed i
  | 0x13 => unindexed .idleSpeed i
  | 0x14 => unindexed .creditPeriod i
  | 0x15 => byZone .zoneBase i
  | 0x16 => byZone .zoneStep i
  | 0x17 => byZoneAndBand .zoneWeight i
  | 0x18 => byClass .classTarget i
  | 0x19 => unindexed .rinseFloor i
  | 0x1A => unindexed .rewashLimit i
  | 0x1B => unindexed .mergeWindow i
  | 0x1C => unindexed .dispatchWindow i
  | 0x1D => unindexed .heatTimeout i
  | 0x1E => unindexed .settleTimeout i
  | 0x1F => unindexed .framePeriod i
  | _ => none

/-- The range a setting's value is clamped to by SET (R202). For the two enumerated settings, FIX_POINT and
FRAME_PERIOD, the lowest and the highest value of the list. -/
def Param.range : Param → Nat × Nat
  | .rackLimit => (1, 64)
  | .unknownClass => (0, 7)
  | .fixPoint => (0, 1)
  | .outfeedCap => (1, 3)
  | .spurCap => (1, 3)
  | .accumCap => (2, 12)
  | .unloadCap => (1, 6)
  | .returnCap => (2, 16)
  | .tunnelCells => (8, 24)
  | .eyeCheck _ => (1, 32)
  | .rackMin _ => (10, 30000)
  | .rackMax _ => (20, 60000)
  | .jamLimit _ => (100, 65000)
  | .pitchCounts => (100, 4000)
  | .zoneLen _ => (0, 24)
  | .exitWindow => (1000, 60000)
  | .stallLimit => (500, 60000)
  | .classSpeed _ => (0, 3)
  | .idleSpeed => (0, 3)
  | .creditPeriod => (50, 1000)
  | .zoneBase _ => (0, 254)
  | .zoneStep _ => (1, 16)
  | .zoneWeight _ _ => (0, 255)
  | .classTarget _ => (0, 65535)
  | .rinseFloor => (0, 254)
  | .rewashLimit => (1, 7)
  | .mergeWindow => (500, 20000)
  | .dispatchWindow => (500, 20000)
  | .heatTimeout => (1, 1800)
  | .settleTimeout => (200, 10000)
  | .framePeriod => (1, 4)

/-- The values of an enumerated setting; none for a numeric one (R201, R202). -/
def Param.values : Param → Option (List Nat)
  | .fixPoint => some [0, 1]
  | .framePeriod => some [1, 2, 4]
  | _ => none

/-- What an up slot reads (R179): its octet where a node drives it, FFh, all ones, where none does. -/
def upSlot (slots : List Octet) (k : Nat) : Octet := slots.getD k 0xFF

/-- The status-code slot of a node: 3n (R179). -/
def codeSlot (slots : List Octet) (n : Node) : Octet := upSlot slots (3 * n.address)

/-- The message slots of a node, octet 3n + 1 and control 3n + 2, taken together as one pair (R179, R180).
The octets are whole, with the control bits that R179 does not examine (notes/assumptions/30.md). -/
def messageSlots (slots : List Octet) (n : Node) : Octet × Octet :=
  (upSlot slots (3 * n.address + 1), upSlot slots (3 * n.address + 2))

/-- The temperature slot of a zone: 24 to 28 (R179). -/
def temperatureSlot (slots : List Octet) (z : Zone) : Octet := upSlot slots (24 + z.number)

/-- The pump-map slot: 29 (R179), the whole octet, with the bits that R179 does not examine (notes/assumptions/30.md). -/
def pumpSlot (slots : List Octet) : Octet := upSlot slots 29

/-- V of a message control octet: bit 7 is active low, 0 when an octet is present (R179). -/
def controlV (c : Octet) : Bool := !c.getLsbD 7

/-- S, the sender toggle of a control octet (R179). -/
def controlS (c : Octet) : Bool := c.getLsbD 6

/-- E, set on the last octet of a message (R179). -/
def controlE (c : Octet) : Bool := c.getLsbD 5

/-- TK, the take toggle of a control octet (R179). -/
def controlTK (c : Octet) : Bool := c.getLsbD 4

end Sys2Proof
end

