-- ==== Sys2Proof/WellFormed.lean ====
section
/-! DEFINITION. Which commands are well formed: their octets lie within the encodings of R191 and R202, and their lists
name nothing twice. An ill-formed request is still a request: the part answers it as R193 states. -/

namespace Sys2Proof

/-- An entry within its encoding whose kind and count are not 0 (R15). -/
def LoadEntry.wellFormed (e : LoadEntry) : Bool :=
  e.kind != 0 && e.count.val != 0 && e.count.val ≤ 15

/-- A command is well formed. -/
def Instr.wellFormed : Instr → Bool
  | .readRack _ r | .unloaded _ r | .rewash _ r | .retire _ r => (recNoOf r).isSome
  | .readLane _ p _ => readablePlace p
  | .register _ p => (registerPlace p).isSome
  | .load _ r _ _ es => (recNoOf r).isSome && es.length ≤ 14 && es.all LoadEntry.wellFormed
  | .place _ r p => (recNoOf r).isSome && (placeTarget p).isSome
  | .set _ p i _ | .get _ p i => (Param.ofCode p i).isSome
  | .frameEnd slots order => slots.length ≤ 30 && decide order.Nodup
  | .eyeSample blocked _ order => decide blocked.Nodup && decide order.Nodup
  | .status _ | .purge _ | .stop _ | .clear _ | .setup _ | .commit _ | .hold _ | .drain _ | .run _
  | .startingComplete | .holdingEnd | .heatTimerExpiry | .settleTimerExpiry | .drainComplete
  | .blockedEdge _ | .clearEdge _ | .unloadReleaseOpen | .mergeGrantOpen | .dispatchGrantOpen
  | .mergeTimeout | .dispatchTimeout | .jam _ | .estopActive | .estopReleased | .encoderCount
  | .step | .exitMissing _ | .tunnelStall | .creditSample | .requestTimeout _ | .responseDrop _
  | .nodeAbsent _ | .hardwareReset => true

end Sys2Proof
end

