-- ==== Sys2Proof/Decode.lean ====
section
/-! DEFINITION. The words of the opcode table (it gives none of its rows bits) and the octets of requests (R191). -/

namespace Sys2Proof

/-- The command a word spells by the table's bits. No row of spec/opcode_table.json has bits, so no word spells one
(notes/assumptions/17.md). -/
def decodeTableWord (_nbits _w : Nat) : Option Instr := none

/-- The load entries a list of octets spells, two octets each; none when an octet is left over (R191). -/
def decodeEntries : List Octet → Option (List LoadEntry)
  | [] => some []
  | [_] => none
  | p :: q :: rest => (decodeEntries rest).map (LoadEntry.ofOctets p q :: ·)

/-- The request that a message spells, by its kind code and its length (R191). None is a request that fails check 1 or
check 2 of R193: an unknown kind code or a wrong length, for LOAD an entry count above 14 or a length other than 4 + 2n. -/
def decodeRequest : List Octet → Option Request
  | [] => none
  | kind :: args =>
    match kind.toNat, args with
    | 0x01, [] => some .status
    | 0x02, [r] => some (.readRack r)
    | 0x03, [p, i] => some (.readLane p i)
    | 0x04, [p] => some (.register p)
    | 0x05, r :: flags :: n :: octets =>
      match decodeEntries octets with
      | some es =>
        if n.toNat ≤ 14 ∧ es.length = n.toNat then
          some (.load r (flags.getLsbD 0) (flags.getLsbD 1) es)
        else none
      | none => none
    | 0x06, [r] => some (.unloaded r)
    | 0x07, [r] => some (.rewash r)
    | 0x08, [r] => some (.retire r)
    | 0x09, [r, p] => some (.place r p)
    | 0x0A, [] => some .purge
    | 0x0B, [c] => some (.command c)
    | 0x0C, [p, i, hi, lo] => some (.set p i (hi ++ lo))
    | 0x0D, [p, i] => some (.get p i)
    | _, _ => none

/-- The kind code of a request (R191). -/
def Request.kind : Request → Octet
  | .status => 0x01
  | .readRack _ => 0x02
  | .readLane _ _ => 0x03
  | .register _ => 0x04
  | .load _ _ _ _ => 0x05
  | .unloaded _ => 0x06
  | .rewash _ => 0x07
  | .retire _ => 0x08
  | .place _ _ => 0x09
  | .purge => 0x0A
  | .command _ => 0x0B
  | .set _ _ _ => 0x0C
  | .get _ _ => 0x0D

/-- The octets of a request (R191); the bits of the LOAD flags octet that are not examined are 0. -/
def Request.encode (q : Request) : List Octet :=
  q.kind :: match q with
    | .status | .purge => []
    | .readRack r | .unloaded r | .rewash r | .retire r => [r]
    | .readLane p i => [p, i]
    | .register p => [p]
    | .load r replace finish es =>
      r :: octet (bitAt 0 replace + bitAt 1 finish) :: octet es.length
        :: es.flatMap LoadEntry.octets
    | .place r p => [r, p]
    | .command c => [c]
    | .set p i v => [p, i, v.extractLsb' 8 8, v.extractLsb' 0 8]
    | .get p i => [p, i]

/-- A request has octets: a LOAD carries at most 14 entries (R15, R193). -/
def Request.encodable : Request → Bool
  | .load _ _ _ es => es.length ≤ 14
  | .status | .readRack _ | .readLane _ _ | .register _ | .unloaded _ | .rewash _ | .retire _
  | .place _ _ | .purge | .command _ | .set _ _ _ | .get _ _ => true

end Sys2Proof
end

