-- ==== Sys2Proof/Config.lean ====
section
/-! DEFINITION. What the spec leaves open, as free values. -/

namespace Sys2Proof

/-- FREE VALUE (notes/assumptions/8.md). At one event a record change may both complete the drain (R175) and bring
another reaction of the part: an internal cause (R162), or a decision of an arbiter (R140, R150). R176 gives both orders
and no rule says which comes first. The `n`-th such choice is `drainFirst n`, of which nothing is known: true when the
drain completes before the other reactions, false when it completes after them. -/
opaque Config.drainFirst : Nat → Bool

end Sys2Proof
end

