-- ==== Sys2Proof/Machine/State.lean ====
section
/-! DEFINITION. The state of the part as plain data, block by block (00_scope.md, section 4.1), and its reset values. -/

namespace Sys2Proof.Machine

/-- One value per station. -/
structure PerStation (α : Type) where
  a : α
  b : α
  c : α
  d : α
deriving DecidableEq, Repr

/-- The value of a station. -/
def PerStation.get {α : Type} (v : PerStation α) : Station → α
  | .a => v.a
  | .b => v.b
  | .c => v.c
  | .d => v.d

/-- The values with that of one station replaced. -/
def PerStation.set {α : Type} (v : PerStation α) (x : Station) (y : α) : PerStation α :=
  match x with
  | .a => { v with a := y }
  | .b => { v with b := y }
  | .c => { v with c := y }
  | .d => { v with d := y }

/-- One value for all stations. -/
def PerStation.const {α : Type} (y : α) : PerStation α := ⟨y, y, y, y⟩

/-- One value per zone. -/
structure PerZone (α : Type) where
  z0 : α
  z1 : α
  z2 : α
  z3 : α
  z4 : α
deriving DecidableEq, Repr

/-- The value of a zone. -/
def PerZone.get {α : Type} (v : PerZone α) : Zone → α
  | .preWash => v.z0
  | .wash => v.z1
  | .powerRinse => v.z2
  | .finalRinse => v.z3
  | .dryer => v.z4

/-- The values with that of one zone replaced. -/
def PerZone.set {α : Type} (v : PerZone α) (z : Zone) (y : α) : PerZone α :=
  match z with
  | .preWash => { v with z0 := y }
  | .wash => { v with z1 := y }
  | .powerRinse => { v with z2 := y }
  | .finalRinse => { v with z3 := y }
  | .dryer => { v with z4 := y }

/-- The values, each treated by `f`. -/
def PerZone.map {α β : Type} (f : α → β) (v : PerZone α) : PerZone β :=
  ⟨f v.z0, f v.z1, f v.z2, f v.z3, f v.z4⟩

/-- One value for all zones. -/
def PerZone.const {α : Type} (y : α) : PerZone α := ⟨y, y, y, y, y⟩

/-- One value per trackpoint. -/
structure PerEye (α : Type) where
  oa : α
  ob : α
  oc : α
  od : α
  sp : α
  en : α
  ex : α
  ul : α
  ds : α
deriving DecidableEq, Repr

/-- The value of a trackpoint. -/
def PerEye.get {α : Type} (v : PerEye α) : Eye → α
  | .outfeed .a => v.oa
  | .outfeed .b => v.ob
  | .outfeed .c => v.oc
  | .outfeed .d => v.od
  | .sp => v.sp
  | .en => v.en
  | .ex => v.ex
  | .ul => v.ul
  | .ds => v.ds

/-- The values with that of one trackpoint replaced. -/
def PerEye.set {α : Type} (v : PerEye α) (e : Eye) (y : α) : PerEye α :=
  match e with
  | .outfeed .a => { v with oa := y }
  | .outfeed .b => { v with ob := y }
  | .outfeed .c => { v with oc := y }
  | .outfeed .d => { v with od := y }
  | .sp => { v with sp := y }
  | .en => { v with en := y }
  | .ex => { v with ex := y }
  | .ul => { v with ul := y }
  | .ds => { v with ds := y }

/-- The values, each treated by `f`. -/
def PerEye.map {α β : Type} (f : α → β) (v : PerEye α) : PerEye β :=
  ⟨f v.oa, f v.ob, f v.oc, f v.od, f v.sp, f v.en, f v.ex, f v.ul, f v.ds⟩

/-- One value for the roller eyes OA to OD, SP, UL and DS, another for the chain eyes EN and EX (R52). -/
def PerEye.rollerChain {α : Type} (roller chain : α) : PerEye α :=
  ⟨roller, roller, roller, roller, roller, chain, chain, roller, roller⟩

/-- One value per node. -/
structure PerNode (α : Type) where
  panel : α
  tunnel : α
  drive : α
  unload : α
  stationA : α
  stationB : α
  stationC : α
  stationD : α
deriving DecidableEq, Repr

/-- The value of a node. -/
def PerNode.get {α : Type} (v : PerNode α) : Node → α
  | .panel => v.panel
  | .tunnel => v.tunnel
  | .drive => v.drive
  | .unload => v.unload
  | .station .a => v.stationA
  | .station .b => v.stationB
  | .station .c => v.stationC
  | .station .d => v.stationD

/-- The values with that of one node replaced. -/
def PerNode.set {α : Type} (v : PerNode α) (n : Node) (y : α) : PerNode α :=
  match n with
  | .panel => { v with panel := y }
  | .tunnel => { v with tunnel := y }
  | .drive => { v with drive := y }
  | .unload => { v with unload := y }
  | .station .a => { v with stationA := y }
  | .station .b => { v with stationB := y }
  | .station .c => { v with stationC := y }
  | .station .d => { v with stationD := y }

/-- The values, each treated by `f`. -/
def PerNode.map {α β : Type} (f : α → β) (v : PerNode α) : PerNode β :=
  ⟨f v.panel, f v.tunnel, f v.drive, f v.unload, f v.stationA, f v.stationB, f v.stationC, f v.stationD⟩

/-- One value for all nodes. -/
def PerNode.const {α : Type} (y : α) : PerNode α := ⟨y, y, y, y, y, y, y, y⟩

/-- One value per line command. -/
structure PerCommand (α : Type) where
  stop : α
  clear : α
  setup : α
  commit : α
  hold : α
  drain : α
  run : α
deriving DecidableEq, Repr

/-- The value of a line command. -/
def PerCommand.get {α : Type} (v : PerCommand α) : LineCommand → α
  | .stop => v.stop
  | .clear => v.clear
  | .setup => v.setup
  | .commit => v.commit
  | .hold => v.hold
  | .drain => v.drain
  | .run => v.run

/-- The values with that of one line command replaced. -/
def PerCommand.set {α : Type} (v : PerCommand α) (c : LineCommand) (y : α) : PerCommand α :=
  match c with
  | .stop => { v with stop := y }
  | .clear => { v with clear := y }
  | .setup => { v with setup := y }
  | .commit => { v with commit := y }
  | .hold => { v with hold := y }
  | .drain => { v with drain := y }
  | .run => { v with run := y }

/-- One value for all line commands. -/
def PerCommand.const {α : Type} (y : α) : PerCommand α := ⟨y, y, y, y, y, y, y⟩

/-! ## Settings (R202) -/

/-- The settings that have a stored and a working value (R201, R202). HEAT_TIMEOUT is in seconds, the other times in
milliseconds. -/
structure Settings where
  outfeedCap : Nat
  spurCap : Nat
  accumCap : Nat
  unloadCap : Nat
  returnCap : Nat
  tunnelCells : Nat
  eyeCheck : PerEye Nat
  rackMin : PerEye Nat
  rackMax : PerEye Nat
  jamLimit : PerEye Nat
  pitchCounts : Nat
  zoneLen : PerZone Nat
  exitWindow : Nat
  stallLimit : Nat
  classSpeed : Vector Nat 8
  idleSpeed : Nat
  creditPeriod : Nat
  zoneBase : PerZone Nat
  zoneStep : PerZone Nat
  zoneWeight : PerZone (Vector Nat 16)
  classTarget : Vector Nat 8
  rinseFloor : Nat
  rewashLimit : Nat
  mergeWindow : Nat
  dispatchWindow : Nat
  heatTimeout : Nat
  settleTimeout : Nat
  framePeriod : Nat
deriving DecidableEq, Repr

/-- The fix point chosen by FIX_POINT (R19). -/
inductive FixPoint where
  | merge
  | entry
deriving DecidableEq, Repr

/-- The three single-valued settings (R201): the value SET writes is the one the part works by. -/
structure SingleSettings where
  rackLimit : Nat
  unknownClass : Fin 8
  fixPoint : FixPoint
deriving DecidableEq, Repr

/-- The defaults of R202. -/
def Settings.default : Settings where
  outfeedCap := 3
  spurCap := 3
  accumCap := 12
  unloadCap := 6
  returnCap := 16
  tunnelCells := 16
  eyeCheck := PerEye.rollerChain 5 5
  rackMin := PerEye.rollerChain 300 4000
  rackMax := PerEye.rollerChain 900 20000
  jamLimit := PerEye.rollerChain 4000 40000
  pitchCounts := 600
  zoneLen := ⟨2, 6, 3, 2, 3⟩
  exitWindow := 5000
  stallLimit := 30000
  classSpeed := #v[2, 2, 1, 1, 1, 1, 0, 0]
  idleSpeed := 2
  creditPeriod := 100
  zoneBase := ⟨0, 110, 120, 160, 0⟩
  zoneStep := ⟨1, 6, 6, 2, 1⟩
  zoneWeight :=
    ⟨#v[0, 0, 0, 0, 0, 0, 0, 0, 0, 0, 0, 0, 0, 0, 0, 0],
     #v[1, 2, 3, 4, 5, 6, 7, 8, 8, 8, 8, 8, 8, 8, 8, 8],
     #v[1, 1, 2, 2, 3, 3, 4, 4, 4, 4, 4, 4, 4, 4, 4, 4],
     #v[2, 4, 6, 8, 10, 12, 12, 12, 12, 12, 12, 12, 12, 12, 12, 12],
     #v[0, 0, 0, 0, 0, 0, 0, 0, 0, 0, 0, 0, 0, 0, 0, 0]⟩
  classTarget := #v[3000, 4500, 6000, 6000, 7500, 4500, 9000, 10000]
  rinseFloor := 164
  rewashLimit := 2
  mergeWindow := 6000
  dispatchWindow := 6000
  heatTimeout := 900
  settleTimeout := 3000
  framePeriod := 1

/-! ## Rack Table (chapter 1) -/

/-- The states of a record (R10). -/
inductive RackState where
  | empty | loading | loaded | inWash | clean | short | rejected
deriving DecidableEq, Repr

/-- The set of verdict reasons (R5). -/
structure Reasons where
  lowCredit : Bool
  noRinse : Bool
  coldRinse : Bool
  sensorFault : Bool
  forced : Bool
deriving DecidableEq, Repr

/-- No reason. -/
def Reasons.none : Reasons := ⟨false, false, false, false, false⟩

/-- The record of a rack (R5). Its number is the number of its slot, and its location is that of the place that holds
its number (R6, R29; notes/assumptions/9.md). -/
structure Record where
  state : RackState
  origin : Option Station
  bornUnknown : Bool
  load : List LoadEntry
  ceiling : Fin 8
  credit : Nat
  rinseMin : Option Nat
  rinseSamples : Nat
  sensorFault : Bool
  reasons : Reasons
  rewash : Nat
  fixed : Bool
deriving DecidableEq, Repr

/-- The values a record takes when REGISTER allocates it (R5). -/
def Record.registered : Record where
  state := .empty
  origin := none
  bornUnknown := false
  load := []
  ceiling := 0
  credit := 0
  rinseMin := none
  rinseSamples := 0
  sensorFault := false
  reasons := Reasons.none
  rewash := 0
  fixed := false

/-! ## Lane Block (chapter 2) -/

/-- An exit, merge or dispatch window: running with its remaining time in milliseconds, or stopped because its eye is
blocked (R85, R139, R148). -/
inductive Window where
  | timing (remaining : Nat)
  | arriving
deriving DecidableEq, Repr

/-- A record in the exit transit with its exit window (R85). -/
structure XtEntry where
  rack : RecNo
  window : Window
deriving DecidableEq, Repr

/-- The reasons for which a record is on OFF (R34). -/
inductive OffReason where
  | overflow | entryDouble | noDestination | transitOverflow | exitMissing
deriving DecidableEq, Repr

/-- An entry of the off-track list (R34). -/
structure OffEntry where
  rack : RecNo
  reason : OffReason
deriving DecidableEq, Repr

/-- The places of the loop (R27) and the finish-order list (R35), heads first; the tunnel cells from cell 0 on. -/
structure Lanes where
  lp : PerStation (Option RecNo)
  outfeed : PerStation (List RecNo)
  spur : List RecNo
  acc : List RecNo
  cells : List (Option RecNo)
  xt : List XtEntry
  unl : List RecNo
  ret : List RecNo
  off : List OffEntry
  finishOrder : List RecNo
deriving DecidableEq, Repr

/-! ## Trackpoint Unit (chapter 3) -/

/-- The kinds of anomaly (R65, R67). -/
inductive AnomalyKind where
  | none | debris | phantom | ungranted | overflow | double | jam | entryDouble | exitMissing
  | unloadSkipped | tableFull | mergeTimeout | dispatchTimeout | transitOverflow | noDestination
deriving DecidableEq, Repr

/-- An anomaly record (R65). -/
structure Anomaly where
  kind : AnomalyKind
  rack : Option RecNo
  pending : Bool
deriving DecidableEq, Repr

/-- A blockage in progress (R51, R55): its length in milliseconds and its marks. The JAMMED condition is present while
a blockage in progress has its jam-declared mark (R58; notes/assumptions/9.md). -/
structure Blockage where
  length : Nat
  isReset : Bool
  jamDeclared : Bool
deriving DecidableEq, Repr

/-- The state of one trackpoint (R51). -/
structure Trackpoint where
  blocked : Bool
  runCount : Nat
  start : Bool
  blockage : Option Blockage
  jamTimer : Option Nat
  anomaly : Anomaly
deriving DecidableEq, Repr

/-- The ESTOP input filter (R70). -/
structure EstopInput where
  active : Bool
  runCount : Nat
deriving DecidableEq, Repr

/-! ## Tunnel Sequencer (chapter 4) -/

/-- The state of the Tunnel Sequencer (section 4.10). The gate, the speed code and the occupancy map follow from the
rest of the state (R80, R81, R94; notes/assumptions/9.md). -/
structure Tunnel where
  pitch : Nat
  admissionUsed : Bool
  permit : Bool
  stall : Option Nat
deriving DecidableEq, Repr

/-! ## Heat Credit Unit (chapter 5) -/

/-- A zone input record (R97). The data state follows from the raw temperature; the absent raw temperature is NO_DATA. -/
structure ZoneInput where
  raw : Option Octet
  pump : Bool
  reseed : Bool
  filter : Nat
  effective : Nat
deriving DecidableEq, Repr

/-- The state of the Heat Credit Unit (R97, R101). -/
structure Heat where
  zones : PerZone ZoneInput
  sampleTimer : Nat
deriving DecidableEq, Repr

/-! ## Unload Controller (chapter 6) -/

/-- The diverter position (R122), and the destination of a release: RETURN toward RET, SPUR toward SPUR. -/
inductive Diverter where
  | toReturn
  | toSpur
deriving DecidableEq, Repr

/-- An open unload release (R122, R127). -/
structure Release where
  rack : RecNo
  toward : Diverter
deriving DecidableEq, Repr

/-- The state of the Unload Controller (R122). -/
structure Unload where
  diverter : Diverter
  release : Option Release
deriving DecidableEq, Repr

/-! ## Arbiters (chapter 7) -/

/-- The source of a merge grant (R139). -/
inductive MergeSource where
  | station (x : Station)
  | spur
deriving DecidableEq, Repr

/-- An open merge grant (R139). `reopened` is the MODEL's mark (notes/assumptions/27.md): the expiry of a grant to the
same source opened this one in the millisecond that passes, so that a *blocked* event of that millisecond falls together
with the expiry (R147). -/
structure MergeGrant where
  source : MergeSource
  window : Window
  reopened : Bool
deriving DecidableEq, Repr

/-- The priority classes and the last target as the expiry of a dispatch grant left them (R155). -/
structure DispatchRound where
  deferred : PerStation Bool
  lastTarget : Option Station
deriving DecidableEq, Repr

/-- An open dispatch grant (R148). `reopened` is the MODEL's mark (notes/assumptions/27.md): the expiry of a grant opened
this one in the millisecond that passes, and left the classes and the last target it holds, so that a *blocked* event of
that millisecond falls together with the expiry (R157). -/
structure DispatchGrant where
  target : Station
  window : Window
  reopened : Option DispatchRound
deriving DecidableEq, Repr

/-- The state of the Dispatch Arbiter (R148). -/
structure Dispatch where
  deferred : PerStation Bool
  grant : Option DispatchGrant
  lastTarget : Option Station
deriving DecidableEq, Repr

/-! ## Loop Executor (chapter 8) -/

/-- The issuer of a line command (R160). -/
inductive Issuer where
  | node (n : Node)
  | internal
deriving DecidableEq, Repr

/-- The state STARTING returns to when its heat timer expires (R159, R167). -/
inductive Origin where
  | ready
  | hold
deriving DecidableEq, Repr

/-- The loop state (R159). STARTING carries its origin and the issuer of the RUN that began it, HOLDING the issuer of
the HOLD that began it (R165, R168; notes/assumptions/20.md). -/
inductive LoopState where
  | idle
  | ready
  | starting (origin : Origin) (issuer : Issuer)
  | run
  | holding (issuer : Issuer)
  | hold
  | stopped
deriving DecidableEq, Repr

/-- The outcomes of a command (R164). -/
inductive OutcomeKind where
  | none | inProgress | done | illegal | blocked | cancelled | failed | invalidConfig
deriving DecidableEq, Repr

/-- The checks of COMMIT (R173), in order. -/
inductive CommitCheck where
  | zoneLayout | eyeOrder | laneFill | cellRange | rackCount
deriving DecidableEq, Repr

/-- A failed check with its item; 0 where the check reports none (R173, R195). -/
structure CommitFailure where
  check : CommitCheck
  item : Nat
deriving DecidableEq, Repr

/-- An outcome record (R164). -/
structure OutcomeRecord where
  kind : OutcomeKind
  issuer : Option Issuer
  failure : Option CommitFailure
deriving DecidableEq, Repr

/-- A hold cause (R169). -/
inductive HoldCause where
  | jam (e : Eye)
  | tunnelStall | tunnelAbsent | tunnelNotReady | driveNotReady
  | overflow | entryDouble | exitMissing | transitOverflow
deriving DecidableEq, Repr

/-- The hold-cause set; JAM with its set of trackpoints (R159, R162). JAM is in the set while that set is not empty. -/
structure HoldCauses where
  jam : PerEye Bool
  tunnelStall : Bool
  tunnelAbsent : Bool
  tunnelNotReady : Bool
  driveNotReady : Bool
  overflow : Bool
  entryDouble : Bool
  exitMissing : Bool
  transitOverflow : Bool
deriving DecidableEq, Repr

/-- The empty hold-cause set. -/
def HoldCauses.none : HoldCauses :=
  ⟨PerEye.rollerChain false false, false, false, false, false, false, false, false, false⟩

/-- A stop cause (R170). -/
inductive StopCause where
  | estop | driveFault | driveAbsent | tableFull
deriving DecidableEq, Repr

/-- The stop-cause set (R159). -/
structure StopCauses where
  estop : Bool
  driveFault : Bool
  driveAbsent : Bool
  tableFull : Bool
deriving DecidableEq, Repr

/-- The empty stop-cause set. -/
def StopCauses.none : StopCauses := ⟨false, false, false, false⟩

/-- The state of the Loop Executor (R159). The drain flag is set while `drain` holds the issuer of the DRAIN most
recently taken (R175; notes/assumptions/20.md). -/
structure Executor where
  loop : LoopState
  drain : Option Issuer
  vector : PerCommand (Option Issuer)
  outcomes : PerCommand OutcomeRecord
  holdCauses : HoldCauses
  stopCauses : StopCauses
  heatTimer : Option Nat
  settleTimer : Option Nat
deriving DecidableEq, Repr

/-! ## Line Interface (chapter 9) -/

/-- The codes of the tunnel node (R179), the first code first. -/
inductive TunnelCode where
  | off | heating | ready | fault
deriving DecidableEq, Repr

/-- The codes of the drive node (R179), the first code first. -/
inductive DriveCode where
  | off | ready | running | fault | estop
deriving DecidableEq, Repr

/-- The codes of a station node (R179), the first code first. -/
inductive StationCode where
  | idle | want
deriving DecidableEq, Repr

/-- The state of a message channel (R184). -/
inductive ChannelState where
  | idle | receiving | sending | discarding
deriving DecidableEq, Repr

/-- A message channel (R184). `moved` is set when an octet is taken or acknowledged at the frame end being treated, so
that the frame is not counted as one without a take or an acknowledgement (R185, R186; notes/assumptions/11.md); between
commands it is clear. -/
structure Channel where
  state : ChannelState
  request : List Octet
  refS : Bool
  gap : Bool
  tk : Bool
  response : List Octet
  index : Nat
  s : Bool
  refTK : Bool
  frames : Nat
  moved : Bool
deriving DecidableEq, Repr

/-- The values a channel takes after reset and after each teardown (R184). -/
def Channel.reset : Channel where
  state := .idle
  request := []
  refS := false
  gap := true
  tk := false
  response := []
  index := 0
  s := false
  refTK := false
  frames := 0
  moved := false

/-- What the Line Interface holds for one node (R180, R181, R184, R189): presence, idle-frame count, the accepted
values of its code slot and of its message pair, its channel and its attention mark. -/
structure NodeLine where
  present : Bool
  idleFrames : Nat
  acceptedCode : Option Octet
  acceptedPair : Option (Octet × Octet)
  channel : Channel
  attention : Bool
deriving DecidableEq, Repr

/-- A node after reset (R190). -/
def NodeLine.reset : NodeLine where
  present := false
  idleFrames := 0
  acceptedCode := none
  acceptedPair := none
  channel := Channel.reset
  attention := false

/-- The state of the Line Interface (chapter 9): the number and the period of the frame in progress, the content of its
30 down slots, fixed at its start (R178), the raw up slots of the frame before (R180), the accepted values of the
temperature and pump-map slots, the held codes (the panel and the unload node have one code only, PRESENT), and the eight
nodes. -/
structure Line where
  frame : Nat
  period : Nat
  down : List Octet
  previous : Option (List Octet)
  acceptedTemperature : PerZone (Option Octet)
  acceptedPump : Option Octet
  tunnelCode : TunnelCode
  driveCode : DriveCode
  stationCode : PerStation StationCode
  nodes : PerNode NodeLine
deriving DecidableEq, Repr

/-! ## The whole part -/

/-- The response the Request Decoder formed last, and the node it answers: the MODEL's own field
(notes/assumptions/1.md). -/
structure Answer where
  node : Node
  octets : List Octet
deriving DecidableEq, Repr

/-- The state of the part: one field per block, the settings, and the fields of the model's own: the last answer, the
number of free choices drawn so far (notes/assumptions/8.md), and the queue of commands that wait. -/
structure State where
  slots : Vector (Option Record) 64
  lanes : Lanes
  eyes : PerEye Trackpoint
  estop : EstopInput
  tunnel : Tunnel
  heat : Heat
  unload : Unload
  merge : Option MergeGrant
  dispatch : Dispatch
  executor : Executor
  line : Line
  stored : Settings
  working : Settings
  single : SingleSettings
  answer : Option Answer
  draws : Nat
  pending : List Instr
deriving DecidableEq, Repr

/-- The ways a command can stop the part. There is none: the spec gives every command of the table an effect in every
state. Safe. -/
inductive Fault where
deriving DecidableEq, Repr

/-- The ways a command can be refused. -/
inductive Refusal where
  /-- Raised by `exec` alone, for a command of the table that has no meaning yet. Safe: the machine stops. -/
  | notModelled (mnemonic : String)
deriving DecidableEq, Repr

/-- The Lane Block after reset (R50): every place empty, the tunnel with its default number of cells. -/
def Lanes.reset : Lanes where
  lp := PerStation.const none
  outfeed := PerStation.const []
  spur := []
  acc := []
  cells := List.replicate 16 none
  xt := []
  unl := []
  ret := []
  off := []
  finishOrder := []

/-- A trackpoint after reset (R51, R65). -/
def Trackpoint.reset : Trackpoint where
  blocked := false
  runCount := 0
  start := true
  blockage := none
  jamTimer := none
  anomaly := ⟨.none, none, false⟩

/-- A zone input record after reset (R97). -/
def ZoneInput.reset : ZoneInput where
  raw := none
  pump := false
  reseed := true
  filter := 0
  effective := 0

/-- The Loop Executor after reset (R159). -/
def Executor.reset : Executor where
  loop := .idle
  drain := none
  vector := PerCommand.const none
  outcomes := PerCommand.const ⟨.none, none, none⟩
  holdCauses := HoldCauses.none
  stopCauses := StopCauses.none
  heatTimer := none
  settleTimer := none

/-- The down slots of the first frame after reset (R179, R188): frame number 0, IDLE, no mark, no permit, no merge gate
source, no dispatch target with speed code 2, no zone mark, every message slot idle, and FFh in slots 23 to 29. -/
def resetDown : List Octet :=
  [0x00, 0x00, 0x00, 0x00, 0x00, 0x20, 0x00,
    0xFF, 0x80, 0xFF, 0x80, 0xFF, 0x80, 0xFF, 0x80, 0xFF, 0x80, 0xFF, 0x80, 0xFF, 0x80, 0xFF, 0x80,
    0xFF, 0xFF, 0xFF, 0xFF, 0xFF, 0xFF, 0xFF]

/-- The Line Interface after reset (R190). -/
def Line.reset : Line where
  frame := 0
  period := 1
  down := resetDown
  previous := none
  acceptedTemperature := PerZone.const none
  acceptedPump := none
  tunnelCode := .off
  driveCode := .off
  stationCode := PerStation.const .idle
  nodes := PerNode.const NodeLine.reset

/-- The part right after a hardware reset (R1, R50, R51, R70, section 4.10, R97, R120, R122, R139, R148, R159, R190,
R202), with an empty queue. -/
def State.reset : State where
  slots := Vector.replicate 64 none
  lanes := Lanes.reset
  eyes := PerEye.rollerChain Trackpoint.reset Trackpoint.reset
  estop := ⟨false, 0⟩
  tunnel := ⟨600, false, false, none⟩
  heat := ⟨PerZone.const ZoneInput.reset, 100⟩
  unload := ⟨.toReturn, none⟩
  merge := none
  dispatch := ⟨PerStation.const false, none, none⟩
  executor := Executor.reset
  line := Line.reset
  stored := Settings.default
  working := Settings.default
  single := ⟨48, 7, .entry⟩
  answer := none
  draws := 0
  pending := []

end Sys2Proof.Machine
end

