-- ==== Sys2Proof/Machine/Flags.lean ====
section
/-! DEFINITION. The conditions the blocks read from one another's state: everything the spec calls "worked out again" at
each change is a function of the state here (notes/assumptions/9.md). -/

namespace Sys2Proof.Machine

/-! ## Rack Table and Lane Block -/

/-- The record of a slot, none when the slot is free (R1). -/
def State.record (s : State) (n : RecNo) : Option Record := s.slots.get n

/-- The allocation count (R1). -/
def State.allocationCount (s : State) : Nat := allRecNos.countP fun n => (s.record n).isSome

/-- The lowest-numbered free slot (R2). -/
def State.lowestFree (s : State) : Option RecNo := allRecNos.find? fun n => (s.record n).isNone

/-- The records a place holds, in its order (R30, R34; the cells of TUN upward, without the empty ones). -/
def Lanes.contents (l : Lanes) : Place → List RecNo
  | .lp x => (l.lp.get x).toList
  | .outfeed x => l.outfeed.get x
  | .spur => l.spur
  | .acc => l.acc
  | .tun => l.cells.filterMap id
  | .xt => l.xt.map (·.rack)
  | .unl => l.unl
  | .ret => l.ret
  | .off => l.off.map (·.rack)
  | .finishOrder => l.finishOrder

/-- The place that holds a record (R29). -/
def Lanes.placeOf (l : Lanes) (n : RecNo) : Option Place :=
  Place.holding.find? fun p => decide (n ∈ l.contents p)

/-- The index of a record in the place that holds it: its cell in TUN, 0 at a loading position, else its distance from
the head (R6, R29). -/
def Lanes.indexOf (l : Lanes) (p : Place) (n : RecNo) : Nat :=
  match p with
  | .tun => l.cells.idxOf (some n)
  | .lp _ | .outfeed _ | .spur | .acc | .xt | .unl | .ret | .off | .finishOrder =>
    (l.contents p).idxOf n

/-- The off-track reason of a record on OFF (R6, R34). -/
def Lanes.offReasonOf (l : Lanes) (n : RecNo) : Option OffReason :=
  (l.off.find? fun e => e.rack = n).map (·.reason)

/-- The loading position that holds a record (R31). -/
def Lanes.stationOf (l : Lanes) (n : RecNo) : Option Station :=
  Station.all.find? fun x => l.lp.get x = some n

/-- The record of the last tunnel cell (R32). -/
def Lanes.lastCell (l : Lanes) : Option RecNo := l.cells.getLast?.join

/-- Cell 0 is empty (R81). -/
def Lanes.cellZeroEmpty (l : Lanes) : Bool := l.cells.head? = some none

/-- The place has no room for one more record under the working capacities (R27, R42): a loading position that is
occupied, cell 0 holding a record, a FIFO at its capacity. OFF has room for every record. -/
def State.isFull (s : State) : Place → Bool
  | .lp x => (s.lanes.lp.get x).isSome
  | .outfeed x => s.working.outfeedCap ≤ (s.lanes.outfeed.get x).length
  | .spur => s.working.spurCap ≤ s.lanes.spur.length
  | .acc => s.working.accumCap ≤ s.lanes.acc.length
  | .tun => !s.lanes.cellZeroEmpty
  | .xt => 2 ≤ s.lanes.xt.length
  | .unl => s.working.unloadCap ≤ s.lanes.unl.length
  | .ret => s.working.returnCap ≤ s.lanes.ret.length
  | .off | .finishOrder => false

/-! ## Trackpoint Unit -/

/-- A blockage is in progress at the trackpoint (R51). -/
def State.isBlocked (s : State) (e : Eye) : Bool := (s.eyes.get e).blockage.isSome

/-- The trackpoint has a blockage in progress with its jam-declared mark. -/
def Trackpoint.jammed (t : Trackpoint) : Bool := t.blockage.any (·.jamDeclared)

/-- The JAMMED condition of some trackpoint is present (R58). -/
def State.anyJammed (s : State) : Bool := Eye.all.any fun e => (s.eyes.get e).jammed

/-! ## Line Interface -/

/-- The node is present (R181). -/
def State.present (s : State) (n : Node) : Bool := (s.line.nodes.get n).present

/-- The raised attention marks are read by node (R189). -/
def State.attention (s : State) (n : Node) : Bool := (s.line.nodes.get n).attention

/-! ## Loop Executor -/

/-- The loop state is RUN. -/
def LoopState.isRun : LoopState → Bool
  | .run => true
  | .idle | .ready | .starting _ _ | .holding _ | .hold | .stopped => false

/-- STARTING and HOLDING are the busy states (R159). -/
def LoopState.isBusy : LoopState → Bool
  | .starting _ _ | .holding _ => true
  | .idle | .ready | .run | .hold | .stopped => false

/-- The loop state is IDLE. -/
def LoopState.isIdle : LoopState → Bool
  | .idle => true
  | .ready | .starting _ _ | .run | .holding _ | .hold | .stopped => false

/-- The loop is in RUN. -/
def State.inRun (s : State) : Bool := s.executor.loop.isRun

/-- What STARTING waits for (R167): the tunnel node present with code READY, the drive node present with code READY or
RUNNING, ESTOP released. -/
def State.startingCondition (s : State) : Bool :=
  s.present .tunnel && s.line.tunnelCode = .ready
    && s.present .drive && (s.line.driveCode = .ready || s.line.driveCode = .running)
    && !s.estop.active

/-- A drive code FAULT or ESTOP (R170, R172). -/
def DriveCode.isFault : DriveCode → Bool
  | .fault | .estop => true
  | .off | .ready | .running => false

/-- The stop conditions that CLEAR tests (R172) are all absent. -/
def State.clearCondition (s : State) : Bool :=
  !s.estop.active && s.present .drive && !s.line.driveCode.isFault

/-- A record that holds the drain open (R175). -/
def Record.isSoiled (r : Record) : Bool :=
  r.state = .loaded || r.state = .inWash || r.state = .short

/-- Drain is complete (R175): no allocated record is LOADED, IN_WASH or SHORT, and XT is empty. -/
def State.drainComplete (s : State) : Bool :=
  s.lanes.xt.isEmpty && allRecNos.all fun n => !(s.record n).any Record.isSoiled

/-- The drain test is made in RUN and HOLD while the flag is set (R175), and it passes. -/
def State.drainDue (s : State) : Bool :=
  s.executor.drain.isSome && (s.inRun || s.executor.loop = .hold) && s.drainComplete

/-! ## Tunnel Sequencer -/

/-- The zone a cell belongs to under the given zone lengths (R79). -/
def zoneOfCell (len : PerZone Nat) (i : Nat) : Option Zone :=
  if i < len.z0 then some .preWash
  else if i < len.z0 + len.z1 then some .wash
  else if i < len.z0 + len.z1 + len.z2 then some .powerRinse
  else if i < len.z0 + len.z1 + len.z2 + len.z3 then some .finalRinse
  else if i < len.z0 + len.z1 + len.z2 + len.z3 + len.z4 then some .dryer
  else none

/-- The records in the cells from cell `i` on, each with the zone of its cell. -/
def rackZonesFrom (len : PerZone Nat) : Nat → List (Option RecNo) → List (RecNo × Zone)
  | _, [] => []
  | i, none :: rest => rackZonesFrom len (i + 1) rest
  | i, some n :: rest =>
    match zoneOfCell len i with
    | some z => (n, z) :: rackZonesFrom len (i + 1) rest
    | none => rackZonesFrom len (i + 1) rest

/-- The records standing in tunnel cells, each with the zone of its cell under the working lengths (R79). -/
def State.rackZones (s : State) : List (RecNo × Zone) :=
  rackZonesFrom s.working.zoneLen 0 s.lanes.cells

/-- The entry gate is open (R81). -/
def State.gateOpen (s : State) : Bool :=
  s.inRun && s.lanes.cellZeroEmpty && !s.lanes.acc.isEmpty && !s.tunnel.admissionUsed

/-- The back-pressure condition (R90): the last cell holds a record, and UNL and XT together hold at least UNLOAD_CAP. -/
def State.backPressure (s : State) : Bool :=
  s.lanes.lastCell.isSome && s.working.unloadCap ≤ s.lanes.unl.length + s.lanes.xt.length

/-- The condition under which the tunnel permit is on (R90). -/
def State.permitCondition (s : State) : Bool := s.inRun && !s.backPressure

/-- The mark of a zone in the occupancy map (R80). -/
def State.zoneMark (s : State) (z : Zone) : Bool :=
  s.rackZones.any (fun p => p.2 = z) || (z = .preWash && !s.lanes.acc.isEmpty)

/-- CLASS_SPEED of the class ceiling of a record. -/
def State.speedOf (s : State) (n : RecNo) : Nat :=
  s.working.classSpeed.get ((s.record n).elim 0 (·.ceiling))

/-- The speed code (R94): the least CLASS_SPEED over the records in zones 0 to 3, IDLE_SPEED when there is none. -/
def State.speedCode (s : State) : Nat :=
  match (s.rackZones.filter fun p => p.2 ≠ .dryer).map fun p => s.speedOf p.1 with
  | [] => s.working.idleSpeed
  | v :: rest => rest.foldl min v

/-! ## Unload Controller -/

/-- The treatment of a head of UNL (R123): the diverter position it calls for, and whether a release is given for it.
None where R123 says that the state does not occur at the head (notes/assumptions/18.md). -/
def Record.treatment (r : Record) : Option (Diverter × Bool) :=
  match r.state with
  | .clean => some (.toReturn, r.load.isEmpty)
  | .empty => some (.toReturn, true)
  | .short => some (.toSpur, true)
  | .rejected => some (.toSpur, false)
  | .loading | .loaded | .inWash => none

/-- The place a diverter position leads to (R36). -/
def Diverter.place : Diverter → Place
  | .toReturn => .ret
  | .toSpur => .spur

/-- The head of UNL with its record (R122). -/
def State.unloadHead (s : State) : Option (RecNo × Record) :=
  match s.lanes.unl.head? with
  | some n => (s.record n).map fun r => (n, r)
  | none => none

/-! ## Arbiters -/

/-- The trackpoint of a merge source (R139). -/
def MergeSource.eye : MergeSource → Eye
  | .station x => .outfeed x
  | .spur => .sp

/-- The station whose outfeed holds a record (R141). -/
def Lanes.outfeedOf (l : Lanes) (n : RecNo) : Option Station :=
  Station.all.find? fun x => decide (n ∈ l.outfeed.get x)

/-- The chosen source of a merge decision (R141): the spur first, else the station whose outfeed holds the first record
of the finish-order list. -/
def Lanes.chosenSource (l : Lanes) : Option MergeSource :=
  if l.spur.isEmpty then
    match l.finishOrder.head? with
    | some n => (l.outfeedOf n).map .station
    | none => none
  else some .spur

/-- The head record of a merge source (R145). -/
def Lanes.sourceHeadOf (l : Lanes) : MergeSource → Option RecNo
  | .station x => (l.outfeed.get x).head?
  | .spur => l.spur.head?

/-- A station is a claimant (R149): its node present with code WANT, its loading position empty. -/
def State.claimant (s : State) (x : Station) : Bool :=
  s.present (.station x) && s.line.stationCode.get x = .want && (s.lanes.lp.get x).isNone

/-- The claimants by letter (R149). -/
def State.claimants (s : State) : List Station := Station.all.filter s.claimant

/-! ## The permission that covers a passage -/

/-- A permission is open that covers a passage at the trackpoint (R36); EX needs none. -/
def State.covers (s : State) : Eye → Bool
  | .outfeed x => s.merge.any fun g => g.source = .station x
  | .sp => s.merge.any fun g => g.source = .spur
  | .en => s.gateOpen
  | .ex => true
  | .ul => s.unload.release.isSome
  | .ds => s.dispatch.grant.isSome

end Sys2Proof.Machine
end

