-- ==== Sys2Proof/Machine/Ops.lean ====
section
/-! DEFINITION. The named operations over the Rack Table, the places, the anomaly records, the attention marks and the
outcome records. -/

namespace Sys2Proof.Machine

/-! ## Rack Table -/

/-- Slot `n` takes a record, or becomes free (R1). -/
def State.setSlot (s : State) (n : RecNo) (r : Option Record) : State :=
  { s with slots := s.slots.set n.val r n.isLt }

/-- The record of slot `n`, where there is one, is treated by `f`. -/
def State.updateRecord (s : State) (n : RecNo) (f : Record → Record) : State :=
  match s.record n with
  | some r => s.setSlot n (some (f r))
  | none => s

/-- The first column of R11: UNLOADED, a UL passage into RET, PLACE into RET. -/
def Record.emptied (_ : Record) : Record := Record.registered

/-- The heat fields, the sensor-fault flag and the verdict reasons cleared (R11, every column). -/
def Record.heatCleared (r : Record) : Record :=
  { r with
    credit := 0
    rinseMin := none
    rinseSamples := 0
    sensorFault := false
    reasons := Reasons.none }

/-- The second column of R11: a UL passage into SPUR (R12). -/
def Record.enteredSpur (r : Record) : Record :=
  { r.heatCleared with state := .loaded, rewash := min 7 (r.rewash + 1), fixed := true }

/-- The third column of R11: PLACE into SPUR (R24). -/
def Record.placedInSpur (r : Record) : Record :=
  { r.heatCleared with state := .loaded, fixed := false }

/-- EMPTY where the load list is empty and LOADING otherwise (R16, R24). -/
def stateByList (es : List LoadEntry) : RackState := if es.isEmpty then .empty else .loading

/-- The fourth column of R11: PLACE into a loading position (R24). -/
def Record.placedAtLoading (r : Record) : Record :=
  { r.heatCleared with state := stateByList r.load, origin := none, fixed := false }

/-- A load list keeps its last 8 entries (R16). -/
def keepLast8 (es : List LoadEntry) : List LoadEntry := es.drop (es.length - 8)

/-- The entries of a LOAD appended, the ceiling raised entry by entry, the list trimmed (R16). -/
def Record.appended (r : Record) (es : List LoadEntry) : Record :=
  { r with
    load := keepLast8 (r.load ++ es)
    ceiling := es.foldl (fun c e => max c e.cls) r.ceiling }

/-- The load list emptied and the ceiling set to 0 where the replace flag is set (R17). -/
def Record.replaced (r : Record) (replace : Bool) : Record :=
  if replace then { r with load := [], ceiling := 0 } else r

/-! ## Places -/

/-- The places with record `n` taken out of whatever holds it (R30 to R35, R47): a FIFO, XT, OFF and the finish-order
list close up, a tunnel cell or a loading position becomes empty. -/
def Lanes.remove (l : Lanes) (n : RecNo) : Lanes :=
  let gone (o : Option RecNo) : Option RecNo := if o = some n then none else o
  let close (q : List RecNo) : List RecNo := q.filter (· ≠ n)
  { lp := ⟨gone l.lp.a, gone l.lp.b, gone l.lp.c, gone l.lp.d⟩
    outfeed := ⟨close l.outfeed.a, close l.outfeed.b, close l.outfeed.c, close l.outfeed.d⟩
    spur := close l.spur
    acc := close l.acc
    cells := l.cells.map gone
    xt := l.xt.filter (·.rack ≠ n)
    unl := close l.unl
    ret := close l.ret
    off := l.off.filter (·.rack ≠ n)
    finishOrder := close l.finishOrder }

/-- Record `n` joins a place at its tail (R30); at a loading position it fills it (R31), in TUN it enters cell 0 (R32).
A place that a record joins by another operation is left as it was. -/
def Lanes.join (l : Lanes) (p : Place) (n : RecNo) : Lanes :=
  match p with
  | .lp x => { l with lp := l.lp.set x (some n) }
  | .outfeed x => { l with outfeed := l.outfeed.set x (l.outfeed.get x ++ [n]) }
  | .spur => { l with spur := l.spur ++ [n] }
  | .acc => { l with acc := l.acc ++ [n] }
  | .tun => { l with cells := l.cells.set 0 (some n) }
  | .unl => { l with unl := l.unl ++ [n] }
  | .ret => { l with ret := l.ret ++ [n] }
  | .finishOrder => { l with finishOrder := l.finishOrder ++ [n] }
  | .xt | .off => l

/-- Record `n` goes to the tail of OFF with its reason (R34). -/
def Lanes.sendOff (l : Lanes) (n : RecNo) (reason : OffReason) : Lanes :=
  { l with off := l.off ++ [⟨n, reason⟩] }

/-- Every place empty, the number of cells kept (R49). -/
def Lanes.purged (l : Lanes) : Lanes :=
  { Lanes.reset with cells := l.cells.map fun _ => none }

/-- The lane contents written. -/
def State.withLanes (s : State) (l : Lanes) : State := { s with lanes := l }

/-! ## Attention marks (R189) -/

/-- What the Line Interface holds for a node is written. -/
def State.setNode (s : State) (n : Node) (v : NodeLine) : State :=
  { s with line := { s.line with nodes := s.line.nodes.set n v } }

/-- The attention mark of a node is raised; an absent node's mark stays clear (R189). -/
def State.raiseMark (s : State) (n : Node) : State :=
  if s.present n then s.setNode n { s.line.nodes.get n with attention := true } else s

/-- The attention mark of a node is cleared (R189). -/
def State.clearMark (s : State) (n : Node) : State :=
  s.setNode n { s.line.nodes.get n with attention := false }

/-! ## Anomaly records (R66) -/

/-- A trackpoint's state is written. -/
def State.setEye (s : State) (e : Eye) (t : Trackpoint) : State :=
  { s with eyes := s.eyes.set e t }

/-- An anomaly is recorded at a trackpoint: kind and record number replaced, pending mark set, the panel node's
attention mark raised (R66). -/
def State.recordAnomaly (s : State) (e : Eye) (kind : AnomalyKind) (rack : Option RecNo) : State :=
  (s.setEye e { s.eyes.get e with anomaly := ⟨kind, rack, true⟩ }).raiseMark .panel

/-- Anomalies of one event are recorded one after the other (R43, R66). -/
def State.recordAnomalies (s : State) (e : Eye) (as : List (AnomalyKind × Option RecNo)) : State :=
  as.foldl (fun t a => t.recordAnomaly e a.1 a.2) s

/-! ## Outcome records (R164) -/

/-- The executor's state is written. -/
def State.withExecutor (s : State) (x : Executor) : State := { s with executor := x }

/-- The attention mark that goes with an issuer: its own, the panel node's for INTERNAL (R164). -/
def Issuer.markOf : Issuer → Node
  | .node n => n
  | .internal => .panel

/-- An outcome record is written, and the mark of its issuer raised (R164). -/
def State.writeOutcome (s : State) (c : LineCommand) (kind : OutcomeKind) (i : Issuer)
    (failure : Option CommitFailure := none) : State :=
  (s.withExecutor
    { s.executor with outcomes := s.executor.outcomes.set c ⟨kind, some i, failure⟩ }).raiseMark i.markOf

/-! ## Windows -/

/-- A *blocked* event at the window's eye: the window is ARRIVING and its timer stops (R86, R143, R153). -/
def Window.onBlocked (_ : Window) : Window := .arriving

/-- A *debris* event at the window's eye: an ARRIVING window returns to TIMING with the full time (R86, R143, R153). -/
def Window.onDebris (w : Window) (full : Nat) : Window :=
  match w with
  | .arriving => .timing full
  | .timing r => .timing r

/-- The window is TIMING. -/
def Window.isTiming : Window → Bool
  | .timing _ => true
  | .arriving => false

end Sys2Proof.Machine
end

