-- ==== Sys2Proof/Machine/Executor.lean ====
section
/-! DEFINITION. The permissions given in RUN (chapters 4, 6 and 7) and the Loop Executor (chapter 8): decisions, drain,
the taking of line commands, internal causes, and what follows a change of the lanes or the records. -/

namespace Sys2Proof.Machine

/-! ## Permissions -/

/-- The tunnel permit is worked out again (R90). The stall timer starts when it turns on and stops when it is off (R92). -/
def State.refreshPermit (s : State) : State :=
  let on := s.permitCondition
  { s with
    tunnel := { s.tunnel with
      permit := on
      stall :=
        if !on then none
        else if s.tunnel.permit then s.tunnel.stall
        else some s.working.stallLimit } }

/-- The unload release is decided (R127): opened in RUN toward the head's destination when the head's treatment gives a
release, the destination has room and UL has no blockage in progress. -/
def State.decideRelease (s : State) : State :=
  if s.unload.release.isSome || !s.inRun || s.isBlocked .ul then s
  else
    match s.unloadHead with
    | some (n, r) =>
      match r.treatment with
      | some (d, true) =>
        if s.isFull d.place then s else { s with unload := { s.unload with release := some ⟨n, d⟩ } }
      | some (_, false) | none => s
    | none => s

/-- The Merge Arbiter decides (R140 to R142): in RUN with no grant, a grant opens with a full window to the chosen
source, when ACC has room and that source's eye has no blockage in progress. -/
def State.decideMerge (s : State) : State :=
  if s.merge.isSome || !s.inRun || s.isFull .acc then s
  else
    match s.lanes.chosenSource with
    | some m => if s.isBlocked m.eye then s else { s with merge := some ⟨m, .timing s.working.mergeWindow, false⟩ }
    | none => s

/-- The classes a decision starts from and its winner (R151): the NORMAL claimant with the lowest letter; where there
are claimants but none is NORMAL, every station returns to NORMAL first. -/
def dispatchChoice (deferred : PerStation Bool) (claimants : List Station) :
    Option (PerStation Bool × Station) :=
  match claimants.find? fun x => !deferred.get x with
  | some x => some (deferred, x)
  | none => claimants.head?.map fun x => (PerStation.const false, x)

/-- The Dispatch Arbiter decides (R150 to R152): in RUN with no grant, when RET holds a record, a station claims and DS
has no blockage in progress, the winner becomes DEFERRED, the last target and the target of a grant with a full window. -/
def State.decideDispatch (s : State) : State :=
  if s.dispatch.grant.isSome || !s.inRun || s.lanes.ret.isEmpty || s.isBlocked .ds then s
  else
    match dispatchChoice s.dispatch.deferred s.claimants with
    | some (classes, x) =>
      { s with dispatch :=
          { deferred := classes.set x true
            grant := some ⟨x, .timing s.working.dispatchWindow, none⟩
            lastTarget := some x } }
    | none => s

/-- The three owners of permissions decide afresh (R166). -/
def State.decideAll (s : State) : State := s.decideRelease.decideMerge.decideDispatch

/-- The permissions withdrawn when the loop leaves RUN (R166): permit and stall timer, release, both grants with their
windows. The entry gate closes with the loop state (R81). -/
def State.withdrawPermissions (s : State) : State :=
  { s with
    tunnel := { s.tunnel with permit := false, stall := none }
    unload := { s.unload with release := none }
    merge := none
    dispatch := { s.dispatch with grant := none } }

/-- The loop enters a state other than RUN; leaving RUN withdraws the permissions (R166). -/
def State.enterLoop (s : State) (l : LoopState) : State :=
  let t := s.withExecutor { s.executor with loop := l }
  if s.inRun then t.withdrawPermissions else t

/-! ## Drain (R175) -/

/-- Drain completes: the flag is cleared, the loop enters READY, DRAIN is written DONE with the issuer of the DRAIN most
recently taken (R175). -/
def State.completeDrain (s : State) (i : Issuer) : State :=
  ((s.withExecutor { s.executor with drain := none }).enterLoop .ready).writeOutcome .drain .done i

/-- The drain test, made in RUN and HOLD while the flag is set (R175). -/
def State.drainTest (s : State) : State :=
  match s.executor.drain with
  | some i => if s.drainDue then s.completeDrain i else s
  | none => s

/-- The next free choice is drawn (notes/assumptions/8.md). -/
def State.draw (s : State) : State := { s with draws := s.draws + 1 }

/-- The drain test beside the other reactions `rest` to the same event. Where the drain completes, which of the two
comes first is a free choice (R176; notes/assumptions/8.md). -/
def State.reacting (s : State) (rest : State → State) : State :=
  if s.drainDue then
    if Config.drainFirst s.draws then rest s.draw.drainTest else (rest s.draw).drainTest
  else rest s

/-! ## STARTING and HOLDING -/

/-- STARTING ends in RUN (R167): the heat timer stops, RUN is written DONE, and every block decides afresh (R166). The
drain is tested at the entry (R175), before the commands left pending are taken: the model's choice
(notes/assumptions/28.md). -/
def State.enterRun (s : State) (i : Issuer) : State :=
  let t := s.withExecutor { s.executor with loop := .run, heatTimer := none }
  (t.writeOutcome .run .done i).refreshPermit.reacting State.decideAll

/-- The test that ends STARTING in RUN (R167). -/
def State.startingTest (s : State) : State :=
  match s.executor.loop with
  | .starting _ i => if s.startingCondition then s.enterRun i else s
  | .idle | .ready | .run | .holding _ | .hold | .stopped => s

/-- HOLDING ends in HOLD (R168): the settle timer stops, HOLD is written DONE with the issuer of the HOLD that began it,
and the drain is tested. -/
def State.endHolding (s : State) (i : Issuer) : State :=
  ((s.withExecutor { s.executor with loop := .hold, settleTimer := none }).writeOutcome .hold .done i).drainTest

/-- The test that ends HOLDING when the drive code is other than RUNNING (R168). -/
def State.holdingTest (s : State) : State :=
  match s.executor.loop with
  | .holding i => if s.line.driveCode = .running then s else s.endHolding i
  | .idle | .ready | .starting _ _ | .run | .hold | .stopped => s

/-! ## The commands as they are taken (R165) -/

/-- The drain flag cleared by STOP or SETUP; an IN_PROGRESS DRAIN is written CANCELLED (R165, R175). -/
def State.clearDrain (s : State) : State :=
  let t := s.withExecutor { s.executor with drain := none }
  let d := s.executor.outcomes.drain
  match d.kind, d.issuer with
  | .inProgress, some i => t.writeOutcome .drain .cancelled i
  | _, _ => t

/-- STOP taken (R165). -/
def State.takeStop (s : State) (i : Issuer) : State :=
  match s.executor.loop with
  | .idle | .stopped => s.clearDrain.writeOutcome .stop .done i
  | .ready | .run | .hold => (s.enterLoop .stopped).clearDrain.writeOutcome .stop .done i
  | .starting _ j =>
    (((s.withExecutor { s.executor with loop := .stopped, heatTimer := none }).writeOutcome .run .cancelled j).clearDrain).writeOutcome
      .stop .done i
  | .holding j =>
    (((s.withExecutor { s.executor with loop := .stopped, settleTimer := none }).writeOutcome .hold .cancelled j).clearDrain).writeOutcome
      .stop .done i

/-- CLEAR taken (R172). In a busy state it is not taken (R163). -/
def State.takeClear (s : State) (i : Issuer) : State :=
  match s.executor.loop with
  | .stopped =>
    if s.clearCondition then
      (s.withExecutor { s.executor with loop := .ready, stopCauses := StopCauses.none }).writeOutcome .clear .done i
    else s.writeOutcome .clear .blocked i
  | .idle | .ready | .run | .hold => s.writeOutcome .clear .illegal i
  | .starting _ _ | .holding _ => s

/-- SETUP taken (R165, R158). In a busy state it is not taken (R163). -/
def State.takeSetup (s : State) (i : Issuer) : State :=
  match s.executor.loop with
  | .ready =>
    let t := s.clearDrain
    let u : State :=
      { t with
        executor := { t.executor with loop := .idle }
        dispatch := { t.dispatch with deferred := PerStation.const false } }
    u.writeOutcome .setup .done i
  | .idle | .run | .hold | .stopped => s.writeOutcome .setup .illegal i
  | .starting _ _ | .holding _ => s

/-- The places of check LANE_FILL with their stored capacities, in the order of R173. -/
def State.laneFills (s : State) : List (Nat × Nat) :=
  [(s.lanes.outfeed.a.length, s.stored.outfeedCap), (s.lanes.outfeed.b.length, s.stored.outfeedCap),
    (s.lanes.outfeed.c.length, s.stored.outfeedCap), (s.lanes.outfeed.d.length, s.stored.outfeedCap),
    (s.lanes.spur.length, s.stored.spurCap), (s.lanes.acc.length, s.stored.accumCap),
    (s.lanes.unl.length, s.stored.unloadCap), (s.lanes.ret.length, s.stored.returnCap)]

/-- The stored zone lengths sum to the stored TUNNEL_CELLS, and zone 3 has a cell (R173, check 1). -/
def Settings.zoneLayoutOk (t : Settings) : Bool :=
  t.zoneLen.z0 + t.zoneLen.z1 + t.zoneLen.z2 + t.zoneLen.z3 + t.zoneLen.z4 = t.tunnelCells
    && t.zoneLen.z3 ≠ 0

/-- The order RACK_MIN < RACK_MAX < JAM_LIMIT at a trackpoint (R52, R173, check 2). -/
def Settings.eyeOrderOk (t : Settings) (e : Eye) : Bool :=
  t.rackMin.get e < t.rackMax.get e && t.rackMax.get e < t.jamLimit.get e

/-- The lowest cell at or above `n` that holds a record (R173, check 4). -/
def Lanes.cellBeyond (l : Lanes) (n : Nat) : Option Nat :=
  (List.range l.cells.length).find? fun i => n ≤ i && l.cells[i]?.join.isSome

/-- The first check of COMMIT that fails, with its item (R173); none where all five pass. -/
def State.commitFailure (s : State) : Option CommitFailure :=
  if !s.stored.zoneLayoutOk then some ⟨.zoneLayout, 0⟩
  else match Eye.all.find? fun e => !s.stored.eyeOrderOk e with
  | some e => some ⟨.eyeOrder, e.index⟩
  | none =>
    match s.laneFills.findIdx? fun p => p.2 < p.1 with
    | some k => some ⟨.laneFill, k⟩
    | none =>
      match s.lanes.cellBeyond s.stored.tunnelCells with
      | some k => some ⟨.cellRange, k⟩
      | none => if s.single.rackLimit < s.allocationCount then some ⟨.rackCount, 0⟩ else none

/-- The cell array with a new number of cells: new cells are empty (R96). -/
def resizeCells (cells : List (Option RecNo)) (n : Nat) : List (Option RecNo) :=
  (cells ++ List.replicate n none).take n

/-- Every stored setting becomes the working one (R174), and the tunnel has its new number of cells (R96). -/
def State.applySettings (s : State) : State :=
  { s with
    working := s.stored
    lanes := { s.lanes with cells := resizeCells s.lanes.cells s.stored.tunnelCells } }

/-- COMMIT taken (R173, R174). In a busy state it is not taken (R163). -/
def State.takeCommit (s : State) (i : Issuer) : State :=
  match s.executor.loop with
  | .idle =>
    match s.commitFailure with
    | some f => s.writeOutcome .commit .invalidConfig i (some f)
    | none => ((s.applySettings.enterLoop .ready).refreshPermit).writeOutcome .commit .done i
  | .ready | .run | .hold | .stopped => s.writeOutcome .commit .illegal i
  | .starting _ _ | .holding _ => s

/-- HOLD taken (R165, R168). In RUN, HOLDING begins with the settle timer, and ends at once where the drive is not
RUNNING; in STARTING the loop enters HOLD directly and the drain is tested (R175), before the commands left pending are
taken: the model's choice (notes/assumptions/28.md). -/
def State.takeHold (s : State) (i : Issuer) : State :=
  match s.executor.loop with
  | .idle | .ready | .stopped => s.writeOutcome .hold .illegal i
  | .hold | .holding _ => s.writeOutcome .hold .done i
  | .starting _ j =>
    (((s.withExecutor { s.executor with loop := .hold, heatTimer := none }).writeOutcome .run .cancelled j).writeOutcome
      .hold .done i).drainTest
  | .run =>
    let t := s.enterLoop (.holding i)
    ((t.withExecutor { t.executor with settleTimer := some t.working.settleTimeout }).writeOutcome
      .hold .inProgress i).holdingTest

/-- DRAIN taken (R175). In a busy state it is not taken (R163). -/
def State.takeDrain (s : State) (i : Issuer) : State :=
  match s.executor.loop with
  | .ready | .run | .hold =>
    if s.drainComplete then s.completeDrain i
    else (s.withExecutor { s.executor with drain := some i }).writeOutcome .drain .inProgress i
  | .idle | .stopped => s.writeOutcome .drain .illegal i
  | .starting _ _ | .holding _ => s

/-- STARTING begins (R167): the origin kept, the heat timer started, the hold-cause set emptied, RUN written
IN_PROGRESS; the test that ends STARTING follows at once. -/
def State.beginStarting (s : State) (origin : Origin) (i : Issuer) : State :=
  ((s.withExecutor
    { s.executor with
      loop := .starting origin i
      heatTimer := some (1000 * s.working.heatTimeout)
      holdCauses := HoldCauses.none }).writeOutcome .run .inProgress i).startingTest

/-- RUN is barred while a trackpoint is JAMMED or ESTOP is active (R165). -/
def State.runBarred (s : State) : Bool := s.anyJammed || s.estop.active

/-- RUN taken (R165, R167). In a busy state it is not taken (R163). -/
def State.takeRun (s : State) (i : Issuer) : State :=
  match s.executor.loop with
  | .ready => if s.runBarred then s.writeOutcome .run .blocked i else s.beginStarting .ready i
  | .hold => if s.runBarred then s.writeOutcome .run .blocked i else s.beginStarting .hold i
  | .run => s.writeOutcome .run .done i
  | .idle | .stopped => s.writeOutcome .run .illegal i
  | .starting _ _ | .holding _ => s

/-! ## The command vector (R160 to R163) -/

/-- The pending bits that the taking of a command cancels (R160). -/
def cancelsOf : LineCommand → List LineCommand
  | .stop => [.hold, .drain, .run, .commit]
  | .setup => [.run, .drain, .hold]
  | .hold => [.run]
  | .clear | .commit | .drain | .run => []

/-- A pending bit is set with its issuer; a bit already set is left as it was (R160). -/
def State.setBit (s : State) (c : LineCommand) (i : Issuer) : State :=
  if (s.executor.vector.get c).isSome then s
  else s.withExecutor { s.executor with vector := s.executor.vector.set c (some i) }

/-- A pending bit is cleared (R163). -/
def State.clearBit (s : State) (c : LineCommand) : State :=
  s.withExecutor { s.executor with vector := s.executor.vector.set c none }

/-- A pending bit is cancelled: cleared, and its command written CANCELLED with the issuer the bit carried (R163). -/
def State.cancelBit (s : State) (c : LineCommand) : State :=
  match s.executor.vector.get c with
  | some i => (s.clearBit c).writeOutcome c .cancelled i
  | none => s

/-- A command is applied to the loop state (R165). -/
def State.applyCommand (s : State) (c : LineCommand) (i : Issuer) : State :=
  match c with
  | .stop => s.takeStop i
  | .clear => s.takeClear i
  | .setup => s.takeSetup i
  | .commit => s.takeCommit i
  | .hold => s.takeHold i
  | .drain => s.takeDrain i
  | .run => s.takeRun i

/-- A command is taken (R163): its bit cleared, the bits R160 names cancelled, the command applied. -/
def State.take (s : State) (c : LineCommand) (i : Issuer) : State :=
  (((cancelsOf c).foldl State.cancelBit (s.clearBit c))).applyCommand c i

/-- The command the executor takes next (R163): the pending one of highest priority, while busy among STOP and HOLD
alone. -/
def State.nextCommand (s : State) : Option LineCommand :=
  LineCommand.all.find? fun c =>
    (s.executor.vector.get c).isSome && (!s.executor.loop.isBusy || c = .stop || c = .hold)

/-- At most `k` pending commands are taken in succession (R163). -/
def State.takeUpTo : Nat → State → State
  | 0, s => s
  | k + 1, s =>
    match s.nextCommand with
    | some c =>
      match s.executor.vector.get c with
      | some i => State.takeUpTo k (s.take c i)
      | none => s
    | none => s

/-- The executor takes pending commands until none can be taken (R163). Seven are enough: each taking clears a bit and
sets none. -/
def State.takeCommands (s : State) : State := State.takeUpTo 7 s

/-! ## Internal causes (R162) -/

/-- The hold-cause set with one cause more (R162). -/
def HoldCauses.add (h : HoldCauses) : HoldCause → HoldCauses
  | .jam e => { h with jam := h.jam.set e true }
  | .tunnelStall => { h with tunnelStall := true }
  | .tunnelAbsent => { h with tunnelAbsent := true }
  | .tunnelNotReady => { h with tunnelNotReady := true }
  | .driveNotReady => { h with driveNotReady := true }
  | .overflow => { h with overflow := true }
  | .entryDouble => { h with entryDouble := true }
  | .exitMissing => { h with exitMissing := true }
  | .transitOverflow => { h with transitOverflow := true }

/-- The stop-cause set with one cause more (R162). -/
def StopCauses.add (h : StopCauses) : StopCause → StopCauses
  | .estop => { h with estop := true }
  | .driveFault => { h with driveFault := true }
  | .driveAbsent => { h with driveAbsent := true }
  | .tableFull => { h with tableFull := true }

/-- An internal hold cause (R162): it enters its set, HOLD is set with issuer INTERNAL, the panel node's mark is raised,
and the executor takes what it may. -/
def State.raiseHold (s : State) (c : HoldCause) : State :=
  (((s.withExecutor { s.executor with holdCauses := s.executor.holdCauses.add c }).raiseMark .panel).setBit
    .hold .internal).takeCommands

/-- An internal stop cause (R162, R170). -/
def State.raiseStop (s : State) (c : StopCause) : State :=
  (((s.withExecutor { s.executor with stopCauses := s.executor.stopCauses.add c }).raiseMark .panel).setBit
    .stop .internal).takeCommands

/-- The internal cause an event gives the executor. -/
inductive Cause where
  | hold (c : HoldCause)
  | stop (c : StopCause)
deriving DecidableEq, Repr

/-- The cause of an event, where it has one, is raised. -/
def State.raise (s : State) : Option Cause → State
  | some (.hold c) => s.raiseHold c
  | some (.stop c) => s.raiseStop c
  | none => s

/-! ## What follows a change of the lanes or the records (R14, R44) -/

/-- The diverter is set to the position the head's treatment calls for (R126); with no head it keeps its position. -/
def State.setDiverter (s : State) : State :=
  match s.unloadHead with
  | some (_, r) =>
    match r.treatment with
    | some (d, _) => { s with unload := { s.unload with diverter := d } }
    | none => s
  | none => s

/-- The rejection check of a new head (R125). -/
def Record.rejectedAt (r : Record) (limit : Nat) : Record :=
  if r.state = .short ∧ limit ≤ r.rewash then { r with state := .rejected } else r

/-- A new head of UNL is taken, where the event gave it one (R124): the rejection check, the diverter, the unload node's
attention mark. The release is decided with the other permissions. -/
def State.takeNewHead (s : State) (before : State) : State :=
  match s.lanes.unl.head? with
  | some n =>
    if before.lanes.unl.head? = some n then s
    else ((s.updateRecord n fun r => r.rejectedAt s.working.rewashLimit).setDiverter).raiseMark .unload
  | none => s

/-- An event at which the Merge Arbiter decides (R140), read from the state before and after it: the end or withdrawal
of a grant, SPUR becoming non-empty, a change of the first record of the finish-order list, a fall of the count of ACC. -/
def mergeDue (before s : State) : Bool :=
  (before.merge.isSome && s.merge.isNone)
    || (before.lanes.spur.isEmpty && !s.lanes.spur.isEmpty)
    || before.lanes.finishOrder.head? ≠ s.lanes.finishOrder.head?
    || s.lanes.acc.length < before.lanes.acc.length

/-- An event at which the Dispatch Arbiter decides (R150): the end or withdrawal of a grant, RET becoming non-empty, a
station becoming a claimant. -/
def dispatchDue (before s : State) : Bool :=
  (before.dispatch.grant.isSome && s.dispatch.grant.isNone)
    || (before.lanes.ret.isEmpty && !s.lanes.ret.isEmpty)
    || Station.all.any fun x => !before.claimant x && s.claimant x

/-- The decisions an event calls for: the release at each change (R127), the arbiters at their events. -/
def State.decideAfter (s : State) (before : State) : State :=
  let t := s.decideRelease
  let u := if mergeDue before s then t.decideMerge else t
  if dispatchDue before s then u.decideDispatch else u

/-- A change of the lanes, the records or the permissions is seen by every block at the event that makes it (R14, R44):
a new head of UNL, the permit, the decisions, then the internal cause the event gives; and the drain test beside them. -/
def State.observe (s : State) (before : State) (cause : Option Cause := none) : State :=
  ((s.takeNewHead before).refreshPermit).reacting fun t => (t.decideAfter before).raise cause

end Sys2Proof.Machine
end

