-- ==== Sys2Proof/Machine/Passage.lean ====
section
/-! DEFINITION. Trackpoints: the edges of a blockage (chapter 3) and the reconciliation of a passage (chapter 2). -/

namespace Sys2Proof.Machine

/-! ## What a passage does (R36 to R43) -/

/-- The head of the source of a trackpoint (R36). -/
def Lanes.sourceHead (l : Lanes) : Eye → Option RecNo
  | .outfeed x => (l.outfeed.get x).head?
  | .sp => l.spur.head?
  | .en => l.acc.head?
  | .ex => l.xt.head?.map (·.rack)
  | .ul => l.unl.head?
  | .ds => l.ret.head?

/-- The head leaves the source of a trackpoint; at OA to OD it leaves the finish-order list too (R35, R37), at EX its
exit window goes with it (R88). -/
def Lanes.pop (l : Lanes) (e : Eye) : Lanes :=
  match e with
  | .outfeed x =>
    match l.outfeed.get x with
    | n :: rest => { l with outfeed := l.outfeed.set x rest, finishOrder := l.finishOrder.filter (· ≠ n) }
    | [] => l
  | .sp => { l with spur := l.spur.tail }
  | .en => { l with acc := l.acc.tail }
  | .ex => { l with xt := l.xt.tail }
  | .ul => { l with unl := l.unl.tail }
  | .ds => { l with ret := l.ret.tail }

/-- The loading position a DS passage delivers to (R39): that of the grant's target, else that of the last target. -/
def Dispatch.deliversTo (d : Dispatch) : Option Station :=
  match d.grant with
  | some g => some g.target
  | none => d.lastTarget

/-- The destination of a passage (R36, R39); none at DS with no grant and no last target. -/
def State.destination (s : State) : Eye → Option Place
  | .outfeed _ | .sp => some .acc
  | .en => some .tun
  | .ex => some .unl
  | .ul => some s.unload.diverter.place
  | .ds => s.dispatch.deliversTo.map .lp

/-- A passage ends the permission that covers its trackpoint (R36); at EN the admission becomes USED (R81). -/
def State.endPermission (s : State) (e : Eye) : State :=
  match e with
  | .outfeed _ | .sp => if s.covers e then { s with merge := none } else s
  | .en => { s with tunnel := { s.tunnel with admissionUsed := true } }
  | .ex => s
  | .ul => { s with unload := { s.unload with release := none } }
  | .ds => { s with dispatch := { s.dispatch with grant := none } }

/-- The changes a passage makes to the moving record (R37): fixed at the merge eyes under FIX_POINT = MERGE, IN_WASH and
fixed at EN, the column of R11 for the diverter's destination at UL. -/
def Record.passed (r : Record) (e : Eye) (fix : FixPoint) (d : Diverter) : Record :=
  match e with
  | .outfeed _ | .sp => { r with fixed := r.fixed || fix = .merge }
  | .en => { r with state := .inWash, fixed := true }
  | .ul =>
    match d with
    | .toSpur => r.enteredSpur
    | .toReturn => r.emptied
  | .ex | .ds => r

/-- The phantom of a trackpoint (R25). DS makes none. -/
def phantomRecord (e : Eye) (single : SingleSettings) (d : Diverter) : Record :=
  let unknown : Record := { Record.registered with bornUnknown := true, ceiling := single.unknownClass }
  match e with
  | .outfeed _ | .sp => { unknown with state := .loaded, fixed := single.fixPoint = .merge }
  | .en => { unknown with state := .inWash, fixed := true }
  | .ex =>
    { unknown with
      state := .short
      reasons := { Reasons.none with lowCredit := true, noRinse := true }
      fixed := true }
  | .ul =>
    match d with
    | .toReturn => { Record.registered with bornUnknown := true }
    | .toSpur => { unknown with state := .loaded, fixed := true }
  | .ds => unknown

/-- What the landing of a record gives: the state, the anomaly of R39 or R42, and the internal cause. -/
structure Landing where
  state : State
  anomalies : List (AnomalyKind × Option RecNo)
  cause : Option Cause

/-- A record lands at its destination, or on OFF where the destination is full (R42) or there is none (R39). A record
delivered into a loading position raises the station's attention mark (R154). -/
def State.land (s : State) (e : Eye) (n : RecNo) : Option Place → Landing
  | none =>
    { state := s.withLanes (s.lanes.sendOff n .noDestination)
      anomalies := [(.noDestination, some n)]
      cause := none }
  | some p =>
    if s.isFull p then
      match p with
      | .tun =>
        { state := s.withLanes (s.lanes.sendOff n .entryDouble)
          anomalies := [(.entryDouble, some n)]
          cause := some (.hold .entryDouble) }
      | .lp _ | .outfeed _ | .spur | .acc | .xt | .unl | .ret | .off | .finishOrder =>
        { state := s.withLanes (s.lanes.sendOff n .overflow)
          anomalies := [(.overflow, some n)]
          cause := some (.hold .overflow) }
    else
      let t := s.withLanes (s.lanes.join p n)
      { state := if e = .ds then (match p with | .lp x => t.raiseMark (.station x) | _ => t) else t
        anomalies := []
        cause := none }

/-- The anomaly of a passage with no permission open (R38). -/
def ungranted (covered : Bool) (n : Option RecNo) : List (AnomalyKind × Option RecNo) :=
  if covered then [] else [(.ungranted, n)]

/-- The anomaly of a UL passage into RET of a record with a load list (R13). -/
def State.unloadSkipped (s : State) (e : Eye) (n : RecNo) : List (AnomalyKind × Option RecNo) :=
  if e = .ul ∧ s.unload.diverter = .toReturn ∧ (s.record n).any (fun r => !r.load.isEmpty) then
    [(.unloadSkipped, some n)]
  else []

/-- The move of an ordinary passage (R37): the head of the source, changed as the passage changes it, lands. -/
def State.ordinaryPassage (s : State) (e : Eye) (n : RecNo) : Landing :=
  let t := s.endPermission e
  let u := (t.withLanes (t.lanes.pop e)).updateRecord n fun r =>
    r.passed e s.single.fixPoint s.unload.diverter
  let m := u.land e n (s.destination e)
  { m with anomalies := ungranted (s.covers e) (some n) ++ s.unloadSkipped e n ++ m.anomalies }

/-- A phantom passage (R40, R41): at DS nothing is created; elsewhere a phantom takes the lowest free slot and lands, or
the table is full. -/
def State.phantomPassage (s : State) (e : Eye) : Landing :=
  let t := s.endPermission e
  if e = .ds then
    { state := t, anomalies := ungranted (s.covers e) none ++ [(.phantom, none)], cause := none }
  else
    match s.lowestFree with
    | some n =>
      let m := (t.setSlot n (some (phantomRecord e s.single s.unload.diverter))).land e n (s.destination e)
      { m with anomalies := ungranted (s.covers e) (some n) ++ [(.phantom, some n)] ++ m.anomalies }
    | none =>
      { state := t
        anomalies := ungranted (s.covers e) none ++ [(.tableFull, none)]
        cause := some (.stop .tableFull) }

/-- A passage is ordinary when its source holds a record and a phantom passage when it holds none (R37, R40). -/
def State.reconcile (s : State) (e : Eye) : Landing :=
  match s.lanes.sourceHead e with
  | some n => s.ordinaryPassage e n
  | none => s.phantomPassage e

/-- A passage at a trackpoint (R36 to R44): reconciled, its anomalies recorded in the order of R43, then seen by every
block. -/
def State.passage (s : State) (e : Eye) : State :=
  let m := s.reconcile e
  (m.state.recordAnomalies e m.anomalies).observe s m.cause

/-! ## The edges of a blockage (R55 to R63) -/

/-- The window of the head of XT is treated by `f` (R86). -/
def Lanes.mapHeadWindow (l : Lanes) (f : Window → Window) : Lanes :=
  match l.xt with
  | x :: rest => { l with xt := { x with window := f x.window } :: rest }
  | [] => l

/-- The window of the merge grant is treated by `f` when the trackpoint is that of its source (R143). -/
def State.mapMergeWindow (s : State) (e : Eye) (f : Window → Window) : State :=
  match s.merge with
  | some g => if g.source.eye = e then { s with merge := some { g with window := f g.window } } else s
  | none => s

/-- The window of the dispatch grant is treated by `f` (R153). -/
def State.mapDispatchWindow (s : State) (f : Window → Window) : State :=
  { s with dispatch := { s.dispatch with grant := s.dispatch.grant.map fun g => { g with window := f g.window } } }

/-- A *blocked* event reaches the Merge Arbiter (R143): the window of a grant to its source becomes ARRIVING. Where that
grant was reopened by an expiry in this millisecond, the source's eye had a blockage in progress as the arbiter decided
again (R147; notes/assumptions/27.md): the decision is taken again with it, so that a grant to this source waits for its
end. -/
def State.mergeBlocked (s : State) (e : Eye) : State :=
  match s.merge with
  | some g =>
    if g.source.eye = e then
      if g.reopened then ({ s with merge := none }).decideMerge
      else { s with merge := some { g with window := g.window.onBlocked } }
    else s
  | none => s

/-- A *blocked* event reaches the Dispatch Arbiter (R153): the window becomes ARRIVING. A grant that an expiry opened in
this millisecond has not opened (R157; notes/assumptions/27.md): the decision waits for the DS blockage to end, and the
classes and the last target stand as the expiry left them (R150, R155). -/
def State.dispatchBlocked (s : State) : State :=
  match s.dispatch.grant with
  | some g =>
    match g.reopened with
    | some r => { s with dispatch := ⟨r.deferred, none, r.lastTarget⟩ }
    | none => { s with dispatch := { s.dispatch with grant := some { g with window := g.window.onBlocked } } }
  | none => s

/-- A *blocked* event is handed to the receiver of the eye (R55). -/
def State.handBlocked (s : State) (e : Eye) : State :=
  match e with
  | .outfeed _ | .sp => s.mergeBlocked e
  | .ex => s.withLanes (s.lanes.mapHeadWindow Window.onBlocked)
  | .ds => s.dispatchBlocked
  | .en | .ul => s

/-- The grants that expiries reopened stand from now on as any other: the millisecond of the expiry is over
(notes/assumptions/27.md). -/
def State.settleGrants (s : State) : State :=
  { s with
    merge := s.merge.map fun g => { g with reopened := false }
    dispatch := { s.dispatch with grant := s.dispatch.grant.map fun g => { g with reopened := none } } }

/-- A *debris* event is handed to the receiver of the eye (R55, R61). -/
def State.handDebris (s : State) (e : Eye) : State :=
  match e with
  | .outfeed _ | .sp => s.mapMergeWindow e (·.onDebris s.working.mergeWindow)
  | .ex => s.withLanes (s.lanes.mapHeadWindow (·.onDebris s.working.exitWindow))
  | .ds => s.mapDispatchWindow (·.onDebris s.working.dispatchWindow)
  | .en | .ul => s

/-- The blocked edge of a trackpoint (R53, R55). -/
def State.blockedEdge (s : State) (e : Eye) : State :=
  let t := s.eyes.get e
  (s.setEye e
    { t with
      blocked := true
      runCount := 0
      blockage := some ⟨0, t.start, false⟩
      jamTimer := some (s.working.jamLimit.get e) }).handBlocked e

/-- A blockage length with one sample more; it saturates at 65535 (R56). -/
def lengthen (l : Nat) : Nat := min 65535 (l + 1)

/-- What the clear edge makes of a blockage (R60). -/
inductive Classification where
  | one | debris | double
deriving DecidableEq, Repr

/-- The classification of a blockage (R60): the first row whose condition holds. -/
def Blockage.classify (b : Blockage) (rackMin rackMax : Nat) : Classification :=
  if b.jamDeclared then .one
  else if b.isReset then .one
  else if b.length < rackMin then .debris
  else if b.length ≤ rackMax then .one
  else .double

/-- The end of a blockage (R60) is an event at which the owner of the eye's permission decides (R127, R140, R150). -/
def State.endBlockage (s : State) (e : Eye) : State :=
  let t := s.setEye e { s.eyes.get e with blockage := none }
  match e with
  | .outfeed _ | .sp => t.decideMerge
  | .ul => t.decideRelease
  | .ds => t.decideDispatch
  | .en | .ex => t

/-- What a classified blockage hands on (R60 to R63). -/
def State.handOn (s : State) (e : Eye) : Classification → State
  | .one => s.passage e
  | .debris => (s.recordAnomaly e .debris none).handDebris e
  | .double => ((s.recordAnomaly e .double none).passage e).passage e

/-- The clear edge of a trackpoint (R53, R56, R60): its sample counts into the length, the jam timer stops, the blockage
is classified, what it gives is handed on, and the blockage ends. -/
def State.clearEdge (s : State) (e : Eye) : State :=
  let t := s.eyes.get e
  let edge : Trackpoint := { t with blocked := false, runCount := 0, start := false, jamTimer := none }
  match t.blockage with
  | some b =>
    let c := Blockage.classify { b with length := lengthen b.length }
      (s.working.rackMin.get e) (s.working.rackMax.get e)
    ((s.setEye e { edge with blockage := some { b with length := lengthen b.length } }).handOn e c).endBlockage e
  | none => s.setEye e edge

/-- The jam timer of a trackpoint expires during a blockage (R57). -/
def State.declareJam (s : State) (e : Eye) : State :=
  let t := s.eyes.get e
  match t.blockage, t.jamTimer with
  | some b, some _ =>
    (((s.setEye e { t with blockage := some { b with jamDeclared := true }, jamTimer := none }).recordAnomaly
      e .jam none)).raiseHold (.jam e)
  | _, _ => s

/-- One sample of one eye (R53, R54, R56): where the run completes, the edge is taken; else the run count, the start flag
and the length of a blockage in progress change. -/
def State.sampleEye (s : State) (e : Eye) (raw : Bool) : State :=
  let t := s.eyes.get e
  let u : Trackpoint :=
    { t with
      start := t.start && raw
      blockage := t.blockage.map fun b => { b with length := lengthen b.length } }
  if raw = t.blocked then s.setEye e { u with runCount := 0 }
  else if t.runCount + 1 < s.working.eyeCheck.get e then s.setEye e { u with runCount := t.runCount + 1 }
  else if raw then s.blockedEdge e
  else s.clearEdge e

/-! ## The ESTOP input (R70 to R72) -/

/-- The check time of the ESTOP input, 5 samples (R70). -/
def estopCheck : Nat := 5

/-- The filtered ESTOP level becomes ACTIVE (R71): STOP with cause ESTOP. Each ESTOP edge is an event at which STARTING
is tested (R167); the STOP has ended it. -/
def State.estopOn (s : State) : State :=
  ({ s with estop := ⟨true, 0⟩ }).raiseStop .estop

/-- The filtered ESTOP level becomes RELEASED (R72): the loop state is left as it is, but for the test that ends STARTING
(R167). -/
def State.estopOff (s : State) : State :=
  (({ s with estop := ⟨false, 0⟩ }).startingTest).takeCommands

/-- One sample of the ESTOP input (R70). -/
def State.sampleEstop (s : State) (low : Bool) : State :=
  if low = s.estop.active then { s with estop := { s.estop with runCount := 0 } }
  else if s.estop.runCount + 1 < estopCheck then
    { s with estop := { s.estop with runCount := s.estop.runCount + 1 } }
  else if low then s.estopOn
  else s.estopOff

/-- The events of `all` in the order `order` names, those it does not name after them as they stand in `all`
(notes/assumptions/6.md, 7.md). -/
def inOrder {α : Type} [DecidableEq α] (order all : List α) : List α :=
  order.eraseDups ++ all.filter fun x => decide (x ∉ order)

/-- The inputs in the fixed order of one sample: the eyes in the order of R51, then ESTOP. -/
def sampleInputs : List SampleInput := Eye.all.map .eye ++ [.estop]

/-- Every eye and the ESTOP input are sampled once (R53, R70), those of `order` first, the others in the fixed order. The
samples are those of one millisecond, which is over with them. -/
def State.sampleAll (s : State) (blocked : List Eye) (estopLow : Bool) (order : List SampleInput) : State :=
  ((inOrder order sampleInputs).foldl
    (fun t i =>
      match i with
      | .eye e => t.sampleEye e (decide (e ∈ blocked))
      | .estop => t.sampleEstop estopLow)
    s).settleGrants

end Sys2Proof.Machine
end

