-- ==== Sys2Proof/Machine/TunnelOps.lean ====
section
/-! DEFINITION. The Tunnel Sequencer's step and timers (chapter 4), the Heat Credit Unit's sample and verdict
(chapter 5), and the windows of the arbiters (chapter 7). -/

namespace Sys2Proof.Machine

/-! ## The verdict (R115) -/

/-- The verdict reasons of a record leaving the last cell (R115). -/
def Record.verdictReasons (r : Record) (t : Settings) : Reasons where
  lowCredit := r.credit < t.classTarget.get r.ceiling
  noRinse := r.rinseSamples = 0
  coldRinse := r.rinseSamples ≠ 0 && r.rinseMin.any (· < t.rinseFloor)
  sensorFault := r.sensorFault
  forced := false

/-- The verdict: CLEAN with no reason, SHORT with one or more (R115). -/
def Record.judged (r : Record) (t : Settings) : Record :=
  let why := r.verdictReasons t
  { r with state := if why = Reasons.none then .clean else .short, reasons := why }

/-! ## The step (R75, R76) -/

/-- The record of the last cell is judged and joins XT with a full exit window; where XT holds 2 records its head goes
to OFF first (R76). The result carries the anomaly recorded at EX and the internal cause of a transit overflow. -/
def State.leaveTunnel (s : State) : State × Option Cause :=
  match s.lanes.lastCell with
  | some n =>
    let t := s.updateRecord n (·.judged s.working)
    let entry : XtEntry := ⟨n, .timing s.working.exitWindow⟩
    match t.lanes.xt with
    | old :: rest =>
      if 2 ≤ t.lanes.xt.length then
        let u := t.withLanes { t.lanes.sendOff old.rack .transitOverflow with xt := rest ++ [entry] }
        (u.recordAnomaly .ex .transitOverflow (some old.rack), some (.hold .transitOverflow))
      else (t.withLanes { t.lanes with xt := t.lanes.xt ++ [entry] }, none)
    | [] => (t.withLanes { t.lanes with xt := [entry] }, none)
  | none => (s, none)

/-- The cells move up by one, cell 0 becomes empty, and the last cell's record has left (R75). -/
def Lanes.shifted (l : Lanes) : Lanes := { l with cells := none :: l.cells.dropLast }

/-- A step (R75): the last cell's record leaves, the cells shift, the admission returns to AVAILABLE, the stall timer is
started again while the permit is on, the pitch counter is reloaded (R74); then the permit and the rest are worked out
again, and a transit overflow raises its hold. -/
def State.stepTunnel (s : State) : State :=
  let (t, cause) := s.leaveTunnel
  let u := t.withLanes t.lanes.shifted
  let v : State :=
    { u with tunnel :=
        { u.tunnel with
          admissionUsed := false
          stall := if u.tunnel.permit then some u.working.stallLimit else u.tunnel.stall
          pitch := u.working.pitchCounts } }
  v.observe s cause

/-- An encoder count (R74): the pitch counter falls by 1, and the count that brings it to 0 is a step. -/
def State.countEncoder (s : State) : State :=
  if s.tunnel.pitch ≤ 1 then s.stepTunnel
  else { s with tunnel := { s.tunnel with pitch := s.tunnel.pitch - 1 } }

/-! ## Exit windows and the stall timer (R87, R92) -/

/-- The record is in XT with its window TIMING. -/
def Lanes.exitTiming (l : Lanes) (n : RecNo) : Bool :=
  l.xt.any fun x => x.rack = n && x.window.isTiming

/-- The exit window of a record runs out (R87). It counts only while the tunnel permit is on (R85); the permit is not
tested here, since the hold of another window that ran out in the same millisecond may have turned it off
(notes/assumptions/25.md). -/
def State.exitMissing (s : State) (n : RecNo) : State :=
  if s.lanes.exitTiming n then
    let t := s.withLanes
      { s.lanes.sendOff n .exitMissing with xt := s.lanes.xt.filter (·.rack ≠ n) }
    (t.recordAnomaly .ex .exitMissing (some n)).observe s (some (.hold .exitMissing))
  else s

/-- The stall timer runs out (R92): it is stopped, and HOLD with cause TUNNEL_STALL is given. -/
def State.tunnelStall (s : State) : State :=
  match s.tunnel.stall with
  | some _ => ({ s with tunnel := { s.tunnel with stall := none } }).raiseHold .tunnelStall
  | none => s

/-! ## The credit sample (R102 to R113) -/

/-- The zone is VALID: its raw temperature is a temperature code (R97). -/
def ZoneInput.isValid (z : ZoneInput) : Bool := z.raw.any (· ≠ 0xFF)

/-- `old` moved a quarter of the way toward `goal`, the step rounded to the nearest with halves away from zero (R105). -/
def filterStep (old goal : Nat) : Nat :=
  if old ≤ goal then old + (goal - old + 2) / 4 else old - (old - goal + 2) / 4

/-- The filter and the effective temperature of a zone at a credit sample (R104 to R106, R108). -/
def ZoneInput.sampled (z : ZoneInput) : ZoneInput :=
  let filter :=
    match z.raw with
    | some t =>
      if t = 0xFF then z.filter
      else if z.reseed then 16 * t.toNat
      else filterStep z.filter (16 * t.toNat)
    | none => z.filter
  { z with
    filter := filter
    effective := (filter + 8) / 16
    reseed := z.reseed && !z.isValid }

/-- The band of a temperature under a base and a band width (R109); none below the base. -/
def bandOf (base step e : Nat) : Option (Fin 16) :=
  if e < base then none
  else some ⟨min 15 ((e - base) / step), by omega⟩

/-- The weight of a zone at a credit sample (R110). -/
def Settings.weight (t : Settings) (z : Zone) (e : Nat) : Nat :=
  match bandOf (t.zoneBase.get z) (t.zoneStep.get z) e with
  | some b => (t.zoneWeight.get z).get b
  | none => 0

/-- A record standing in zone `z` is credited (R111), and in zone 3 given its rinse sample (R112) or its sensor-fault
flag (R113). -/
def Record.credited (r : Record) (t : Settings) (z : Zone) (i : ZoneInput) : Record :=
  if !i.pump then r
  else if i.isValid then
    let warmed := { r with credit := min 65535 (r.credit + t.weight z i.effective) }
    if z = .finalRinse then
      { warmed with
        rinseMin := some ((r.rinseMin.elim i.effective) (min i.effective))
        rinseSamples := min 255 (r.rinseSamples + 1) }
    else warmed
  else if z = .finalRinse then { r with sensorFault := true }
  else r

/-- A credit sample (R102): the five filters, then every record in a tunnel cell; the timer is started again for the
working CREDIT_PERIOD (R101). -/
def State.creditSample (s : State) : State :=
  let zones := s.heat.zones.map ZoneInput.sampled
  s.rackZones.foldl
    (fun t p => t.updateRecord p.1 fun r => r.credited s.working p.2 (zones.get p.2))
    { s with heat := ⟨zones, s.working.creditPeriod⟩ }

/-! ## The windows of the arbiters (R145, R155) -/

/-- A merge grant to `src` is marked as one that an expiry reopened (R147; notes/assumptions/27.md). -/
def State.markMerge (s : State) (src : MergeSource) : State :=
  { s with merge := s.merge.map fun g => { g with reopened := decide (g.source = src) } }

/-- A dispatch grant is marked as one that an expiry opened, with the classes and the last target the expiry left (R157;
notes/assumptions/27.md). -/
def State.markDispatch (s : State) (r : DispatchRound) : State :=
  { s with dispatch := { s.dispatch with grant := s.dispatch.grant.map fun g => { g with reopened := some r } } }

/-- The window of an open merge grant runs out in TIMING (R145): withdrawn, MERGE_TIMEOUT recorded at its source's eye
naming the source's head, and decided again. A new grant to the same source is marked (R147). -/
def State.mergeTimeout (s : State) : State :=
  match s.merge with
  | some g =>
    if g.window.isTiming then
      ((({ s with merge := none }).recordAnomaly g.source.eye .mergeTimeout
        (s.lanes.sourceHeadOf g.source)).decideMerge).markMerge g.source
    else s
  | none => s

/-- The window of an open dispatch grant runs out in TIMING (R155): withdrawn, DISPATCH_TIMEOUT recorded at DS naming the
head of RET, and decided again. A new grant is marked (R157). -/
def State.dispatchTimeout (s : State) : State :=
  match s.dispatch.grant with
  | some g =>
    if g.window.isTiming then
      ((({ s with dispatch := { s.dispatch with grant := none } }).recordAnomaly .ds .dispatchTimeout
        s.lanes.ret.head?).decideDispatch).markDispatch ⟨s.dispatch.deferred, s.dispatch.lastTarget⟩
    else s
  | none => s

/-! ## The executor's timers (R167, R168) -/

/-- The heat timer expires in STARTING (R167): the loop returns to its origin, RUN is written FAILED, the drain is tested
where the loop enters HOLD (R175), and the commands left pending are taken. That the drain is tested before they are is
the model's choice (notes/assumptions/28.md): R168 orders the two for HOLDING alone. -/
def State.heatTimerExpiry (s : State) : State :=
  match s.executor.loop, s.executor.heatTimer with
  | .starting o i, some _ =>
    match o with
    | .ready =>
      ((s.withExecutor { s.executor with loop := .ready, heatTimer := none }).writeOutcome
        .run .failed i).takeCommands
    | .hold =>
      (((s.withExecutor { s.executor with loop := .hold, heatTimer := none }).writeOutcome
        .run .failed i).drainTest).takeCommands
  | _, _ => s

/-- The settle timer expires in HOLDING (R168): HOLDING ends in HOLD, and the commands left pending are taken. -/
def State.settleTimerExpiry (s : State) : State :=
  match s.executor.loop, s.executor.settleTimer with
  | .holding i, some _ => (s.endHolding i).takeCommands
  | _, _ => s

/-! ## The passing of a millisecond -/

/-- A running timer with one millisecond less. -/
def countDown (t : Option Nat) : Option Nat := t.map (· - 1)

/-- A TIMING window with one millisecond less. -/
def Window.countDown : Window → Window
  | .timing r => .timing (r - 1)
  | .arriving => .arriving

/-- Every running timer counts one millisecond: the jam timers, the exit windows while the permit is on (R85), the stall
timer, the credit sample timer, the windows of the grants, the heat and settle timers. A grant reopened in the millisecond
before stands as any other (notes/assumptions/27.md). -/
def State.countTimers (s : State) : State :=
  { s with
    eyes := s.eyes.map fun t => { t with jamTimer := countDown t.jamTimer }
    lanes :=
      if s.tunnel.permit then
        { s.lanes with xt := s.lanes.xt.map fun x => { x with window := x.window.countDown } }
      else s.lanes
    tunnel := { s.tunnel with stall := countDown s.tunnel.stall }
    heat := { s.heat with sampleTimer := s.heat.sampleTimer - 1 }
    merge := s.merge.map fun g => { g with window := g.window.countDown, reopened := false }
    dispatch :=
      { s.dispatch with
        grant := s.dispatch.grant.map fun g => { g with window := g.window.countDown, reopened := none } }
    executor :=
      { s.executor with
        heatTimer := countDown s.executor.heatTimer
        settleTimer := countDown s.executor.settleTimer } }

/-- `f` where the condition holds. -/
def State.when (s : State) (due : Bool) (f : State → State) : State := if due then f s else s

/-- The records of XT whose window has run out. -/
def Lanes.runOut (l : Lanes) : List RecNo :=
  (l.xt.filter fun x => x.window = .timing 0).map (·.rack)

/-- A millisecond passes with no command waiting (notes/assumptions/5.md): the timers count, and those that have run out
expire, in a fixed order, each only if it still stands at 0. -/
def State.tick (s : State) : State :=
  let jams (t : State) : State :=
    Eye.all.foldl (fun u e => u.when ((u.eyes.get e).jamTimer = some 0) (·.declareJam e)) t
  let exits (t : State) : State := t.lanes.runOut.foldl (fun u n => u.exitMissing n) t
  let s1 := jams s.countTimers
  let s2 := s1.when (s1.heat.sampleTimer = 0) State.creditSample
  let s3 := exits s2
  let s4 := s3.when (s3.tunnel.stall = some 0) State.tunnelStall
  let s5 := s4.when (s4.merge.any fun g => g.window = .timing 0) State.mergeTimeout
  let s6 := s5.when (s5.dispatch.grant.any fun g => g.window = .timing 0) State.dispatchTimeout
  let s7 := s6.when (s6.executor.heatTimer = some 0) State.heatTimerExpiry
  s7.when (s7.executor.settleTimer = some 0) State.settleTimerExpiry

end Sys2Proof.Machine
end

