-- ==== Sys2Proof/Machine/Responses.lean ====
section
/-! DEFINITION. The codes and the layouts by which the part shows its state: the payloads of responses (chapter 10) and
the down slots (R179). -/

namespace Sys2Proof.Machine

/-! ## Codes (R179, R191) -/

/-- The code of a record state (R191). -/
def RackState.code : RackState → Nat
  | .empty => 0
  | .loading => 1
  | .loaded => 2
  | .inWash => 3
  | .clean => 4
  | .short => 5
  | .rejected => 6

/-- The code of an off-track reason; 0 for none (R191). -/
def offReasonCode : Option OffReason → Nat
  | none => 0
  | some .overflow => 1
  | some .entryDouble => 2
  | some .noDestination => 3
  | some .transitOverflow => 4
  | some .exitMissing => 5

/-- The code of an anomaly kind (R191). -/
def AnomalyKind.code : AnomalyKind → Nat
  | .none => 0x0
  | .debris => 0x1
  | .phantom => 0x2
  | .ungranted => 0x3
  | .overflow => 0x4
  | .double => 0x5
  | .jam => 0x6
  | .entryDouble => 0x7
  | .exitMissing => 0x8
  | .unloadSkipped => 0x9
  | .tableFull => 0xA
  | .mergeTimeout => 0xB
  | .dispatchTimeout => 0xC
  | .transitOverflow => 0xD
  | .noDestination => 0xE

/-- The code of an outcome (R191). -/
def OutcomeKind.code : OutcomeKind → Nat
  | .none => 0
  | .inProgress => 1
  | .done => 2
  | .illegal => 3
  | .blocked => 4
  | .cancelled => 5
  | .failed => 6
  | .invalidConfig => 7

/-- The code of an issuer: the address of the node, 8 for INTERNAL, Fh for none (R191). -/
def issuerCode : Option Issuer → Nat
  | some (.node n) => n.address
  | some .internal => 8
  | none => 15

/-- The code of a loop state (R179). -/
def LoopState.code : LoopState → Nat
  | .idle => 0
  | .ready => 1
  | .starting _ _ => 2
  | .run => 3
  | .holding _ => 4
  | .hold => 5
  | .stopped => 6

/-- The number of a COMMIT check (R173). -/
def CommitCheck.code : CommitCheck → Nat
  | .zoneLayout => 1
  | .eyeOrder => 2
  | .laneFill => 3
  | .cellRange => 4
  | .rackCount => 5

/-- A station code of the broadcasts: 0 none, 1 to 4 for A to D (R179, R196). -/
def stationCodeOf : Option Station → Nat
  | some x => x.number
  | none => 0

/-- The reasons octet (R196). Bits 7-5, which the rule gives no content, read 0 (notes/assumptions/31.md). -/
def Reasons.octet (w : Reasons) : Octet :=
  Sys2Proof.octet (bitAt 0 w.lowCredit + bitAt 1 w.noRinse + bitAt 2 w.coldRinse + bitAt 3 w.sensorFault + bitAt 4 w.forced)

/-- An outcome record in one octet: bits 7-4 issuer, bits 3-0 outcome (R195). -/
def OutcomeRecord.octet (o : OutcomeRecord) : Octet :=
  Sys2Proof.octet (16 * issuerCode o.issuer + o.kind.code)

/-- The failed COMMIT check: bits 7-5 the check, bits 4-0 its item; 0 where there is none (R195). -/
def commitOctet : Option CommitFailure → Octet
  | some f => octet (32 * f.check.code + f.item)
  | none => 0

/-- An anomaly record in two octets (R195). Bits 6-4 of the first, which the rule gives no content, read 0
(notes/assumptions/31.md). -/
def Anomaly.octets (a : Anomaly) : List Octet :=
  [octet (bitAt 7 a.pending + a.kind.code), recNoOctet a.rack]

/-! ## The state as broadcasts and STATUS show it -/

/-- Loop state in bits 2-0 and drain flag in bit 3 (R179, R195). -/
def State.loopOctet (s : State) : Octet :=
  octet (s.executor.loop.code + bitAt 3 s.executor.drain.isSome)

/-- One bit for each node, by address. -/
def nodeBits (f : Node → Bool) : Octet :=
  octet ((Node.all.map fun n => bitAt n.address (f n)).sum)

/-- Busy in bit 7, the pending bits of the command vector in bits 0 to 6 (R195). -/
def State.vectorOctet (s : State) : Octet :=
  octet ((LineCommand.all.map fun c => bitAt c.code (s.executor.vector.get c).isSome).sum
    + bitAt 7 s.executor.loop.isBusy)

/-- The permit map (R179). -/
def State.permitOctet (s : State) : Octet :=
  octet (bitAt 0 s.tunnel.permit + bitAt 1 s.inRun + bitAt 2 s.gateOpen + bitAt 3 s.unload.release.isSome
    + bitAt 4 (s.unload.diverter = .toSpur))

/-- The merge gate source: 0 none, 1 to 4 stations A to D, 5 spur (R179). -/
def State.mergeOctet (s : State) : Octet :=
  match s.merge with
  | some g => match g.source with
    | .station x => octet x.number
    | .spur => 5
  | none => 0

/-- The dispatch target in bits 2-0 and the speed code in bits 5-4 (R179). -/
def State.dispatchOctet (s : State) : Octet :=
  octet (stationCodeOf (s.dispatch.grant.map (·.target)) + 16 * s.speedCode)

/-- The zone occupancy map (R179). -/
def State.zoneOctet (s : State) : Octet :=
  octet ((Zone.all.map fun z => bitAt z.number (s.zoneMark z)).sum)

/-- The two down message slots of a channel (R179, R184). -/
def Channel.downOctets (c : Channel) : List Octet :=
  match c.state with
  | .sending =>
    [c.response.getD c.index 0xFF,
      octet (bitAt 6 c.s + bitAt 5 (c.index + 1 = c.response.length) + bitAt 4 c.tk)]
  | .idle | .receiving | .discarding =>
    [0xFF, octet (128 + bitAt 6 c.s + bitAt 4 c.tk + bitAt 3 (c.state = .discarding))]

/-- The content of the 30 down slots as the state stands (R178, R179, R188). -/
def State.downSlots (s : State) : List Octet :=
  [octet s.line.frame, s.loopOctet, nodeBits s.attention, s.permitOctet, s.mergeOctet, s.dispatchOctet, s.zoneOctet]
    ++ Node.all.flatMap (fun n => (s.line.nodes.get n).channel.downOctets)
    ++ List.replicate 7 0xFF

/-! ## Payloads of the reading requests (R195 to R197) -/

/-- The common part of STATUS after the kind and the result (R195). "Bits 3-0 set for LP-A to LP-D" are read in the order
named, bit 3 LP-A down to bit 0 LP-D (notes/assumptions/29.md); bits 7-4 of that octet read 0 (notes/assumptions/31.md). -/
def State.statusCommon (s : State) : List Octet :=
  [s.loopOctet, s.vectorOctet, nodeBits s.present, octet s.allocationCount,
    octet ((Station.all.map fun x => bitAt (4 - x.number) (s.lanes.lp.get x).isSome).sum)]
    ++ Station.all.map (fun x => octet (s.lanes.outfeed.get x).length)
    ++ [octet s.lanes.spur.length, octet s.lanes.acc.length, octet (s.lanes.contents .tun).length,
      octet s.lanes.xt.length, octet s.lanes.unl.length, octet s.lanes.ret.length, octet s.lanes.off.length]

/-- The STOP and HOLD outcome records (R195). -/
def State.stopAndHold (s : State) : List Octet :=
  [s.executor.outcomes.stop.octet, s.executor.outcomes.hold.octet]

/-- The state octet of a record, FFh where there is none (R191). -/
def State.stateOctet (s : State) (n : RecNo) : Octet :=
  match s.record n with
  | some r => octet r.state.code
  | none => 0xFF

/-- The extras of a station node (R195). Bits 7-2 of the last octet read 0 (notes/assumptions/31.md). -/
def State.stationExtras (s : State) (x : Station) : List Octet :=
  s.stopAndHold
    ++ (match s.lanes.lp.get x with
      | some n => [recNoOctet (some n), s.stateOctet n]
      | none => [0xFF, 0xFF])
    ++ [octet (bitAt 0 (s.dispatch.deferred.get x)
      + bitAt 1 (s.dispatch.grant.any fun g => g.target = x))]

/-- The number of load entries and the entries (R195, R196). -/
def entryOctets (es : List LoadEntry) : List Octet :=
  octet es.length :: es.flatMap LoadEntry.octets

/-- The extras of the unload node: the head of UNL (R195). -/
def State.unloadExtras (s : State) : List Octet :=
  s.stopAndHold
    ++ (match s.unloadHead with
      | some (n, r) =>
        [recNoOctet (some n), octet r.state.code, r.reasons.octet, octet r.rewash] ++ entryOctets r.load
      | none => [0xFF, 0xFF, 0x00, 0x00] ++ entryOctets [])

/-- JAM is in the hold-cause set while it names a trackpoint (R159). -/
def HoldCauses.hasJam (h : HoldCauses) : Bool := Eye.all.any h.jam.get

/-- The hold causes of octet 18 (R195). -/
def HoldCauses.octet (h : HoldCauses) : Octet :=
  Sys2Proof.octet (bitAt 0 h.hasJam + bitAt 1 h.tunnelStall + bitAt 2 h.tunnelAbsent + bitAt 3 h.tunnelNotReady
    + bitAt 4 h.driveNotReady + bitAt 5 h.overflow + bitAt 6 h.entryDouble + bitAt 7 h.exitMissing)

/-- The last hold cause and the stop causes: octet 19 (R195). "Bits 4-1" are read in the order named, bit 4 ESTOP down to
bit 1 TABLE_FULL (notes/assumptions/29.md); bits 7-5 read 0 (notes/assumptions/31.md). -/
def causesOctet (h : HoldCauses) (p : StopCauses) : Octet :=
  octet (bitAt 0 h.transitOverflow + bitAt 4 p.estop + bitAt 3 p.driveFault + bitAt 2 p.driveAbsent
    + bitAt 1 p.tableFull)

/-- The trackpoints JAM names, in bits 0 to 8 of two octets (R195), the high octet first (notes/assumptions/22.md); its
bits 7-1 read 0 (notes/assumptions/31.md). -/
def HoldCauses.jamOctets (h : HoldCauses) : List Octet :=
  octetPair ((Eye.all.map fun e => bitAt e.index (h.jam.get e)).sum)

/-- The extras of the panel node (R195). -/
def State.panelExtras (s : State) : List Octet :=
  let x := s.executor
  [x.holdCauses.octet, causesOctet x.holdCauses x.stopCauses]
    ++ x.holdCauses.jamOctets
    ++ LineCommand.all.map (fun c => (x.outcomes.get c).octet)
    ++ [commitOctet x.outcomes.commit.failure]
    ++ Eye.all.flatMap (fun e => (s.eyes.get e).anomaly.octets)

/-- The extras of the sender's role (R195). -/
def State.statusExtras (s : State) : Node → List Octet
  | .panel => s.panelExtras
  | .tunnel | .drive => s.stopAndHold
  | .unload => s.unloadExtras
  | .station x => s.stationExtras x

/-- The place and index octets of a record's location (R196). A record that no place holds, which no run reaches (R29),
shows FFh and FFh (notes/assumptions/12.md). -/
def State.locationOctets (s : State) (n : RecNo) : List Octet :=
  match s.lanes.placeOf n with
  | some p => [octet p.code, octet (s.lanes.indexOf p n)]
  | none => [0xFF, 0xFF]

/-- The payload of READ-RACK (R196). Bits 7-3 of the flags octet read 0 (notes/assumptions/31.md). -/
def State.rackOctets (s : State) (n : RecNo) (r : Record) : List Octet :=
  [recNoOctet (some n), octet r.state.code]
    ++ s.locationOctets n
    ++ [octet (offReasonCode (s.lanes.offReasonOf n)), octet (stationCodeOf r.origin),
      octet (bitAt 0 r.bornUnknown + bitAt 1 r.fixed + bitAt 2 r.sensorFault), octet r.ceiling.val]
    ++ octetPair r.credit
    ++ [(r.rinseMin.elim 0xFF octet), octet r.rinseSamples, r.reasons.octet, octet r.rewash]
    ++ entryOctets r.load

/-- The places of READ-LANE as a list of records; the cells of TUN with the empty ones (R197). -/
def State.laneRows (s : State) : Place → List (Option RecNo)
  | .tun => s.lanes.cells
  | p => (s.lanes.contents p).map some

/-- The pair of a row of READ-LANE; FFh, FFh for an empty cell (R197). -/
def State.laneRow (s : State) : Option RecNo → List Octet
  | some n => [recNoOctet (some n), s.stateOctet n]
  | none => [0xFF, 0xFF]

/-- The payload of READ-LANE (R197): at most 21 pairs from the start index on. -/
def State.laneOctets (s : State) (p : Place) (start : Octet) : List Octet :=
  let rows := s.laneRows p
  let shown := (rows.drop start.toNat).take 21
  [octet p.code, octet rows.length, start, octet shown.length] ++ shown.flatMap s.laneRow

/-! ## Settings (R201) -/

/-- The value of a setting that has a stored and a working value; 0 for the three single-valued ones, which
`State.storedValue` reads elsewhere. -/
def Settings.value (t : Settings) : Param → Nat
  | .rackLimit | .unknownClass | .fixPoint => 0
  | .outfeedCap => t.outfeedCap
  | .spurCap => t.spurCap
  | .accumCap => t.accumCap
  | .unloadCap => t.unloadCap
  | .returnCap => t.returnCap
  | .tunnelCells => t.tunnelCells
  | .eyeCheck e => t.eyeCheck.get e
  | .rackMin e => t.rackMin.get e
  | .rackMax e => t.rackMax.get e
  | .jamLimit e => t.jamLimit.get e
  | .pitchCounts => t.pitchCounts
  | .zoneLen z => t.zoneLen.get z
  | .exitWindow => t.exitWindow
  | .stallLimit => t.stallLimit
  | .classSpeed c => t.classSpeed.get c
  | .idleSpeed => t.idleSpeed
  | .creditPeriod => t.creditPeriod
  | .zoneBase z => t.zoneBase.get z
  | .zoneStep z => t.zoneStep.get z
  | .zoneWeight z b => (t.zoneWeight.get z).get b
  | .classTarget c => t.classTarget.get c
  | .rinseFloor => t.rinseFloor
  | .rewashLimit => t.rewashLimit
  | .mergeWindow => t.mergeWindow
  | .dispatchWindow => t.dispatchWindow
  | .heatTimeout => t.heatTimeout
  | .settleTimeout => t.settleTimeout
  | .framePeriod => t.framePeriod

/-- The settings with one value replaced; the three single-valued settings are written elsewhere. -/
def Settings.withValue (t : Settings) (p : Param) (v : Nat) : Settings :=
  match p with
  | .rackLimit | .unknownClass | .fixPoint => t
  | .outfeedCap => { t with outfeedCap := v }
  | .spurCap => { t with spurCap := v }
  | .accumCap => { t with accumCap := v }
  | .unloadCap => { t with unloadCap := v }
  | .returnCap => { t with returnCap := v }
  | .tunnelCells => { t with tunnelCells := v }
  | .eyeCheck e => { t with eyeCheck := t.eyeCheck.set e v }
  | .rackMin e => { t with rackMin := t.rackMin.set e v }
  | .rackMax e => { t with rackMax := t.rackMax.set e v }
  | .jamLimit e => { t with jamLimit := t.jamLimit.set e v }
  | .pitchCounts => { t with pitchCounts := v }
  | .zoneLen z => { t with zoneLen := t.zoneLen.set z v }
  | .exitWindow => { t with exitWindow := v }
  | .stallLimit => { t with stallLimit := v }
  | .classSpeed c => { t with classSpeed := t.classSpeed.set c.val v c.isLt }
  | .idleSpeed => { t with idleSpeed := v }
  | .creditPeriod => { t with creditPeriod := v }
  | .zoneBase z => { t with zoneBase := t.zoneBase.set z v }
  | .zoneStep z => { t with zoneStep := t.zoneStep.set z v }
  | .zoneWeight z b => { t with zoneWeight := t.zoneWeight.set z ((t.zoneWeight.get z).set b.val v b.isLt) }
  | .classTarget c => { t with classTarget := t.classTarget.set c.val v c.isLt }
  | .rinseFloor => { t with rinseFloor := v }
  | .rewashLimit => { t with rewashLimit := v }
  | .mergeWindow => { t with mergeWindow := v }
  | .dispatchWindow => { t with dispatchWindow := v }
  | .heatTimeout => { t with heatTimeout := v }
  | .settleTimeout => { t with settleTimeout := v }
  | .framePeriod => { t with framePeriod := v }

/-- The value by which FIX_POINT is named: 0 MERGE, 1 ENTRY (R202). -/
def FixPoint.code : FixPoint → Nat
  | .merge => 0
  | .entry => 1

/-- The value of a single-valued setting (R201); none for the others. -/
def SingleSettings.value (t : SingleSettings) : Param → Option Nat
  | .rackLimit => some t.rackLimit
  | .unknownClass => some t.unknownClass.val
  | .fixPoint => some t.fixPoint.code
  | _ => none

/-- The stored value of a setting (R201). -/
def State.storedValue (s : State) (p : Param) : Nat := (s.single.value p).getD (s.stored.value p)

/-- The working value of a setting (R201). -/
def State.workingValue (s : State) (p : Param) : Nat := (s.single.value p).getD (s.working.value p)

/-- SET writes the stored value; for the three single-valued settings the value the part works by (R201). -/
def State.store (s : State) (p : Param) (v : Nat) : State :=
  match p with
  | .rackLimit => { s with single := { s.single with rackLimit := v } }
  | .unknownClass => { s with single := { s.single with unknownClass := Fin.ofNat 8 v } }
  | .fixPoint => { s with single := { s.single with fixPoint := if v = 0 then .merge else .entry } }
  | p => { s with stored := s.stored.withValue p v }

end Sys2Proof.Machine
end

