-- ==== Sys2Proof/Machine/Decoder.lean ====
section
/-! DEFINITION. The Request Decoder (chapter 10): each request checked in the order of R193 and applied whole or not at
all, with the response it forms. -/

namespace Sys2Proof.Machine

/-- A request served: the state it leaves and the octets of its response (R191). -/
structure Served where
  state : State
  octets : List Octet
deriving DecidableEq, Repr

/-- A response: the kind code echoed, the result code, the payload (R191). -/
def response (kind : Octet) (r : Result) (payload : List Octet := []) : List Octet :=
  kind :: r.code :: payload

/-- A refused request changes no state of the part (R193). -/
def State.refuse (s : State) (kind : Octet) (r : Result) : Served := ⟨s, response kind r⟩

/-- The record number of the head of UNL, FFh when UNL is empty: the payload of UNLOADED and REWASH (R199). -/
def State.headOctet (s : State) : Octet := recNoOctet s.lanes.unl.head?

/-- A refused UNLOADED or REWASH: its response carries the head as it stands (R199). -/
def State.refuseAtHead (s : State) (kind : Octet) (r : Result) : Served :=
  ⟨s, response kind r [s.headOctet]⟩

/-- The node is a station node. -/
def isStationNode : Node → Bool
  | .station _ => true
  | .panel | .tunnel | .drive | .unload => false

/-- The line commands a role may send (R161, R194). -/
def mayCommand (n : Node) (c : LineCommand) : Bool :=
  match n with
  | .panel => true
  | .tunnel | .drive => c = .stop
  | .unload | .station _ => c = .stop || c = .hold

/-! ## Reading requests (R195 to R197, R201) -/

/-- STATUS (R195): the response is formed, then the sender's mark is cleared, and for the panel node the pending marks
of the nine anomaly records (R68). -/
def State.serveStatus (s : State) (n : Node) : Served :=
  let unmarked (t : Trackpoint) : Trackpoint := { t with anomaly := { t.anomaly with pending := false } }
  let t := if n = .panel then { s with eyes := s.eyes.map unmarked } else s
  ⟨t.clearMark n, response 0x01 .ok (s.statusCommon ++ s.statusExtras n)⟩

/-- READ-RACK (R196). -/
def State.serveReadRack (s : State) (r : Octet) : Served :=
  match recNoOf r with
  | none => s.refuse 0x02 .badArgument
  | some m =>
    match s.record m with
    | none => s.refuse 0x02 .notFound
    | some v => ⟨s, response 0x02 .ok (s.rackOctets m v)⟩

/-- READ-LANE (R197). -/
def State.serveReadLane (s : State) (place start : Octet) : Served :=
  match Place.ofCode place with
  | none => s.refuse 0x03 .badArgument
  | some p => ⟨s, response 0x03 .ok (s.laneOctets p start)⟩

/-- GET (R201): the stored value, then the working value. -/
def State.serveGet (s : State) (n : Node) (param index : Octet) : Served :=
  if n ≠ .panel then s.refuse 0x0D .notPermitted
  else match Param.ofCode param index with
  | none => s.refuse 0x0D .badArgument
  | some p => ⟨s, response 0x0D .ok (octetPair (s.storedValue p) ++ octetPair (s.workingValue p))⟩

/-- The value SET stores and its result (R201): a numeric value clamped to its range, an enumerated value only if it is
in its list. -/
def acceptValue (p : Param) (v : Nat) : Option (Nat × Result) :=
  match p.values with
  | some vs => if v ∈ vs then some (v, .ok) else none
  | none =>
    if v < p.range.1 then some (p.range.1, .clamped)
    else if p.range.2 < v then some (p.range.2, .clamped)
    else some (v, .ok)

/-- SET (R201). -/
def State.serveSet (s : State) (n : Node) (param index : Octet) (value : BitVec 16) : Served :=
  if n ≠ .panel then s.refuse 0x0C .notPermitted
  else match Param.ofCode param index with
  | none => s.refuse 0x0C .badArgument
  | some p =>
    if !s.executor.loop.isIdle then s.refuse 0x0C .wrongState
    else match acceptValue p value.toNat with
    | none => s.refuse 0x0C .badArgument
    | some (v, result) => ⟨s.store p v, response 0x0C result (octetPair v)⟩

/-! ## Requests on records and places (R198) -/

/-- A record is allocated in slot `m` at a place with the values of REGISTER (R5, R22, R46). -/
def State.allocate (s : State) (m : RecNo) (p : Place) : State :=
  ((s.setSlot m (some Record.registered)).withLanes (s.lanes.join p m)).observe s

/-- The place a node may name in REGISTER: any for the panel node, its own loading position for a station node (R194). -/
def mayRegister (n : Node) (p : Place) : Bool :=
  match n with
  | .panel => true
  | .station x => p = .lp x
  | .tunnel | .drive | .unload => false

/-- REGISTER (R22, R46). -/
def State.serveRegister (s : State) (n : Node) (place : Octet) : Served :=
  if n ≠ .panel ∧ !isStationNode n then s.refuse 0x04 .notPermitted
  else match registerPlace place with
  | none => s.refuse 0x04 .badArgument
  | some p =>
    if !mayRegister n p then s.refuse 0x04 .notPermitted
    else if s.single.rackLimit ≤ s.allocationCount ∨ s.isFull p then s.refuse 0x04 .full
    else match s.lowestFree with
    | none => s.refuse 0x04 .full
    | some m => ⟨s.allocate m p, response 0x04 .ok [recNoOctet (some m)]⟩

/-- A place where LOAD is taken: a loading position, an outfeed, SPUR or ACC (R21). -/
def takesLoad : Place → Bool
  | .lp _ | .outfeed _ | .spur | .acc => true
  | .tun | .xt | .unl | .ret | .off | .finishOrder => false

/-- The checks of R21 after the entries have been checked and the record found, in their order. -/
def State.loadRefusal (s : State) (n : Node) (m : RecNo) (r : Record) (finish : Bool) : Option Result :=
  let station := s.lanes.stationOf m
  let mayLoad (x : Station) : Bool := station = some x || r.origin = some x
  let permitted : Bool := match n with
    | .station x => mayLoad x
    | .panel | .tunnel | .drive | .unload => true
  if !permitted then some .notPermitted
  else if r.fixed then some .isProtected
  else if !(s.lanes.placeOf m).any takesLoad then some .wrongState
  else if !finish then none
  else match station with
  | none => some .wrongState
  | some x =>
    if s.executor.drain.isSome then some .draining
    else if s.isFull (.outfeed x) then some .full
    else none

/-- The record after the replace flag and the entries of an accepted LOAD; at a loading position its state follows its
list (R16, R17). -/
def Record.loaded (r : Record) (replace : Bool) (es : List LoadEntry) (atLoading : Bool) : Record :=
  let t := (r.replaced replace).appended es
  if atLoading then { t with state := stateByList t.load } else t

/-- The finish of a record at loading position `x` (R18, R45). -/
def State.finish (s : State) (m : RecNo) (x : Station) : State :=
  let l := s.lanes
  (s.updateRecord m fun r => { r with state := .loaded, origin := some x }).withLanes
    { l with
      lp := l.lp.set x none
      outfeed := l.outfeed.set x (l.outfeed.get x ++ [m])
      finishOrder := l.finishOrder ++ [m] }

/-- An accepted LOAD (R16 to R18). -/
def State.applyLoad (s : State) (m : RecNo) (replace finish : Bool) (es : List LoadEntry) : State :=
  let station := s.lanes.stationOf m
  let t := s.updateRecord m fun r => r.loaded replace es station.isSome
  (match finish, station with
    | true, some x => t.finish m x
    | _, _ => t).observe s

/-- LOAD (R21). An entry count above 14 is a wrong length (R193). -/
def State.serveLoad (s : State) (n : Node) (r : Octet) (replace finish : Bool) (es : List LoadEntry) : Served :=
  if 14 < es.length then s.refuse 0x05 .badRequest
  else if n ≠ .panel ∧ !isStationNode n then s.refuse 0x05 .notPermitted
  else match recNoOf r with
  | none => s.refuse 0x05 .badArgument
  | some m =>
    if !es.all LoadEntry.wellFormed then s.refuse 0x05 .badArgument
    else match s.record m with
    | none => s.refuse 0x05 .notFound
    | some v =>
      match s.loadRefusal n m v finish with
      | some result => s.refuse 0x05 result
      | none => ⟨s.applyLoad m replace finish es, response 0x05 .ok⟩

/-- The permissions that RETIRE of a record withdraws (R47): the merge grant whose source head it is, the dispatch grant
whose RET head it is, the release of the UNL head. -/
def State.withdrawFor (s : State) (m : RecNo) : State :=
  { s with
    merge := if s.merge.any (fun g => s.lanes.sourceHeadOf g.source = some m) then none else s.merge
    dispatch :=
      if s.lanes.ret.head? = some m then { s.dispatch with grant := none } else s.dispatch
    unload :=
      if s.unload.release.any (fun g => g.rack = m) then { s.unload with release := none } else s.unload }

/-- An accepted RETIRE (R3, R47): its permissions withdrawn, its place and its slot freed. -/
def State.retire (s : State) (m : RecNo) : State :=
  (((s.withdrawFor m).withLanes (s.lanes.remove m)).setSlot m none).observe s

/-- RETIRE (R24, R198). -/
def State.serveRetire (s : State) (n : Node) (r : Octet) : Served :=
  if n ≠ .panel then s.refuse 0x08 .notPermitted
  else match recNoOf r with
  | none => s.refuse 0x08 .badArgument
  | some m =>
    if (s.record m).isNone then s.refuse 0x08 .notFound
    else ⟨s.retire m, response 0x08 .ok⟩

/-- The column of R11 that PLACE applies for its target (R24). -/
def Record.placed (r : Record) : Place → Record
  | .lp _ => r.placedAtLoading
  | .spur => r.placedInSpur
  | .ret => r.emptied
  | .outfeed _ | .acc | .tun | .xt | .unl | .off | .finishOrder => r

/-- The record is on OFF (R34). -/
def Lanes.onOff (l : Lanes) (m : RecNo) : Bool := l.off.any fun e => e.rack = m

/-- An accepted PLACE (R24, R48). -/
def State.placeRack (s : State) (m : RecNo) (p : Place) : State :=
  let l := { s.lanes with off := s.lanes.off.filter (·.rack ≠ m) }
  ((s.updateRecord m (·.placed p)).withLanes (l.join p m)).observe s

/-- PLACE (R48, R198). -/
def State.servePlace (s : State) (n : Node) (r place : Octet) : Served :=
  if n ≠ .panel then s.refuse 0x09 .notPermitted
  else match recNoOf r, placeTarget place with
  | some m, some p =>
    if (s.record m).isNone then s.refuse 0x09 .notFound
    else if !s.lanes.onOff m then s.refuse 0x09 .wrongState
    else if s.isFull p then s.refuse 0x09 .full
    else ⟨s.placeRack m p, response 0x09 .ok⟩
  | _, _ => s.refuse 0x09 .badArgument

/-- An accepted PURGE (R49): every record freed, every place empty, no permission left. -/
def State.purge (s : State) : State :=
  (({ s with slots := Vector.replicate 64 none, lanes := s.lanes.purged }).withdrawPermissions).observe s

/-- PURGE (R198). -/
def State.servePurge (s : State) (n : Node) : Served :=
  if n ≠ .panel then s.refuse 0x0A .notPermitted
  else if !s.executor.loop.isIdle then s.refuse 0x0A .wrongState
  else ⟨s.purge, response 0x0A .ok⟩

/-! ## Requests at the clean end (R199) -/

/-- The head of UNL is changed by `f`; the release open for it is withdrawn, and the diverter set for its new treatment
(R126, R128). -/
def State.treatHead (s : State) (m : RecNo) (f : Record → Record) : State :=
  (({ s with unload := { s.unload with release := none } }).updateRecord m f).setDiverter.observe s

/-- The refusals of UNLOADED at the head (R130); a head in a state that R123 says does not occur is refused WRONG_STATE
(notes/assumptions/18.md). -/
def Record.unloadedRefusal (r : Record) : Option Result :=
  match r.state with
  | .short | .rejected => some .rewashRequired
  | .clean => if r.load.isEmpty then some .wrongState else none
  | .empty | .loading | .loaded | .inWash => some .wrongState

/-- UNLOADED (R130, R199). -/
def State.serveUnloaded (s : State) (n : Node) (r : Octet) : Served :=
  if n ≠ .panel ∧ n ≠ .unload then s.refuseAtHead 0x06 .notPermitted
  else match recNoOf r with
  | none => s.refuseAtHead 0x06 .badArgument
  | some m =>
    match s.unloadHead with
    | none => s.refuseAtHead 0x06 .notFound
    | some (h, v) =>
      if h ≠ m then s.refuseAtHead 0x06 .notFound
      else match v.unloadedRefusal with
      | some result => s.refuseAtHead 0x06 result
      | none =>
        let t := s.treatHead m Record.emptied
        ⟨t, response 0x06 .ok [t.headOctet]⟩

/-- The refusals of REWASH at the head (R132); a head in a state that R123 says does not occur is refused WRONG_STATE
(notes/assumptions/18.md). -/
def Record.rewashRefusal (r : Record) (n : Node) : Option Result :=
  match r.state with
  | .rejected => if n = .unload then some .notPermitted else none
  | .clean => none
  | .empty | .short | .loading | .loaded | .inWash => some .wrongState

/-- The head after an accepted REWASH (R23): SHORT, with FORCED added to the reasons it holds; a CLEAN head holds none. -/
def Record.rewashed (r : Record) : Record :=
  let kept := if r.state = .clean then Reasons.none else r.reasons
  { r with state := .short, reasons := { kept with forced := true } }

/-- REWASH (R132, R199). -/
def State.serveRewash (s : State) (n : Node) (r : Octet) : Served :=
  if n ≠ .panel ∧ n ≠ .unload then s.refuseAtHead 0x07 .notPermitted
  else match recNoOf r with
  | none => s.refuseAtHead 0x07 .badArgument
  | some m =>
    match s.unloadHead with
    | none => s.refuseAtHead 0x07 .notFound
    | some (h, v) =>
      if h ≠ m then s.refuseAtHead 0x07 .notFound
      else match v.rewashRefusal n with
      | some result => s.refuseAtHead 0x07 result
      | none =>
        let t := s.treatHead m Record.rewashed
        ⟨t, response 0x07 .ok [t.headOctet]⟩

/-! ## Line commands (R161, R200) -/

/-- A COMMAND request that names a command (R161, R200): NOT_PERMITTED for a role that may not send it,
ALREADY_PENDING where the bit is set, else the bit is set with the sender as issuer and the executor takes what it may. -/
def State.serveCommand (s : State) (n : Node) (c : LineCommand) : Served :=
  if !mayCommand n c then s.refuse 0x0B .notPermitted
  else if (s.executor.vector.get c).isSome then ⟨s, response 0x0B .alreadyPending⟩
  else ⟨(s.setBit c (.node n)).takeCommands, response 0x0B .pending⟩

/-! ## The decoder -/

/-- A request whose kind and length are right, from node `n` (R193, from check 3 on). -/
def State.serve (s : State) (n : Node) : Request → Served
  | .status => s.serveStatus n
  | .readRack r => s.serveReadRack r
  | .readLane p i => s.serveReadLane p i
  | .register p => s.serveRegister n p
  | .load r replace finish es => s.serveLoad n r replace finish es
  | .unloaded r => s.serveUnloaded n r
  | .rewash r => s.serveRewash n r
  | .retire r => s.serveRetire n r
  | .place r p => s.servePlace n r p
  | .purge => s.servePurge n
  | .command c =>
    match LineCommand.ofCode c with
    | some k => s.serveCommand n k
    | none => s.refuse 0x0B .badArgument
  | .set p i v => s.serveSet n p i v
  | .get p i => s.serveGet n p i

/-- The response to a message that spells no request: BAD_REQUEST, the kind code echoed, the head of UNL with UNLOADED
and REWASH (R193, R199). -/
def State.refuseMessage (s : State) (message : List Octet) : Served :=
  match message with
  | kind :: _ =>
    if kind = 0x06 ∨ kind = 0x07 then s.refuseAtHead kind .badRequest else s.refuse kind .badRequest
  | [] => s.refuse 0xFF .badRequest

/-- A message checked and served at its arrival (R186, R193). -/
def State.serveMessage (s : State) (n : Node) (message : List Octet) : Served :=
  match decodeRequest message with
  | some q => s.serve n q
  | none => s.refuseMessage message

/-- The state a served request leaves, with its response as the last answer (notes/assumptions/1.md). -/
def Served.answering (v : Served) (n : Node) : State :=
  { v.state with answer := some ⟨n, v.octets⟩ }

end Sys2Proof.Machine
end

