-- ==== Sys2Proof/Machine/LineOps.lean ====
section
/-! DEFINITION. The Line Interface (chapter 9): acceptances, presence, the message channels, the end of a frame. -/

namespace Sys2Proof.Machine

/-! ## Codes (R179, R182) -/

/-- The tunnel code an octet carries, none where it is undefined (R179). -/
def tunnelCodeOf (o : Octet) : Option TunnelCode :=
  [TunnelCode.off, .heating, .ready, .fault][o.toNat]?

/-- The drive code an octet carries, none where it is undefined (R179). -/
def driveCodeOf (o : Octet) : Option DriveCode :=
  [DriveCode.off, .ready, .running, .fault, .estop][o.toNat]?

/-- The station code an octet carries, none where it is undefined (R179). -/
def stationCodeOfOctet (o : Octet) : Option StationCode := [StationCode.idle, .want][o.toNat]?

/-- The held code of the tunnel node is written. -/
def State.setTunnelCode (s : State) (c : TunnelCode) : State :=
  { s with line := { s.line with tunnelCode := c } }

/-- The held code of the drive node is written. -/
def State.setDriveCode (s : State) (c : DriveCode) : State :=
  { s with line := { s.line with driveCode := c } }

/-- The held code of a station node is written. -/
def State.setStationCode (s : State) (x : Station) (c : StationCode) : State :=
  { s with line := { s.line with stationCode := s.line.stationCode.set x c } }

/-! ## What presence and codes bring about (R167 to R170, R183) -/

/-- A change of the tunnel code, or the tunnel node becoming present with its code: TUNNEL_NOT_READY in RUN where it is
other than READY (R169), and the STARTING test (R167). -/
def State.tunnelChanged (s : State) : State :=
  let t := if s.inRun && s.line.tunnelCode ≠ .ready then s.raiseHold .tunnelNotReady else s
  t.startingTest.takeCommands

/-- A change of the drive code, or the drive node becoming present with its code: DRIVE_FAULT in every state (R170),
DRIVE_NOT_READY for OFF in RUN (R169), and then the STARTING and HOLDING tests (R167, R168). -/
def State.driveChanged (s : State) : State :=
  let t :=
    if s.line.driveCode.isFault then s.raiseStop .driveFault
    else if s.inRun && s.line.driveCode = .off then s.raiseHold .driveNotReady
    else s
  t.startingTest.holdingTest.takeCommands

/-- A station that has become a claimant makes the Dispatch Arbiter decide (R149, R150). -/
def State.stationChanged (s : State) (before : State) (x : Station) : State :=
  if !before.claimant x && s.claimant x then s.decideDispatch else s

/-- An accepted temperature is handed to its zone (R98). -/
def State.handTemperature (s : State) (z : Zone) (v : Octet) : State :=
  { s with heat :=
      { s.heat with zones := s.heat.zones.set z { s.heat.zones.get z with raw := some v } } }

/-- An accepted pump map is handed on: bit z is the flag of zone z (R99, R179). -/
def State.handPumps (s : State) (v : Octet) : State :=
  let put (z : Zone) : ZoneInput := { s.heat.zones.get z with pump := v.getLsbD z.number }
  { s with heat :=
      { s.heat with zones := ⟨put .preWash, put .wash, put .powerRinse, put .finalRinse, put .dryer⟩ } }

/-- The accepted values of the six slots are handed on when the tunnel node becomes present (R183). -/
def State.handAccepted (s : State) : State :=
  let t := Zone.all.foldl
    (fun u z => match s.line.acceptedTemperature.get z with
      | some v => u.handTemperature z v
      | none => u)
    s
  match s.line.acceptedPump with
  | some v => t.handPumps v
  | none => t

/-- The tunnel node is absent: every zone NO_DATA with its reseed mark set and its pump off (R100). -/
def ZoneInput.absent (z : ZoneInput) : ZoneInput := { z with raw := none, pump := false, reseed := true }

/-! ## The message channel (R184 to R186) -/

/-- A channel is written. -/
def State.setChannel (s : State) (n : Node) (c : Channel) : State :=
  s.setNode n { s.line.nodes.get n with channel := c }

/-- The channel of a node. -/
def State.channel (s : State) (n : Node) : Channel := (s.line.nodes.get n).channel

/-- The channel after the take of an octet (R185). -/
def Channel.take (c : Channel) (o control : Octet) : Channel :=
  { c with
    state := .receiving
    request := c.request ++ [o]
    refS := controlS control
    gap := false
    tk := !c.tk
    frames := 0
    moved := true }

/-- The channel entering SENDING with a response (R186). -/
def Channel.send (c : Channel) (octets : List Octet) (control : Octet) : Channel :=
  { c with
    state := .sending
    request := []
    response := octets
    index := 0
    s := !c.s
    refTK := controlTK control
    frames := 0 }

/-- An octet is taken; one with E set is the arrival of the request, which is served at once (R185, R186). -/
def State.takeOctet (s : State) (n : Node) (o control : Octet) : State :=
  let c := (s.channel n).take o control
  let t := s.setChannel n c
  if controlE control then
    let v := t.serveMessage n c.request
    let u := v.answering n
    u.setChannel n ((u.channel n).send v.octets control)
  else t

/-- The response octet shown is acknowledged (R186). -/
def Channel.acknowledge (c : Channel) (control : Octet) : Channel :=
  if c.index + 1 < c.response.length then
    { c with index := c.index + 1, s := !c.s, refTK := controlTK control, frames := 0, moved := true }
  else { c with state := .idle, response := [], index := 0, moved := true }

/-- The acceptance of a message pair at a channel (R185, R186). V absent sets the gap mark in every channel state
(R184). -/
def State.acceptPair (s : State) (n : Node) (p : Octet × Octet) : State :=
  let c := s.channel n
  let marked : Channel := { c with gap := c.gap || !controlV p.2 }
  match c.state with
  | .idle =>
    if controlV p.2 && (c.gap || controlS p.2 ≠ c.refS) then s.takeOctet n p.1 p.2 else s.setChannel n marked
  | .receiving =>
    if !controlV p.2 then s.setChannel n { marked with state := .idle, request := [] }
    else if controlS p.2 = c.refS then s
    else if 32 ≤ c.request.length then s.setChannel n { c with state := .discarding, request := [] }
    else s.takeOctet n p.1 p.2
  | .sending =>
    s.setChannel n (if controlTK p.2 ≠ c.refTK then marked.acknowledge p.2 else marked)
  | .discarding => s.setChannel n (if controlV p.2 then c else { marked with state := .idle })

/-- The 64th frame without a take: the request is discarded (R185). -/
def Channel.timeOut (c : Channel) : Channel :=
  match c.state with
  | .receiving => { c with state := .discarding, request := [], frames := 64 }
  | .idle | .sending | .discarding => c

/-- The 64th frame without an acknowledgement: the response is dropped (R186). -/
def Channel.drop (c : Channel) : Channel :=
  match c.state with
  | .sending => { c with state := .idle, response := [], index := 0, frames := 64 }
  | .idle | .receiving | .discarding => c

/-- The count of frames of a channel at a frame end (R185, R186): a frame with a take or an acknowledgement is not
counted. -/
def Channel.countFrame (c : Channel) : Channel :=
  match c.state with
  | .receiving =>
    if c.moved then c else if 64 ≤ c.frames + 1 then c.timeOut else { c with frames := c.frames + 1 }
  | .sending =>
    if c.moved then c else if 64 ≤ c.frames + 1 then c.drop else { c with frames := c.frames + 1 }
  | .idle | .discarding => c

/-! ## Presence (R181, R182, R187) -/

/-- An acceptance of the code slot of a present node (R182): a code defined for the role becomes its code and is handed
on where it is a change; FFh and undefined values leave the code. -/
def State.acceptCode (s : State) (n : Node) (v : Octet) : State :=
  match n with
  | .panel | .unload => s
  | .tunnel =>
    match tunnelCodeOf v with
    | some c => if c = s.line.tunnelCode then s else (s.setTunnelCode c).tunnelChanged
    | none => s
  | .drive =>
    match driveCodeOf v with
    | some c => if c = s.line.driveCode then s else (s.setDriveCode c).driveChanged
    | none => s
  | .station x =>
    match stationCodeOfOctet v with
    | some c => (s.setStationCode x c).stationChanged s x
    | none => s

/-- The code with which a node becomes present is handed on with its presence (R181, R183): the code where it is defined,
the role's first code otherwise. -/
def State.presentWith (s : State) (n : Node) (v : Octet) : State :=
  let t := s.setNode n { s.line.nodes.get n with present := true }
  match n with
  | .panel | .unload => t
  | .tunnel => ((t.setTunnelCode ((tunnelCodeOf v).getD .off)).tunnelChanged).handAccepted
  | .drive => (t.setDriveCode ((driveCodeOf v).getD .off)).driveChanged
  | .station x => (t.setStationCode x ((stationCodeOfOctet v).getD .idle)).stationChanged s x

/-- A node becomes present (R181); after the presence itself its channel treats its accepted message pair (R187). -/
def State.becomePresent (s : State) (n : Node) (v : Octet) : State :=
  let t := s.presentWith n v
  match (t.line.nodes.get n).acceptedPair with
  | some p => t.acceptPair n p
  | none => t

/-- The held code of a node returns to its role's first code (R181). -/
def State.firstCode (s : State) : Node → State
  | .panel | .unload => s
  | .tunnel => s.setTunnelCode .off
  | .drive => s.setDriveCode .off
  | .station x => s.setStationCode x .idle

/-- The absence of a node is handed on (R183): zones and TUNNEL_ABSENT for the tunnel node, DRIVE_ABSENT for the drive
node. -/
def State.absenceHandedOn (s : State) : Node → State
  | .panel | .unload | .station _ => s
  | .tunnel =>
    let t := { s with heat := { s.heat with zones := s.heat.zones.map ZoneInput.absent } }
    match s.executor.loop with
    | .starting _ _ | .run => t.raiseHold .tunnelAbsent
    | .idle | .ready | .holding _ | .hold | .stopped => t
  | .drive => s.raiseStop .driveAbsent

/-- A present node becomes absent (R181): its idle-frame count stands at 8 and its accepted code is the idle FFh
(notes/assumptions/16.md), its code returns to the first, its channel is torn down (R187), its mark is cleared, and the
absence is handed on. -/
def State.becomeAbsent (s : State) (n : Node) : State :=
  let v := s.line.nodes.get n
  ((s.setNode n
    { v with
      present := false
      idleFrames := 8
      acceptedCode := some 0xFF
      channel := Channel.reset
      attention := false }).firstCode n).absenceHandedOn n

/-! ## The end of a frame (R178, R180) -/

/-- The 30 up slots of a frame (R178, R179). -/
def frameSlots (slots : List Octet) : List Octet := (List.range 30).map (upSlot slots)

/-- Double look (R180): the raw value equals that of the frame before and differs from the accepted value. -/
def doubleLook {α : Type} [DecidableEq α] (before : Option α) (now : α) (accepted : Option α) : Bool :=
  before = some now && accepted ≠ some now

/-- The idle-frame count of a node at a frame end (R181). -/
def NodeLine.countIdle (v : NodeLine) (code : Octet) : NodeLine :=
  { v with idleFrames := if code = 0xFF then min 8 (v.idleFrames + 1) else 0 }

/-- The events that the end of a frame may bring, in the fixed order. -/
def frameEvents : List FrameEvent :=
  Node.all.map .code ++ Zone.all.map .temperature ++ [.pumpMap] ++ Node.all.map .message
    ++ Node.all.map .absent ++ Node.all.map .count

/-- One of the separate events of a frame end, where the raw values of the frame before and of this frame bring it. The
double look compares whole octets: a bit that R179 does not examine takes part in it (R180; notes/assumptions/30.md). -/
def State.frameEvent (s : State) (before : Option (List Octet)) (now : List Octet) : FrameEvent → State
  | .code n =>
    let v := s.line.nodes.get n
    let code := codeSlot now n
    if doubleLook (before.map fun b => codeSlot b n) code v.acceptedCode then
      let t := s.setNode n { v with acceptedCode := some code }
      if v.present then t.acceptCode n code
      else if code = 0xFF then t
      else t.becomePresent n code
    else s
  | .absent n =>
    let v := s.line.nodes.get n
    if v.present && v.idleFrames = 8 then s.becomeAbsent n else s
  | .message n =>
    let v := s.line.nodes.get n
    let pair := messageSlots now n
    if doubleLook (before.map fun b => messageSlots b n) pair v.acceptedPair then
      let t := s.setNode n { v with acceptedPair := some pair }
      if v.present then t.acceptPair n pair else t
    else s
  | .temperature z =>
    let t := temperatureSlot now z
    if doubleLook (before.map fun b => temperatureSlot b z) t (s.line.acceptedTemperature.get z) then
      let u : State :=
        { s with line := { s.line with acceptedTemperature := s.line.acceptedTemperature.set z (some t) } }
      if s.present .tunnel then u.handTemperature z t else u
    else s
  | .pumpMap =>
    let p := pumpSlot now
    if doubleLook (before.map pumpSlot) p s.line.acceptedPump then
      let u : State := { s with line := { s.line with acceptedPump := some p } }
      if s.present .tunnel then u.handPumps p else u
    else s
  | .count n => s.setChannel n (s.channel n).countFrame

/-- The next frame begins (R178): its number, its period, and the content of its down slots from the state that stands
now. -/
def State.beginFrame (s : State) (now : List Octet) : State :=
  let still (v : NodeLine) : NodeLine := { v with channel := { v.channel with moved := false } }
  let t : State :=
    { s with line :=
        { s.line with
          frame := (s.line.frame + 1) % 256
          period := s.working.framePeriod
          previous := some now
          nodes := s.line.nodes.map still } }
  { t with line := { t.line with down := t.downSlots } }

/-- The idle-frame counts of all nodes at a frame end (R181). -/
def State.countIdleFrames (s : State) (now : List Octet) : State :=
  let l := s.line.nodes
  let counted (n : Node) : NodeLine := (l.get n).countIdle (codeSlot now n)
  { s with line := { s.line with nodes :=
      ⟨counted .panel, counted .tunnel, counted .drive, counted .unload,
        counted (.station .a), counted (.station .b), counted (.station .c), counted (.station .d)⟩ } }

/-- The end of a frame (R178 to R187): idle-frame counts, then the separate events, those of `order` first, the others
in the fixed order (notes/assumptions/6.md), then the next frame. -/
def State.frameEnd (s : State) (slots : List Octet) (order : List FrameEvent) : State :=
  let now := frameSlots slots
  let before := s.line.previous
  ((inOrder order frameEvents).foldl (fun t e => t.frameEvent before now e)
    (s.countIdleFrames now)).beginFrame now

end Sys2Proof.Machine
end

