-- ==== Sys2Proof/Machine/Requests.lean ====
section
/-! DEFINITION. The meanings of the request rows: the arrival of the request at the Request Decoder (R186, R193). The
octets on the line that bring it are the business of FRAME_END (notes/assumptions/1.md). -/

namespace Sys2Proof.Machine

/-- How a command answers: always with a next state. -/
abbrev Answered := Host.Outcome State Fault Refusal

/-- STATUS (R195). -/
def execStatus (n : Node) (s : State) : Answered := .next ((s.serveStatus n).answering n)

/-- READ_RACK (R196). -/
def execReadRack (n : Node) (r : Octet) (s : State) : Answered := .next ((s.serveReadRack r).answering n)

/-- READ_LANE (R197). -/
def execReadLane (n : Node) (place start : Octet) (s : State) : Answered :=
  .next ((s.serveReadLane place start).answering n)

/-- REGISTER (R22). -/
def execRegister (n : Node) (place : Octet) (s : State) : Answered :=
  .next ((s.serveRegister n place).answering n)

/-- LOAD (R21). -/
def execLoad (n : Node) (r : Octet) (replace finish : Bool) (entries : List LoadEntry) (s : State) : Answered :=
  .next ((s.serveLoad n r replace finish entries).answering n)

/-- UNLOADED (R130). -/
def execUnloaded (n : Node) (r : Octet) (s : State) : Answered := .next ((s.serveUnloaded n r).answering n)

/-- REWASH (R132). -/
def execRewash (n : Node) (r : Octet) (s : State) : Answered := .next ((s.serveRewash n r).answering n)

/-- RETIRE (R47). -/
def execRetire (n : Node) (r : Octet) (s : State) : Answered := .next ((s.serveRetire n r).answering n)

/-- PLACE (R48). -/
def execPlace (n : Node) (r place : Octet) (s : State) : Answered := .next ((s.servePlace n r place).answering n)

/-- PURGE (R49). -/
def execPurge (n : Node) (s : State) : Answered := .next ((s.servePurge n).answering n)

/-- SET (R201). -/
def execSet (n : Node) (param index : Octet) (value : BitVec 16) (s : State) : Answered :=
  .next ((s.serveSet n param index value).answering n)

/-- GET (R201). -/
def execGet (n : Node) (param index : Octet) (s : State) : Answered := .next ((s.serveGet n param index).answering n)

end Sys2Proof.Machine
end

