-- ==== Sys2Proof/Machine/Arbiters.lean ====
section
/-! DEFINITION. The meanings of the rows of the owners of permissions (chapters 6 and 7). -/

namespace Sys2Proof.Machine

/-- UNLOAD_RELEASE_OPEN (R127): the release is decided. -/
def execUnloadReleaseOpen (s : State) : Answered := .next s.decideRelease

/-- MERGE_GRANT_OPEN (R142): the Merge Arbiter decides. -/
def execMergeGrantOpen (s : State) : Answered := .next s.decideMerge

/-- DISPATCH_GRANT_OPEN (R152): the Dispatch Arbiter decides. -/
def execDispatchGrantOpen (s : State) : Answered := .next s.decideDispatch

/-- MERGE_TIMEOUT (R145). -/
def execMergeTimeout (s : State) : Answered := .next s.mergeTimeout

/-- DISPATCH_TIMEOUT (R155). -/
def execDispatchTimeout (s : State) : Answered := .next s.dispatchTimeout

end Sys2Proof.Machine
end

