-- ==== Sys2Proof/Machine/Commands.lean ====
section
/-! DEFINITION. The meanings of the line-command rows, each a COMMAND request of a node (R161, R200), and of the executor's
own events (R167, R168, R175). -/

namespace Sys2Proof.Machine

/-- STOP (R165). -/
def execStop (n : Node) (s : State) : Answered := .next ((s.serveCommand n .stop).answering n)

/-- CLEAR (R172). -/
def execClear (n : Node) (s : State) : Answered := .next ((s.serveCommand n .clear).answering n)

/-- SETUP (R165). -/
def execSetup (n : Node) (s : State) : Answered := .next ((s.serveCommand n .setup).answering n)

/-- COMMIT (R173). -/
def execCommit (n : Node) (s : State) : Answered := .next ((s.serveCommand n .commit).answering n)

/-- HOLD (R168). -/
def execHold (n : Node) (s : State) : Answered := .next ((s.serveCommand n .hold).answering n)

/-- DRAIN (R175). -/
def execDrain (n : Node) (s : State) : Answered := .next ((s.serveCommand n .drain).answering n)

/-- RUN (R167). -/
def execRun (n : Node) (s : State) : Answered := .next ((s.serveCommand n .run).answering n)

/-- STARTING_COMPLETE (R167): STARTING ends in RUN where its condition holds, and the pending commands are taken. -/
def execStartingComplete (s : State) : Answered := .next s.startingTest.takeCommands

/-- HOLDING_END (R168): HOLDING ends in HOLD where the drive code is other than RUNNING, and the pending commands are
taken. -/
def execHoldingEnd (s : State) : Answered := .next s.holdingTest.takeCommands

/-- HEAT_TIMER_EXPIRY (R167). -/
def execHeatTimerExpiry (s : State) : Answered := .next s.heatTimerExpiry

/-- SETTLE_TIMER_EXPIRY (R168). -/
def execSettleTimerExpiry (s : State) : Answered := .next s.settleTimerExpiry

/-- DRAIN_COMPLETE (R175): the drain completes where its test is made and passes. -/
def execDrainComplete (s : State) : Answered := .next s.drainTest

end Sys2Proof.Machine
end

