-- ==== Sys2Proof/Machine/LineEvents.lean ====
section
/-! DEFINITION. The meanings of the rows of the Line Interface (chapter 9) and of the hardware reset (R177). -/

namespace Sys2Proof.Machine

/-- FRAME_END (R180). -/
def execFrameEnd (slots : List Octet) (order : List FrameEvent) (s : State) : Answered :=
  .next (s.frameEnd slots order)

/-- REQUEST_TIMEOUT (R185). -/
def execRequestTimeout (n : Node) (s : State) : Answered := .next (s.setChannel n (s.channel n).timeOut)

/-- RESPONSE_DROP (R186). -/
def execResponseDrop (n : Node) (s : State) : Answered := .next (s.setChannel n (s.channel n).drop)

/-- NODE_ABSENT (R181). -/
def execNodeAbsent (n : Node) (s : State) : Answered := .next (if s.present n then s.becomeAbsent n else s)

/-- HARDWARE_RESET (R177): every block at its reset values. The queue of commands is no state of the part, and the free
choices drawn so far stay drawn (notes/assumptions/14.md). -/
def execHardwareReset (s : State) : Answered :=
  .next { State.reset with pending := s.pending, draws := s.draws }

end Sys2Proof.Machine
end

