-- ==== Sys2Proof/Machine/Trackpoints.lean ====
section
/-! DEFINITION. The meanings of the rows of the Trackpoint Unit (chapter 3). An edge a filter cannot give, because its
level already stands there, changes nothing (R53; notes/assumptions/2.md). -/

namespace Sys2Proof.Machine

/-- BLOCKED_EDGE (R55). -/
def execBlockedEdge (e : Eye) (s : State) : Answered :=
  .next (if (s.eyes.get e).blocked then s else s.blockedEdge e)

/-- CLEAR_EDGE (R60). -/
def execClearEdge (e : Eye) (s : State) : Answered :=
  .next (if (s.eyes.get e).blocked then s.clearEdge e else s)

/-- JAM (R57). -/
def execJam (e : Eye) (s : State) : Answered := .next (s.declareJam e)

/-- ESTOP_ACTIVE (R71). -/
def execEstopActive (s : State) : Answered := .next (if s.estop.active then s else s.estopOn)

/-- ESTOP_RELEASED (R72). -/
def execEstopReleased (s : State) : Answered := .next (if s.estop.active then s.estopOff else s)

/-- EYE_SAMPLE (R53, R70). -/
def execEyeSample (blocked : List Eye) (estopLow : Bool) (order : List SampleInput) (s : State) : Answered :=
  .next (s.sampleAll blocked estopLow order)

end Sys2Proof.Machine
end

