-- ==== Sys2Proof/Machine/TunnelEvents.lean ====
section
/-! DEFINITION. The meanings of the rows of the Tunnel Sequencer (chapter 4) and the Heat Credit Unit (chapter 5). -/

namespace Sys2Proof.Machine

/-- ENCODER_COUNT (R74). -/
def execEncoderCount (s : State) : Answered := .next s.countEncoder

/-- STEP (R75). -/
def execStep (s : State) : Answered := .next s.stepTunnel

/-- EXIT_MISSING (R87). -/
def execExitMissing (r : RecNo) (s : State) : Answered := .next (s.exitMissing r)

/-- TUNNEL_STALL (R92). -/
def execTunnelStall (s : State) : Answered := .next s.tunnelStall

/-- CREDIT_SAMPLE (R102). -/
def execCreditSample (s : State) : Answered := .next s.creditSample

end Sys2Proof.Machine
end

