-- ==== Sys2Proof/Machine/Dispatch.lean ====
section
/-! DEFINITION. One arm per command. -/

namespace Sys2Proof.Machine

/-- The effect of a command on everything but the queue. -/
def exec (i : Instr) (s : State) : Host.Outcome State Fault Refusal :=
  match i with
  | .status n => Sys2Proof.Machine.execStatus n s
  | .readRack n r => Sys2Proof.Machine.execReadRack n r s
  | .readLane n place start => Sys2Proof.Machine.execReadLane n place start s
  | .register n place => Sys2Proof.Machine.execRegister n place s
  | .load n r replace finish entries => Sys2Proof.Machine.execLoad n r replace finish entries s
  | .unloaded n r => Sys2Proof.Machine.execUnloaded n r s
  | .rewash n r => Sys2Proof.Machine.execRewash n r s
  | .retire n r => Sys2Proof.Machine.execRetire n r s
  | .place n r place => Sys2Proof.Machine.execPlace n r place s
  | .purge n => Sys2Proof.Machine.execPurge n s
  | .set n param index value => Sys2Proof.Machine.execSet n param index value s
  | .get n param index => Sys2Proof.Machine.execGet n param index s
  | .stop n => Sys2Proof.Machine.execStop n s
  | .clear n => Sys2Proof.Machine.execClear n s
  | .setup n => Sys2Proof.Machine.execSetup n s
  | .commit n => Sys2Proof.Machine.execCommit n s
  | .hold n => Sys2Proof.Machine.execHold n s
  | .drain n => Sys2Proof.Machine.execDrain n s
  | .run n => Sys2Proof.Machine.execRun n s
  | .startingComplete => Sys2Proof.Machine.execStartingComplete s
  | .holdingEnd => Sys2Proof.Machine.execHoldingEnd s
  | .heatTimerExpiry => Sys2Proof.Machine.execHeatTimerExpiry s
  | .settleTimerExpiry => Sys2Proof.Machine.execSettleTimerExpiry s
  | .drainComplete => Sys2Proof.Machine.execDrainComplete s
  | .blockedEdge e => Sys2Proof.Machine.execBlockedEdge e s
  | .clearEdge e => Sys2Proof.Machine.execClearEdge e s
  | .unloadReleaseOpen => Sys2Proof.Machine.execUnloadReleaseOpen s
  | .mergeGrantOpen => Sys2Proof.Machine.execMergeGrantOpen s
  | .dispatchGrantOpen => Sys2Proof.Machine.execDispatchGrantOpen s
  | .mergeTimeout => Sys2Proof.Machine.execMergeTimeout s
  | .dispatchTimeout => Sys2Proof.Machine.execDispatchTimeout s
  | .jam e => Sys2Proof.Machine.execJam e s
  | .estopActive => Sys2Proof.Machine.execEstopActive s
  | .estopReleased => Sys2Proof.Machine.execEstopReleased s
  | .encoderCount => Sys2Proof.Machine.execEncoderCount s
  | .step => Sys2Proof.Machine.execStep s
  | .exitMissing r => Sys2Proof.Machine.execExitMissing r s
  | .tunnelStall => Sys2Proof.Machine.execTunnelStall s
  | .creditSample => Sys2Proof.Machine.execCreditSample s
  | .frameEnd slots order => Sys2Proof.Machine.execFrameEnd slots order s
  | .requestTimeout n => Sys2Proof.Machine.execRequestTimeout n s
  | .responseDrop n => Sys2Proof.Machine.execResponseDrop n s
  | .nodeAbsent n => Sys2Proof.Machine.execNodeAbsent n s
  | .hardwareReset => Sys2Proof.Machine.execHardwareReset s
  | .eyeSample blocked estopLow order => Sys2Proof.Machine.execEyeSample blocked estopLow order s

end Sys2Proof.Machine
end

