-- ==== Sys2Proof/Safety.lean ====
section
/-! DEFINITION. What the spec says always holds of the part: the invariants that statements name. Each is a condition on
one state. -/

namespace Sys2Proof

/-- The request that a row of the table brings to the Request Decoder, with its sender (R191); none for an event. -/
def Instr.request : Instr → Option (Node × Request)
  | .status n => some (n, .status)
  | .readRack n r => some (n, .readRack r)
  | .readLane n p i => some (n, .readLane p i)
  | .register n p => some (n, .register p)
  | .load n r replace finish es => some (n, .load r replace finish es)
  | .unloaded n r => some (n, .unloaded r)
  | .rewash n r => some (n, .rewash r)
  | .retire n r => some (n, .retire r)
  | .place n r p => some (n, .place r p)
  | .purge n => some (n, .purge)
  | .set n p i v => some (n, .set p i v)
  | .get n p i => some (n, .get p i)
  | .stop n => some (n, .command 0x00)
  | .clear n => some (n, .command 0x01)
  | .setup n => some (n, .command 0x02)
  | .commit n => some (n, .command 0x03)
  | .hold n => some (n, .command 0x04)
  | .drain n => some (n, .command 0x05)
  | .run n => some (n, .command 0x06)
  | _ => none

/-- The row of a line command sent by a node (R161). -/
def LineCommand.row : LineCommand → Node → Instr
  | .stop => .stop
  | .clear => .clear
  | .setup => .setup
  | .commit => .commit
  | .hold => .hold
  | .drain => .drain
  | .run => .run

/-- A value lies in the range of its setting, and in its list where it has one (R202). -/
def Param.admits (p : Param) (v : Nat) : Bool :=
  match p.values with
  | some vs => decide (v ∈ vs)
  | none => p.range.1 ≤ v && v ≤ p.range.2

end Sys2Proof

namespace Sys2Proof.Machine

/-! ## Places (R27, R29, R35) -/

/-- How often the places of R27 hold a record number. -/
def Lanes.holdings (l : Lanes) (n : RecNo) : Nat :=
  (Place.holding.map fun p => (l.contents p).count n).sum

/-- Every allocated record is in exactly one place, once, and no place holds a free number (R29). -/
abbrev State.placed (s : State) : Prop :=
  ∀ n : RecNo, s.lanes.holdings n = if (s.record n).isSome then 1 else 0

/-- The finish-order list holds the records of the four outfeeds, once each, those of one outfeed in the order of that
outfeed (R35). -/
abbrev Lanes.finishOrdered (l : Lanes) : Prop :=
  (∀ n ∈ l.finishOrder, ∃ x ∈ Station.all, n ∈ l.outfeed.get x)
    ∧ ∀ x ∈ Station.all, l.finishOrder.filter (fun n => decide (n ∈ l.outfeed.get x)) = l.outfeed.get x

/-- No place holds more than its capacity under the given settings, and the tunnel has its number of cells (R27). -/
abbrev Lanes.within (l : Lanes) (t : Settings) : Prop :=
  (∀ x ∈ Station.all, (l.outfeed.get x).length ≤ t.outfeedCap)
    ∧ l.spur.length ≤ t.spurCap ∧ l.acc.length ≤ t.accumCap ∧ l.cells.length = t.tunnelCells
    ∧ l.xt.length ≤ 2 ∧ l.unl.length ≤ t.unloadCap ∧ l.ret.length ≤ t.returnCap

/-! ## Records (R5, R9, R16) -/

/-- The fields of a record lie in the ranges of R5, its list is no longer than 8 entries, its class ceiling is not below
the class of any entry (R16), and it has a rinse minimum where it has a rinse sample (R112). -/
abbrev Record.sound (r : Record) : Prop :=
  r.load.length ≤ 8 ∧ (∀ e ∈ r.load, e.wellFormed = true ∧ e.cls ≤ r.ceiling)
    ∧ r.credit ≤ 65535 ∧ (∀ t ∈ r.rinseMin, t ≤ 254) ∧ r.rinseSamples ≤ 255 ∧ r.rewash ≤ 7
    ∧ (r.rinseSamples ≠ 0 → r.rinseMin ≠ none)

/-- Every record of the table is sound. -/
abbrev State.recordsSound (s : State) : Prop := ∀ n : RecNo, ∀ r ∈ s.record n, r.sound

/-- The states a record may have in a place (section 1.3, "States and the places that hold them"). -/
def Place.states : Place → List RackState
  | .lp _ => [.empty, .loading]
  | .outfeed _ | .spur | .acc => [.loaded]
  | .tun => [.inWash]
  | .xt => [.clean, .short]
  | .unl => [.empty, .clean, .short, .rejected]
  | .ret => [.empty]
  | .off => [.empty, .loaded, .inWash, .clean, .short]
  | .finishOrder => [.loaded]

/-- Every record has a state its place admits (section 1.3, R13, R32), its list is empty in RET (R13), and it holds
verdict reasons only as SHORT or REJECTED (R9). -/
abbrev State.statesMatchPlaces (s : State) : Prop :=
  ∀ p ∈ Place.holding, ∀ n ∈ s.lanes.contents p, ∀ r ∈ s.record n,
    r.state ∈ Place.states p ∧ (p = .ret → r.load = [])
      ∧ (r.state = .short ∨ r.state = .rejected ∨ r.reasons = Reasons.none)

/-! ## Settings (R201, R202) -/

/-- Every stored and every working value is one its setting admits (R201). -/
abbrev State.settingsInRange (s : State) : Prop :=
  ∀ p : Param, p.admits (s.storedValue p) = true ∧ p.admits (s.workingValue p) = true

/-! ## Heat (R107) -/

/-- The filter and the effective temperature of a zone lie in their ranges (R107). -/
abbrev ZoneInput.inRange (z : ZoneInput) : Prop := z.filter ≤ 4064 ∧ z.effective ≤ 254

/-- Every zone is in range (R107). -/
abbrev State.heatInRange (s : State) : Prop := ∀ z ∈ Zone.all, (s.heat.zones.get z).inRange

/-! ## Permissions (R90, R127, R139, R148, R166) -/

/-- Outside RUN no permission stands: the permit is off, the stall timer stopped, the release closed, both grants NONE
(R166). -/
abbrev State.permissionsOnlyInRun (s : State) : Prop :=
  s.inRun = false →
    s.tunnel.permit = false ∧ s.tunnel.stall = none ∧ s.unload.release = none ∧ s.merge = none ∧ s.dispatch.grant = none

/-- In RUN the drive node is present with a code other than FAULT and ESTOP, and the ESTOP input is released (R166). -/
abbrev State.runIsSafe (s : State) : Prop :=
  s.inRun = true → s.present .drive = true ∧ s.line.driveCode.isFault = false ∧ s.estop.active = false

/-- The permit is on exactly under its condition (R90), and the stall timer runs only while it is on (R92). -/
abbrev State.permitFollows (s : State) : Prop :=
  s.tunnel.permit = s.permitCondition ∧ (s.tunnel.stall.isSome = true → s.tunnel.permit = true)

/-! ## The line (R181, R184, R189) -/

/-- An absent node has its role's first code, its channel at rest and its mark clear (R181, R184, R189). -/
abbrev NodeLine.quietIfAbsent (v : NodeLine) : Prop :=
  v.present = false → v.channel = Channel.reset ∧ v.attention = false

/-- The held code of a node is its role's first code. -/
def Line.atFirstCode (l : Line) : Node → Bool
  | .panel | .unload => true
  | .tunnel => l.tunnelCode = .off
  | .drive => l.driveCode = .off
  | .station x => l.stationCode.get x = .idle

/-- Every absent node is quiet (R181, R184, R189). -/
abbrev State.absentQuiet (s : State) : Prop :=
  ∀ n ∈ Node.all, (s.line.nodes.get n).quietIfAbsent ∧ (s.present n = false → s.line.atFirstCode n = true)

/-- A message channel keeps to its buffers: at most 32 octets of a request and 48 of a response, the octet shown within
the response while it is SENDING, at most 64 frames counted (R184). -/
abbrev Channel.sound (c : Channel) : Prop :=
  c.request.length ≤ 32 ∧ c.response.length ≤ 48 ∧ c.frames ≤ 64
    ∧ (c.state = .sending ↔ c.index < c.response.length)
    ∧ (c.state ≠ .receiving → c.request = []) ∧ (c.state = .receiving → c.request ≠ [])

/-- A pair with control octet `w` is an octet that the channel takes (R185): V present, in IDLE after a gap or with a new
S, in RECEIVING with a new S and room for it. -/
abbrev Channel.octetTaken (c : Channel) (w : Octet) : Prop :=
  controlV w = true ∧ ((c.state = .idle ∧ (c.gap = true ∨ controlS w ≠ c.refS))
    ∨ (c.state = .receiving ∧ controlS w ≠ c.refS ∧ c.request.length < 32))

/-! ## What the up slots of a frame bring (R180, R181) -/

/-- The frame end with these up slots accepts a new value of the node's code slot (R180). -/
abbrev State.codeAccepted (s : State) (slots : List Octet) (n : Node) : Prop :=
  (∃ b ∈ s.line.previous, codeSlot b n = codeSlot slots n)
    ∧ (s.line.nodes.get n).acceptedCode ≠ some (codeSlot slots n)

/-- The frame end with these up slots accepts a new message pair of the node (R180). -/
abbrev State.pairAccepted (s : State) (slots : List Octet) (n : Node) : Prop :=
  (∃ b ∈ s.line.previous, messageSlots b n = messageSlots slots n)
    ∧ (s.line.nodes.get n).acceptedPair ≠ some (messageSlots slots n)

/-- The node's idle-frame count does not reach 8 at this frame end (R181). -/
abbrev State.idleBelowLimit (s : State) (slots : List Octet) (n : Node) : Prop :=
  codeSlot slots n = 0xFF → (s.line.nodes.get n).idleFrames < 7

/-- The node's code and its presence are not changed by this frame end (R181, R182). -/
abbrev State.codeQuiet (s : State) (slots : List Octet) (n : Node) : Prop :=
  ¬s.codeAccepted slots n ∧ (s.present n = true → s.idleBelowLimit slots n)

/-- The control octet marks the last octet of a request: V present and E set (R179, R185). -/
abbrev endsRequest (w : Octet) : Prop := controlV w = true ∧ controlE w = true

/-- No request arrives at this frame end: no last octet is accepted, and no node that may become present has one accepted
already (R185, R187). -/
abbrev State.noRequestAt (s : State) (slots : List Octet) : Prop :=
  ∀ n ∈ Node.all, (s.pairAccepted slots n → ¬endsRequest (messageSlots slots n).2)
    ∧ (s.present n = false → ∀ p ∈ (s.line.nodes.get n).acceptedPair, ¬endsRequest p.2)

/-- At most the message pair of this one node is accepted at this frame end, and no node becomes absent. -/
abbrev State.onlyPairAt (s : State) (slots : List Octet) (n : Node) : Prop :=
  (∀ m ∈ Node.all, s.codeQuiet slots m ∧ (m ≠ n → ¬s.pairAccepted slots m))
    ∧ (∀ z ∈ Zone.all, (∃ b ∈ s.line.previous, temperatureSlot b z = temperatureSlot slots z) →
        s.line.acceptedTemperature.get z = some (temperatureSlot slots z))
    ∧ ((∃ b ∈ s.line.previous, pumpSlot b = pumpSlot slots) → s.line.acceptedPump = some (pumpSlot slots))

/-! ## Trackpoints (R51) -/

/-- A trackpoint's level is BLOCKED exactly while a blockage is in progress, its jam timer runs only during one and
never together with its jam-declared mark, its length is at most 65535 (R51, R56, R57, R60). -/
abbrev Trackpoint.sound (t : Trackpoint) : Prop :=
  (t.blocked = t.blockage.isSome) ∧ (∀ b ∈ t.blockage, b.length ≤ 65535)
    ∧ (t.jamTimer.isSome = true ↔ t.blockage.any (fun b => !b.jamDeclared) = true)

/-! ## What a command leaves as it was -/

/-- The inputs are as they were: the trackpoints, the ESTOP input, the pitch counter and the entry admission, the zones
and the sample timer. -/
abbrev State.inputsKept (s t : State) : Prop :=
  t.eyes = s.eyes ∧ t.estop = s.estop ∧ t.heat = s.heat ∧ t.tunnel.pitch = s.tunnel.pitch
    ∧ t.tunnel.admissionUsed = s.tunnel.admissionUsed

/-- The settings are as they were. -/
abbrev State.settingsKept (s t : State) : Prop :=
  t.stored = s.stored ∧ t.working = s.working ∧ t.single = s.single

/-- The line is as it was, but for attention marks. -/
abbrev State.lineKept (s t : State) : Prop :=
  t.line = { s.line with nodes := t.line.nodes }
    ∧ ∀ n ∈ Node.all, t.line.nodes.get n = { s.line.nodes.get n with attention := t.attention n }

/-- Every record and every place is as it was. -/
abbrev State.racksKept (s t : State) : Prop := t.slots = s.slots ∧ t.lanes = s.lanes

/-- The permissions are as they were. -/
abbrev State.permissionsKept (s t : State) : Prop :=
  t.tunnel.permit = s.tunnel.permit ∧ t.tunnel.stall = s.tunnel.stall ∧ t.unload = s.unload ∧ t.merge = s.merge
    ∧ t.dispatch = s.dispatch

/-- The inputs, the settings and, but for attention marks, the line are as they were. -/
abbrev State.surroundingsKept (s t : State) : Prop := s.inputsKept t ∧ s.settingsKept t ∧ s.lineKept t

/-- The executor is as it was, and so is the count of free choices. -/
abbrev State.executorKept (s t : State) : Prop := t.executor = s.executor ∧ t.draws = s.draws

/-- The tunnel permit, the release and both grants are withdrawn (R166). -/
abbrev State.permissionsWithdrawn (t : State) : Prop :=
  t.tunnel.permit = false ∧ t.tunnel.stall = none ∧ t.unload.release = none ∧ t.merge = none ∧ t.dispatch.grant = none

/-- The permissions after a command that leaves RUN, or was taken outside it (R166). -/
abbrev State.permissionsLeft (s t : State) : Prop :=
  t.unload.diverter = s.unload.diverter ∧ t.dispatch.deferred = s.dispatch.deferred
    ∧ t.dispatch.lastTarget = s.dispatch.lastTarget
    ∧ if s.inRun then t.permissionsWithdrawn else s.permissionsKept t

/-- No line command is pending (R160). -/
abbrev State.nonePending (s : State) : Prop := s.executor.vector = PerCommand.const none

/-- Every record but that of `n` is as it was. -/
abbrev State.othersKept (s t : State) (n : RecNo) : Prop := ∀ m, m ≠ n → t.record m = s.record m

/-- Every outcome record but those of the commands named is as it was (R164). -/
abbrev State.outcomesKept (s t : State) (except : List LineCommand) : Prop :=
  ∀ c ∈ LineCommand.all, c ∉ except → t.executor.outcomes.get c = s.executor.outcomes.get c

/-- The cause sets are as they were (R171). -/
abbrev State.causesKept (s t : State) : Prop :=
  t.executor.holdCauses = s.executor.holdCauses ∧ t.executor.stopCauses = s.executor.stopCauses

/-! ## What the taking of HOLD and of STOP makes of the executor (R165, R166, R168), no command pending and no drain -/

/-- The loop state after a HOLD with issuer `i` (R165, R168). -/
def State.loopAfterHold (s : State) (i : Issuer) : LoopState :=
  match s.executor.loop with
  | .run => if s.line.driveCode = .running then .holding i else .hold
  | .starting _ _ => .hold
  | .idle => .idle
  | .ready => .ready
  | .holding j => .holding j
  | .hold => .hold
  | .stopped => .stopped

/-- The outcome of a HOLD (R165, R168). -/
def State.outcomeOfHold (s : State) : OutcomeKind :=
  match s.executor.loop with
  | .idle | .ready | .stopped => .illegal
  | .run => if s.line.driveCode = .running then .inProgress else .done
  | .starting _ _ | .holding _ | .hold => .done

/-- A HOLD with issuer `i` has been taken (R165, R166, R168): the loop state, the HOLD outcome, the RUN outcome cancelled
in STARTING, the timers, the permissions. -/
abbrev State.holdTaken (s t : State) (i : Issuer) : Prop :=
  t.executor.loop = s.loopAfterHold i
    ∧ t.executor.outcomes.hold = ⟨s.outcomeOfHold, some i, none⟩
    ∧ t.executor.outcomes.run =
        (match s.executor.loop with
          | .starting _ j => ⟨.cancelled, some j, none⟩
          | .idle | .ready | .run | .holding _ | .hold | .stopped => s.executor.outcomes.run)
    ∧ s.outcomesKept t [.hold, .run]
    ∧ t.executor.heatTimer =
        (match s.executor.loop with
          | .starting _ _ => none
          | .idle | .ready | .run | .holding _ | .hold | .stopped => s.executor.heatTimer)
    ∧ t.executor.settleTimer =
        (match s.executor.loop with
          | .run => if s.line.driveCode = .running then some s.working.settleTimeout else none
          | .idle | .ready | .starting _ _ | .holding _ | .hold | .stopped => s.executor.settleTimer)
    ∧ t.executor.stopCauses = s.executor.stopCauses ∧ t.executor.drain = none ∧ t.nonePending

/-- A hold cause has been raised, and its HOLD taken with issuer INTERNAL (R162, R165, R169). -/
abbrev State.heldBy (s t : State) (c : HoldCause) : Prop :=
  s.holdTaken t .internal ∧ t.executor.holdCauses = s.executor.holdCauses.add c

/-- The loop state after a STOP (R165). -/
def State.loopAfterStop (s : State) : LoopState :=
  match s.executor.loop with
  | .idle => .idle
  | .ready | .starting _ _ | .run | .holding _ | .hold | .stopped => .stopped

/-- A STOP with issuer `i` has been taken (R165, R166): the loop state, the STOP outcome, the RUN, HOLD and DRAIN
outcomes it cancels, the drain flag, the timers of the busy states. -/
abbrev State.stopTaken (s t : State) (i : Issuer) : Prop :=
  t.executor.loop = s.loopAfterStop
    ∧ t.executor.outcomes.stop = ⟨.done, some i, none⟩
    ∧ t.executor.outcomes.run =
        (match s.executor.loop with
          | .starting _ j => ⟨.cancelled, some j, none⟩
          | .idle | .ready | .run | .holding _ | .hold | .stopped => s.executor.outcomes.run)
    ∧ t.executor.outcomes.hold =
        (match s.executor.loop with
          | .holding j => ⟨.cancelled, some j, none⟩
          | .idle | .ready | .starting _ _ | .run | .hold | .stopped => s.executor.outcomes.hold)
    ∧ s.outcomesKept t [.stop, .run, .hold, .drain]
    ∧ ((s.executor.outcomes.drain.kind = .inProgress → s.executor.outcomes.drain.issuer ≠ none →
          t.executor.outcomes.drain = ⟨.cancelled, s.executor.outcomes.drain.issuer, none⟩)
        ∧ (s.executor.outcomes.drain.kind ≠ .inProgress → t.executor.outcomes.drain = s.executor.outcomes.drain))
    ∧ t.executor.drain = none ∧ t.executor.holdCauses = s.executor.holdCauses ∧ t.nonePending
    ∧ t.executor.heatTimer =
        (match s.executor.loop with
          | .starting _ _ => none
          | .idle | .ready | .run | .holding _ | .hold | .stopped => s.executor.heatTimer)
    ∧ t.executor.settleTimer =
        (match s.executor.loop with
          | .holding _ => none
          | .idle | .ready | .starting _ _ | .run | .hold | .stopped => s.executor.settleTimer)

/-- The stored settings and the contents of the loop pass the five checks of COMMIT (R173). -/
abbrev State.commitPasses (s : State) : Prop :=
  (s.stored.zoneLen.z0 + s.stored.zoneLen.z1 + s.stored.zoneLen.z2 + s.stored.zoneLen.z3 + s.stored.zoneLen.z4
      = s.stored.tunnelCells ∧ s.stored.zoneLen.z3 ≠ 0)
    ∧ (∀ e ∈ Eye.all, s.stored.rackMin.get e < s.stored.rackMax.get e
        ∧ s.stored.rackMax.get e < s.stored.jamLimit.get e)
    ∧ ((∀ x ∈ Station.all, (s.lanes.outfeed.get x).length ≤ s.stored.outfeedCap)
        ∧ s.lanes.spur.length ≤ s.stored.spurCap ∧ s.lanes.acc.length ≤ s.stored.accumCap
        ∧ s.lanes.unl.length ≤ s.stored.unloadCap ∧ s.lanes.ret.length ≤ s.stored.returnCap)
    ∧ (∀ i < s.lanes.cells.length, s.stored.tunnelCells ≤ i → s.lanes.cells[i]?.join = none)
    ∧ s.allocationCount ≤ s.single.rackLimit

/-! ## Decisions taken (R127, R140, R150) -/

/-- No decision is left over: the Unload Controller, the Merge Arbiter and the Dispatch Arbiter, asked again, change
nothing. -/
abbrev State.decided (t : State) : Prop :=
  exec .unloadReleaseOpen t = .next t ∧ exec .mergeGrantOpen t = .next t ∧ exec .dispatchGrantOpen t = .next t

/-- An open merge grant, where `t` holds one, is newly decided: its window is TIMING with the full MERGE_WINDOW, and its
source is the spur or, with SPUR empty, the station whose outfeed holds the first record of the finish-order list
(R141, R142). -/
abbrev State.mergeFresh (t : State) : Prop :=
  ∀ g ∈ t.merge, t.inRun = true ∧ g.window = .timing t.working.mergeWindow
    ∧ (t.lanes.spur ≠ [] → g.source = .spur)
    ∧ (t.lanes.spur = [] → ∃ n ∈ t.lanes.finishOrder.head?, ∃ x ∈ Station.all,
        n ∈ t.lanes.outfeed.get x ∧ g.source = .station x)

/-- At the event that leads from `s` to `t` the Merge Arbiter has decided (R140): with no grant open before, what is open
is newly decided and nothing more opens; a grant open before is as it was. -/
abbrev State.mergeDecided (s t : State) : Prop :=
  (s.merge = none → t.mergeFresh ∧ exec .mergeGrantOpen t = .next t) ∧ (s.merge ≠ none → t.merge = s.merge)

/-- An open dispatch grant, where `t` holds one, is newly decided: in RUN, its window TIMING with the full
DISPATCH_WINDOW, its target DEFERRED and the last target (R151, R152). -/
abbrev State.dispatchFresh (t : State) : Prop :=
  ∀ g ∈ t.dispatch.grant, t.inRun = true ∧ g.window = .timing t.working.dispatchWindow
    ∧ t.dispatch.deferred.get g.target = true ∧ t.dispatch.lastTarget = some g.target

/-- At the event that leads from `s` to `t` the Dispatch Arbiter has decided (R150): with no grant open before, what is
open is newly decided, nothing more opens, and without a grant nothing has changed; a grant open before is as it was. -/
abbrev State.dispatchDecided (s t : State) : Prop :=
  (s.dispatch.grant = none → t.dispatchFresh ∧ exec .dispatchGrantOpen t = .next t
      ∧ (t.dispatch.grant = none → t.dispatch = s.dispatch))
    ∧ (s.dispatch.grant ≠ none → t.dispatch = s.dispatch)

/-! ## The conditions of STARTING and of the drain (R167, R175) -/

/-- No record is LOADED, IN_WASH or SHORT, and XT is empty (R175). -/
abbrev State.drained (s : State) : Prop :=
  s.lanes.xt = [] ∧ ∀ n, ∀ r ∈ s.record n, r.state ≠ .loaded ∧ r.state ≠ .inWash ∧ r.state ≠ .short

/-- What ends STARTING in RUN holds (R167). -/
abbrev State.mayRun (s : State) : Prop :=
  s.present .tunnel = true ∧ s.line.tunnelCode = .ready ∧ s.present .drive = true
    ∧ (s.line.driveCode = .ready ∨ s.line.driveCode = .running) ∧ s.estop.active = false

/-- STARTING has ended in RUN for a RUN with issuer `i` (R90, R166, R167): DONE, the heat timer stopped, the permit on
unless the last cell holds a record and UNL with XT holds UNLOAD_CAP, the stall timer started with it. -/
abbrev State.runEntered (s t : State) (i : Issuer) : Prop :=
  t.executor.loop = .run ∧ t.executor.outcomes.run = ⟨.done, some i, none⟩ ∧ s.outcomesKept t [.run]
    ∧ t.executor.heatTimer = none ∧ t.executor.settleTimer = s.executor.settleTimer ∧ t.executor.drain = none
    ∧ t.nonePending ∧ t.executor.stopCauses = s.executor.stopCauses
    ∧ (t.tunnel.permit = true ↔
        ¬(s.lanes.lastCell ≠ none ∧ s.working.unloadCap ≤ s.lanes.unl.length + s.lanes.xt.length))
    ∧ (s.tunnel.permit = false → t.tunnel.permit = true → t.tunnel.stall = some s.working.stallLimit)
    ∧ t.decided

/-! ## A millisecond (notes/assumptions/5.md) -/

/-- The window does not run out in the next millisecond. -/
abbrev Window.outlasts (w : Window) : Prop := ∀ k ≤ 1, w ≠ .timing k

/-- The window with one millisecond less, where it is TIMING. -/
def Window.passMs : Window → Window
  | .timing k => .timing (k - 1)
  | .arriving => .arriving

/-- The record of XT with one millisecond less in its window. -/
def XtEntry.passMs (x : XtEntry) : XtEntry := { x with window := x.window.passMs }

/-! ## Blockages that end (R56, R60) -/

/-- The length of a blockage at its clear edge: the sample of the edge counts (R56). -/
def Blockage.finalLength (b : Blockage) : Nat := min 65535 (b.length + 1)

/-- The clear edge of trackpoint `e` would give one passage (R60, R62). -/
abbrev State.endsAsRack (s : State) (e : Eye) : Prop :=
  (s.eyes.get e).blocked = true ∧ ∃ b ∈ (s.eyes.get e).blockage,
    b.jamDeclared = true ∨ b.isReset = true
      ∨ (s.working.rackMin.get e ≤ b.finalLength ∧ b.finalLength ≤ s.working.rackMax.get e)

/-- The clear edge of trackpoint `e` would give debris (R60, R61). -/
abbrev State.endsAsDebris (s : State) (e : Eye) : Prop :=
  (s.eyes.get e).blocked = true ∧ ∃ b ∈ (s.eyes.get e).blockage,
    b.jamDeclared = false ∧ b.isReset = false ∧ b.finalLength < s.working.rackMin.get e

/-- The clear edge of trackpoint `e` would give two passages (R60, R63). -/
abbrev State.endsAsDouble (s : State) (e : Eye) : Prop :=
  (s.eyes.get e).blocked = true ∧ ∃ b ∈ (s.eyes.get e).blockage,
    b.jamDeclared = false ∧ b.isReset = false
      ∧ s.working.rackMin.get e ≤ b.finalLength ∧ s.working.rackMax.get e < b.finalLength

/-- The clear edge of `e` has been taken (R53, R57, R60): its level is CLEAR, its blockage ended, its jam timer stopped;
its anomaly record reads `a`, and the other trackpoints are as they were. -/
abbrev State.edgeCleared (s t : State) (e : Eye) (a : Anomaly) : Prop :=
  t.eyes.get e = ⟨false, 0, false, none, none, a⟩ ∧ ∀ d ∈ Eye.all, d ≠ e → t.eyes.get d = s.eyes.get d

/-- The inputs other than the trackpoints, and but for the entry admission, are as they were. -/
abbrev State.sensorsKept (s t : State) : Prop :=
  t.estop = s.estop ∧ t.heat = s.heat ∧ t.tunnel.pitch = s.tunnel.pitch

/-- The anomaly record after a passage that recorded `as` in order (R43, R66). -/
def Anomaly.after (a : Anomaly) (as : List (AnomalyKind × Option RecNo)) : Anomaly :=
  match as.getLast? with
  | some (kind, n) => ⟨kind, n, true⟩
  | none => a

/-- The records after an event that gives the lanes `l` and the records `r`: a record that has become the head of UNL is
rejected where it is SHORT with a rewash count at or above REWASH_LIMIT (R124, R125). -/
def State.seenAtHead (s : State) (l : Lanes) (r : RecNo → Option Record) (n : RecNo) : Option Record :=
  if l.unl.head? = some n ∧ s.lanes.unl.head? ≠ some n then
    (r n).map fun v =>
      if v.state = .short ∧ s.working.rewashLimit ≤ v.rewash then { v with state := .rejected } else v
  else r n

/-- The diverter stands where the head of UNL calls for: RETURN for a CLEAN or EMPTY head, SPUR for a SHORT or REJECTED
one (R123, R126). -/
abbrev State.diverterMatchesHead (t : State) : Prop :=
  ∀ n ∈ t.lanes.unl.head?, ∀ v ∈ t.record n,
    ((v.state = .clean ∨ v.state = .empty) → t.unload.diverter = .toReturn)
      ∧ ((v.state = .short ∨ v.state = .rejected) → t.unload.diverter = .toSpur)

end Sys2Proof.Machine
end

