-- ==== Sys2Proof/Certificates/Slice0/Obligations.lean ====
section
/-! DEFINITION. The statements for the provers. Where one says nothing of a part of the state, the frame statements
(`EveryCommandKeepsQueue`, `OnlySetAndCommitChangeSettings`, `InputsChangeByTheirOwnEvents`,
`RacksStayUnderOtherCommands`) say what it leaves as it was. Responses are read in `answer`, a field of the model's own
(notes/assumptions/1.md); the orders of EYE_SAMPLE and FRAME_END are operands (notes/assumptions/6.md, 7.md), and the
statements hold in every order. -/

open Sys2Proof Sys2Proof.Machine

/-! ## The machine and its queue -/

/-- A step takes the command at the front of the queue. -/
def Obligations.StepRunsFrontCommand : Prop :=
  ∀ (s : Sys2Proof.Machine.State) (c : Instr) (rest : List Instr),
    s.pending = c :: rest → step s = exec c { s with pending := rest }

/-- No command faults or is refused. THE MODEL'S CHOICE (notes/assumptions/17.md, and 14.md for HARDWARE_RESET): the
queue of waiting commands is the model's own, and no command, HARDWARE_RESET among them, reads or writes it. -/
def Obligations.EveryCommandKeepsQueue : Prop :=
  ∀ (s : Sys2Proof.Machine.State) (c : Instr) (q : List Instr),
    ∃ t, exec c s = .next t ∧ t.pending = s.pending ∧ exec c { s with pending := q } = .next { t with pending := q }

/-- THE MODEL'S CHOICE (notes/assumptions/5.md, 27.md). On an empty queue a millisecond passes. Where no timer runs out
in it, every running timer has one millisecond less, the exit windows only while the tunnel permit is on (R85), a reopened
grant stands as any other, and nothing else changes. Where the credit timer alone runs out it is a credit sample (R101),
and the timer is loaded again. -/
def Obligations.IdleStepIsOneMillisecond : Prop :=
  ∀ s : Sys2Proof.Machine.State, s.pending = [] →
    (∀ e ∈ Eye.all, ∀ k ∈ (s.eyes.get e).jamTimer, 2 ≤ k) →
    (∀ k ∈ s.tunnel.stall, 2 ≤ k) → (∀ x ∈ s.lanes.xt, x.window.outlasts) →
    (∀ g ∈ s.merge, g.window.outlasts) → (∀ g ∈ s.dispatch.grant, g.window.outlasts) →
    (∀ k ∈ s.executor.heatTimer, 2 ≤ k) → (∀ k ∈ s.executor.settleTimer, 2 ≤ k) →
    ∃ t, step s = .next t
      ∧ t.pending = [] ∧ t.estop = s.estop ∧ t.unload = s.unload ∧ t.line = s.line ∧ t.answer = s.answer
      ∧ s.settingsKept t ∧ t.draws = s.draws
      ∧ (∀ e ∈ Eye.all, t.eyes.get e =
          { s.eyes.get e with jamTimer := (s.eyes.get e).jamTimer.map fun k => k - 1 })
      ∧ t.tunnel = { s.tunnel with stall := s.tunnel.stall.map fun k => k - 1 }
      ∧ t.lanes = { s.lanes with xt := if s.tunnel.permit then s.lanes.xt.map XtEntry.passMs else s.lanes.xt }
      ∧ t.merge = s.merge.map (fun g => { g with window := g.window.passMs, reopened := false })
      ∧ t.dispatch =
          { s.dispatch with
            grant := s.dispatch.grant.map fun g => { g with window := g.window.passMs, reopened := none } }
      ∧ t.executor =
          { s.executor with
            heatTimer := s.executor.heatTimer.map fun k => k - 1
            settleTimer := s.executor.settleTimer.map fun k => k - 1 }
      ∧ (2 ≤ s.heat.sampleTimer →
          t.heat = { s.heat with sampleTimer := s.heat.sampleTimer - 1 } ∧ t.slots = s.slots)
      ∧ (s.heat.sampleTimer ≤ 1 →
          t.heat.sampleTimer = s.working.creditPeriod
            ∧ ∃ u, exec .creditSample s = .next u ∧ t.heat = u.heat ∧ t.slots = u.slots)

/-- HARDWARE_RESET: every block takes its reset values (R1, R50, R51, R70, R81, R97, R122, R139, R148, R159, R190), and
every stored and every working setting its default (R202). The queue stays, as does the count of free choices, and the
last answer is dropped (the model's choice, notes/assumptions/14.md). -/
def Obligations.HardwareResetValues : Prop :=
  ∀ s : Sys2Proof.Machine.State, ∃ t, exec .hardwareReset s = .next t
    ∧ (∀ n, t.record n = none)
    ∧ (∀ p ∈ Place.holding ++ [.finishOrder], t.lanes.contents p = []) ∧ t.lanes.cells.length = 16
    ∧ (∀ e ∈ Eye.all, t.eyes.get e = ⟨false, 0, true, none, none, ⟨.none, none, false⟩⟩)
    ∧ t.estop = ⟨false, 0⟩
    ∧ t.tunnel = ⟨600, false, false, none⟩
    ∧ (∀ z ∈ Zone.all, t.heat.zones.get z = ⟨none, false, true, 0, 0⟩) ∧ t.heat.sampleTimer = 100
    ∧ t.unload = ⟨.toReturn, none⟩ ∧ t.merge = none
    ∧ (∀ x ∈ Station.all, t.dispatch.deferred.get x = false)
    ∧ t.dispatch.grant = none ∧ t.dispatch.lastTarget = none
    ∧ t.executor.loop = .idle ∧ t.executor.drain = none ∧ t.nonePending
    ∧ (∀ c ∈ LineCommand.all, t.executor.outcomes.get c = ⟨.none, none, none⟩)
    ∧ t.executor.holdCauses = HoldCauses.none ∧ t.executor.stopCauses = StopCauses.none
    ∧ t.executor.heatTimer = none ∧ t.executor.settleTimer = none
    ∧ (∀ n ∈ Node.all, t.present n = false ∧ (t.line.nodes.get n).idleFrames = 0
        ∧ (t.line.nodes.get n).acceptedCode = none ∧ (t.line.nodes.get n).acceptedPair = none
        ∧ t.channel n = ⟨.idle, [], false, true, false, [], 0, false, false, 0, false⟩ ∧ t.attention n = false
        ∧ t.line.atFirstCode n = true)
    ∧ t.line.frame = 0 ∧ t.line.down = t.downSlots ∧ t.line.period = 1 ∧ t.line.previous = none
    ∧ (∀ z ∈ Zone.all, t.line.acceptedTemperature.get z = none) ∧ t.line.acceptedPump = none
    ∧ t.stored = t.working ∧ (∀ p : Param, p.admits (t.storedValue p) = true)
    ∧ (let v := t.working
      v.outfeedCap = 3 ∧ v.spurCap = 3 ∧ v.accumCap = 12 ∧ v.unloadCap = 6 ∧ v.returnCap = 16 ∧ v.tunnelCells = 16
      ∧ (∀ e ∈ Eye.all, v.eyeCheck.get e = 5
          ∧ v.rackMin.get e = (if e = .en ∨ e = .ex then 4000 else 300)
          ∧ v.rackMax.get e = (if e = .en ∨ e = .ex then 20000 else 900)
          ∧ v.jamLimit.get e = (if e = .en ∨ e = .ex then 40000 else 4000))
      ∧ v.pitchCounts = 600 ∧ v.zoneLen = ⟨2, 6, 3, 2, 3⟩ ∧ v.exitWindow = 5000 ∧ v.stallLimit = 30000
      ∧ v.classSpeed.toList = [2, 2, 1, 1, 1, 1, 0, 0] ∧ v.idleSpeed = 2 ∧ v.creditPeriod = 100
      ∧ v.zoneBase = ⟨0, 110, 120, 160, 0⟩ ∧ v.zoneStep = ⟨1, 6, 6, 2, 1⟩
      ∧ v.zoneWeight.z0.toList = List.replicate 16 0
      ∧ v.zoneWeight.z1.toList = [1, 2, 3, 4, 5, 6, 7, 8, 8, 8, 8, 8, 8, 8, 8, 8]
      ∧ v.zoneWeight.z2.toList = [1, 1, 2, 2, 3, 3, 4, 4, 4, 4, 4, 4, 4, 4, 4, 4]
      ∧ v.zoneWeight.z3.toList = [2, 4, 6, 8, 10, 12, 12, 12, 12, 12, 12, 12, 12, 12, 12, 12]
      ∧ v.zoneWeight.z4.toList = List.replicate 16 0
      ∧ v.classTarget.toList = [3000, 4500, 6000, 6000, 7500, 4500, 9000, 10000] ∧ v.rinseFloor = 164
      ∧ v.rewashLimit = 2 ∧ v.mergeWindow = 6000 ∧ v.dispatchWindow = 6000 ∧ v.heatTimeout = 900
      ∧ v.settleTimeout = 3000 ∧ v.framePeriod = 1)
    ∧ t.single = ⟨48, 7, .entry⟩
    ∧ t.pending = s.pending ∧ t.draws = s.draws ∧ t.answer = none

/-! ## Requests in general -/

/-- Decode and encode agree (R191): the octets of a request of at most 14 load entries spell that request, with every
field at every value its octets can carry. -/
def Obligations.RequestOctetsDecodeBack : Prop :=
  ∀ q : Request, q.encodable = true → decodeRequest q.encode = some q ∧ 1 ≤ q.encode.length ∧ q.encode.length ≤ 32

/-- A request row does what its message does at its arrival (R186, R191): the decoder, given the octets of the row's
request, serves exactly that request and forms that answer.

The all-or-nothing rule (R193): a request answered with a refusal (a result code of 10h or more) or with
ALREADY_PENDING (R161) changes nothing of the part. -/
def Obligations.RequestRowIsItsMessage : Prop :=
  (∀ (s : Sys2Proof.Machine.State) (c : Instr) (n : Node) (q : Request),
    c.request = some (n, q) → q.encodable = true →
    ∃ t, exec c s = .next t
      ∧ t = { (s.serveMessage n q.encode).state with answer := some ⟨n, (s.serveMessage n q.encode).octets⟩ }
      ∧ 2 ≤ (s.serveMessage n q.encode).octets.length
      ∧ (s.serveMessage n q.encode).octets.head? = some q.kind)
  ∧ (∀ (s t : Sys2Proof.Machine.State) (c : Instr) (n : Node) (q : Request),
    c.request = some (n, q) → exec c s = .next t →
    ∃ a ∈ t.answer, a.node = n ∧ ∃ result ∈ a.octets[1]?,
      (16 ≤ result.toNat ∨ result = 0x02) → t = { s with answer := t.answer })

/-- The roles (R194): a request from a node that may not make it is answered NOT_PERMITTED and changes nothing, whatever
its arguments are where the kind itself is barred (check 3 of R193), and after them where the place or the command is
(check 5).

Arguments outside their encoding (R193, check 4): a request of a role that may make it, with a record number above
3Fh, a place code its kind does not take, or a setting that does not exist, is answered BAD_ARGUMENT and changes
nothing. -/
def Obligations.RolesAndArgumentsAreChecked : Prop :=
  (∀ (s : Sys2Proof.Machine.State) (n : Node) (o i : Octet) (v : BitVec 16) (a b : Bool) (es : List LoadEntry),
    (n ≠ .panel → ∀ c ∈ [Instr.retire n o, .place n o i, .purge n, .set n o i v, .get n o i],
      exec c s = .next { s with answer := some ⟨n, [(c.request.elim 0 (·.2.kind)), 0x10]⟩ })
    ∧ ((n = .tunnel ∨ n = .drive ∨ n = .unload) →
        exec (.register n o) s = .next { s with answer := some ⟨n, [0x04, 0x10]⟩ }
        ∧ (es.length ≤ 14 → exec (.load n o a b es) s = .next { s with answer := some ⟨n, [0x05, 0x10]⟩ }))
    ∧ ((n ≠ .panel ∧ n ≠ .unload) →
        exec (.unloaded n o) s = .next { s with answer := some ⟨n, [0x06, 0x10, recNoOctet s.lanes.unl.head?]⟩ }
        ∧ exec (.rewash n o) s = .next { s with answer := some ⟨n, [0x07, 0x10, recNoOctet s.lanes.unl.head?]⟩ })
    ∧ (∀ x : Station, n = .station x → ∀ p, registerPlace o = some p → p ≠ .lp x →
        exec (.register n o) s = .next { s with answer := some ⟨n, [0x04, 0x10]⟩ })
    ∧ (n ≠ .panel → ∀ k ∈ [LineCommand.clear, .setup, .commit, .drain, .run],
        exec (k.row n) s = .next { s with answer := some ⟨n, [0x0B, 0x10]⟩ })
    ∧ ((n = .tunnel ∨ n = .drive) →
        exec (.hold n) s = .next { s with answer := some ⟨n, [0x0B, 0x10]⟩ }))
  ∧ (∀ (s : Sys2Proof.Machine.State) (n : Node) (o i : Octet) (v : BitVec 16) (a b : Bool) (es : List LoadEntry),
    (64 ≤ o.toNat →
      exec (.readRack n o) s = .next { s with answer := some ⟨n, [0x02, 0x12]⟩ }
      ∧ exec (.retire .panel o) s = .next { s with answer := some ⟨.panel, [0x08, 0x12]⟩ }
      ∧ exec (.place .panel o i) s = .next { s with answer := some ⟨.panel, [0x09, 0x12]⟩ })
    ∧ (16 ≤ o.toNat → exec (.readLane n o i) s = .next { s with answer := some ⟨n, [0x03, 0x12]⟩ })
    ∧ (4 ≤ o.toNat → o ≠ 0x0D → ∀ m ∈ [Node.panel, .station .a, .station .b, .station .c, .station .d],
        exec (.register m o) s = .next { s with answer := some ⟨m, [0x04, 0x12]⟩ })
    ∧ (64 ≤ o.toNat → es.length ≤ 14 → ∀ m ∈ [Node.panel, .station .a, .station .b, .station .c, .station .d],
        exec (.load m o a b es) s = .next { s with answer := some ⟨m, [0x05, 0x12]⟩ })
    ∧ (64 ≤ o.toNat → ∀ m ∈ [Node.panel, .unload],
        exec (.unloaded m o) s = .next { s with answer := some ⟨m, [0x06, 0x12, recNoOctet s.lanes.unl.head?]⟩ }
        ∧ exec (.rewash m o) s = .next { s with answer := some ⟨m, [0x07, 0x12, recNoOctet s.lanes.unl.head?]⟩ })
    ∧ (4 ≤ i.toNat → i ≠ 0x08 → i ≠ 0x0D →
        exec (.place .panel o i) s = .next { s with answer := some ⟨.panel, [0x09, 0x12]⟩ })
    ∧ (Param.ofCode o i = none →
        exec (.set .panel o i v) s = .next { s with answer := some ⟨.panel, [0x0C, 0x12]⟩ }
        ∧ exec (.get .panel o i) s = .next { s with answer := some ⟨.panel, [0x0D, 0x12]⟩ }))

/-! ## Requests that read -/

/-- STATUS (R195, R68, R189): the response is the common part and the extras of the sender's role, from the state as it
stood; the sender's mark is cleared, for the panel node the pending marks of the nine anomaly records too, and nothing
else changes. Of the panel node's response every octet from 18 to 47 is named. THE MODEL'S CHOICE where the rule leaves it
open: octet 6 and the stop causes of octet 19 take their bits in the order named (notes/assumptions/29.md), octets 20 and
21 stand high octet first (notes/assumptions/22.md), and the bits the rule names no content for read 0
(notes/assumptions/31.md). -/
def Obligations.StatusAnswersAndClearsMarks : Prop :=
  ∀ (s : Sys2Proof.Machine.State) (n : Node), ∃ t, exec (.status n) s = .next t
    ∧ t = { s with eyes := t.eyes, line := t.line, answer := t.answer }
    ∧ t.line =
        { s.line with nodes := s.line.nodes.set n { s.line.nodes.get n with attention := false } }
    ∧ (∀ e ∈ Eye.all, t.eyes.get e =
        if n = .panel then
          { s.eyes.get e with anomaly := { (s.eyes.get e).anomaly with pending := false } }
        else s.eyes.get e)
    ∧ t.answer = some ⟨n,
        [0x01, 0x00, octet (s.executor.loop.code + bitAt 3 s.executor.drain.isSome),
          octet (bitAt 0 s.executor.vector.stop.isSome + bitAt 1 s.executor.vector.clear.isSome
            + bitAt 2 s.executor.vector.setup.isSome + bitAt 3 s.executor.vector.commit.isSome
            + bitAt 4 s.executor.vector.hold.isSome + bitAt 5 s.executor.vector.drain.isSome
            + bitAt 6 s.executor.vector.run.isSome + bitAt 7 s.executor.loop.isBusy),
          nodeBits s.present, octet s.allocationCount,
          octet (bitAt 3 s.lanes.lp.a.isSome + bitAt 2 s.lanes.lp.b.isSome + bitAt 1 s.lanes.lp.c.isSome
            + bitAt 0 s.lanes.lp.d.isSome),
          octet s.lanes.outfeed.a.length, octet s.lanes.outfeed.b.length, octet s.lanes.outfeed.c.length,
          octet s.lanes.outfeed.d.length, octet s.lanes.spur.length, octet s.lanes.acc.length,
          octet (s.lanes.cells.countP Option.isSome), octet s.lanes.xt.length, octet s.lanes.unl.length,
          octet s.lanes.ret.length, octet s.lanes.off.length] ++ s.statusExtras n⟩
    ∧ ((n = .tunnel ∨ n = .drive) →
        s.statusExtras n = [s.executor.outcomes.stop.octet, s.executor.outcomes.hold.octet])
    ∧ (∀ x : Station, n = .station x →
        s.statusExtras n = [s.executor.outcomes.stop.octet, s.executor.outcomes.hold.octet,
          recNoOctet (s.lanes.lp.get x), (s.lanes.lp.get x).elim 0xFF s.stateOctet,
          octet (bitAt 0 (s.dispatch.deferred.get x)
            + bitAt 1 (decide (s.dispatch.grant.map (·.target) = some x)))])
    ∧ (n = .unload → ∀ m ∈ s.lanes.unl.head?, ∀ v ∈ s.record m,
        s.statusExtras n = [s.executor.outcomes.stop.octet, s.executor.outcomes.hold.octet,
          octet m.val, octet v.state.code, v.reasons.octet, octet v.rewash, octet v.load.length]
            ++ v.load.flatMap LoadEntry.octets)
    ∧ (n = .unload → s.lanes.unl = [] →
        s.statusExtras n = [s.executor.outcomes.stop.octet, s.executor.outcomes.hold.octet,
          0xFF, 0xFF, 0x00, 0x00, 0x00])
    ∧ (n = .panel →
        let h := s.executor.holdCauses
        let p := s.executor.stopCauses
        let outcome (k : LineCommand) : Octet :=
          octet (16 * issuerCode (s.executor.outcomes.get k).issuer + (s.executor.outcomes.get k).kind.code)
        (s.statusExtras n).length = 30
        ∧ (s.statusExtras n).take 12 =
            [octet (bitAt 0 (decide (∃ e ∈ Eye.all, h.jam.get e = true)) + bitAt 1 h.tunnelStall
                + bitAt 2 h.tunnelAbsent + bitAt 3 h.tunnelNotReady + bitAt 4 h.driveNotReady + bitAt 5 h.overflow
                + bitAt 6 h.entryDouble + bitAt 7 h.exitMissing),
              octet (bitAt 0 h.transitOverflow + bitAt 4 p.estop + bitAt 3 p.driveFault + bitAt 2 p.driveAbsent
                + bitAt 1 p.tableFull),
              octet (bitAt 0 h.jam.ds),
              octet (bitAt 0 h.jam.oa + bitAt 1 h.jam.ob + bitAt 2 h.jam.oc + bitAt 3 h.jam.od + bitAt 4 h.jam.sp
                + bitAt 5 h.jam.en + bitAt 6 h.jam.ex + bitAt 7 h.jam.ul),
              outcome .stop, outcome .clear, outcome .setup, outcome .commit, outcome .hold, outcome .drain,
              outcome .run,
              (match s.executor.outcomes.commit.failure with
                | some f => octet (32 * f.check.code + f.item)
                | none => 0)]
        ∧ ∀ e ∈ Eye.all, (s.statusExtras n)[12 + 2 * e.index]? =
              some (octet (bitAt 7 (s.eyes.get e).anomaly.pending + (s.eyes.get e).anomaly.kind.code))
            ∧ (s.statusExtras n)[13 + 2 * e.index]? = some (recNoOctet (s.eyes.get e).anomaly.rack))

/-- READ-RACK and READ-LANE (R196, R197): the octets of the response, for a record and for a free number, for a place
with its pairs from the start index on, 21 at most, the cells of TUN with the empty ones; nothing changes. THE MODEL'S
CHOICE (notes/assumptions/31.md): the bits of octets 8 and 14 that R196 names no content for read 0. -/
def Obligations.RackAndLaneAreReadWhole : Prop :=
  ∀ (s : Sys2Proof.Machine.State) (n : Node) (o i : Octet),
    (∀ m ∈ recNoOf o,
      (s.record m = none → exec (.readRack n o) s = .next { s with answer := some ⟨n, [0x02, 0x14]⟩ })
      ∧ ∀ v ∈ s.record m, ∀ p ∈ s.lanes.placeOf m,
        exec (.readRack n o) s = .next { s with answer := some ⟨n,
          [0x02, 0x00, octet m.val, octet v.state.code, octet p.code, octet (s.lanes.indexOf p m),
            octet (offReasonCode (s.lanes.offReasonOf m)), octet (stationCodeOf v.origin),
            octet (bitAt 0 v.bornUnknown + bitAt 1 v.fixed + bitAt 2 v.sensorFault), octet v.ceiling.val,
            octet (v.credit / 256), octet v.credit, v.rinseMin.elim 0xFF octet, octet v.rinseSamples,
            v.reasons.octet, octet v.rewash, octet v.load.length] ++ v.load.flatMap LoadEntry.octets⟩ })
    ∧ (∀ p ∈ Place.ofCode o, p ≠ .tun →
        exec (.readLane n o i) s = .next { s with answer := some ⟨n,
          [0x03, 0x00, o, octet (s.lanes.contents p).length, i,
            octet (min 21 ((s.lanes.contents p).length - i.toNat))]
            ++ (((s.lanes.contents p).drop i.toNat).take 21).flatMap fun m => [octet m.val, s.stateOctet m]⟩ })
    ∧ (o = 0x0A →
        exec (.readLane n o i) s = .next { s with answer := some ⟨n,
          [0x03, 0x00, o, octet s.lanes.cells.length, i, octet (min 21 (s.lanes.cells.length - i.toNat))]
            ++ ((s.lanes.cells.drop i.toNat).take 21).flatMap fun c =>
              match c with
              | some m => [octet m.val, s.stateOctet m]
              | none => [0xFF, 0xFF]⟩ })

/-- SET in IDLE (R201, R202): a numeric value is stored clamped to its range, an enumerated one only where it is in its
list; the working value follows only for RACK_LIMIT, UNKNOWN_CLASS and FIX_POINT; every other setting keeps both values,
and nothing else changes. Outside IDLE the request is refused WRONG_STATE.

GET (R201): the stored value, then the working value, each in two octets, in every loop state; nothing changes. -/
def Obligations.SetStoresAndGetAnswers : Prop :=
  (∀ (s : Sys2Proof.Machine.State) (o i : Octet) (v : BitVec 16) (p : Param), Param.ofCode o i = some p →
    (s.executor.loop ≠ .idle →
      exec (.set .panel o i v) s = .next { s with answer := some ⟨.panel, [0x0C, 0x13]⟩ })
    ∧ (s.executor.loop = .idle → ∃ t, exec (.set .panel o i v) s = .next t
        ∧ t = { s with stored := t.stored, single := t.single, answer := t.answer }
        ∧ (∀ q : Param, q ≠ p → t.storedValue q = s.storedValue q ∧ t.workingValue q = s.workingValue q)
        ∧ (p ≠ .rackLimit → p ≠ .unknownClass → p ≠ .fixPoint → t.workingValue p = s.workingValue p)
        ∧ ((p = .rackLimit ∨ p = .unknownClass ∨ p = .fixPoint) → t.workingValue p = t.storedValue p)
        ∧ (p ≠ .fixPoint → p ≠ .framePeriod →
            t.storedValue p = max p.range.1 (min p.range.2 v.toNat)
            ∧ t.answer = some ⟨.panel,
                [0x0C, if p.range.1 ≤ v.toNat ∧ v.toNat ≤ p.range.2 then 0x00 else 0x03,
                  octet (t.storedValue p / 256), octet (t.storedValue p)]⟩)
        ∧ ((p = .fixPoint ∨ p = .framePeriod) →
            if p.admits v.toNat then
              t.storedValue p = v.toNat ∧ t.answer = some ⟨.panel, [0x0C, 0x00, 0x00, octet v.toNat]⟩
            else t.storedValue p = s.storedValue p ∧ t.answer = some ⟨.panel, [0x0C, 0x12]⟩)))
  ∧ (∀ (s : Sys2Proof.Machine.State) (o i : Octet) (p : Param), Param.ofCode o i = some p →
    exec (.get .panel o i) s = .next { s with answer := some ⟨.panel,
      [0x0D, 0x00, octet (s.storedValue p / 256), octet (s.storedValue p),
        octet (s.workingValue p / 256), octet (s.workingValue p)]⟩ })

/-! ## Requests that change records and places -/

/-- REGISTER (R2, R5, R22, R46): with room, the lowest free slot takes a record with the values of R5 and joins the place
named, at its tail; the answer names it; no other record changes. Where RET has become non-empty the Dispatch Arbiter has
decided (R150). With the count at 64 or at RACK_LIMIT, or the place full, it is answered FULL and nothing changes. -/
def Obligations.RegisterCreatesRecord : Prop :=
  ∀ (s : Sys2Proof.Machine.State) (n : Node) (o : Octet) (p : Place), registerPlace o = some p →
    (n = .panel ∨ ∃ x, n = .station x ∧ p = .lp x) →
    (s.allocationCount < s.single.rackLimit → s.allocationCount < 64 → s.isFull p = false →
      ∃ t, exec (.register n o) s = .next t ∧ ∃ m : RecNo,
        s.record m = none ∧ (∀ k < m, s.record k ≠ none)
        ∧ t.record m = some ⟨.empty, none, false, [], 0, 0, none, 0, false, ⟨false, false, false, false, false⟩, 0, false⟩
        ∧ s.othersKept t m ∧ t.allocationCount = s.allocationCount + 1
        ∧ t.answer = some ⟨n, [0x04, 0x00, octet m.val]⟩
        ∧ (∀ x, p = .lp x → t.lanes = { s.lanes with lp := s.lanes.lp.set x (some m) })
        ∧ (p = .ret → t.lanes = { s.lanes with ret := s.lanes.ret ++ [m] })
        ∧ s.surroundingsKept t
        ∧ (s.executor.drain = none → s.executorKept t ∧ t.merge = s.merge
            ∧ (p = .ret → s.lanes.ret = [] → s.dispatchDecided t)
            ∧ (p ≠ .ret ∨ s.lanes.ret ≠ [] → t.dispatch = s.dispatch)))
    ∧ ((s.single.rackLimit ≤ s.allocationCount ∨ s.allocationCount = 64 ∨ s.isFull p = true) →
        exec (.register n o) s = .next { s with answer := some ⟨n, [0x04, 0x16]⟩ })

/-- LOAD without finish (R16, R17): with the record unfixed at a loading position, in an outfeed, in SPUR or in ACC, and
the sender allowed to load it, the list becomes the last 8 entries of what it held (nothing under replace) and the
entries given, the ceiling rises to their classes (from 0 under replace), the state follows the list at a loading
position and is kept elsewhere, every other field is kept; no other record and no place changes.

LOAD with finish (R18, R35, R45): with the drain flag clear and room in the station's outfeed, the record at the
loading position becomes LOADED with that station as its origin, leaves the position empty and joins the tails of the
outfeed and of the finish-order list. Where that list was empty the Merge Arbiter has decided (R140), and where the
station has become a claimant the Dispatch Arbiter (R149, R150). -/
def Obligations.LoadDeclaresAndFinishes : Prop :=
  (∀ (s : Sys2Proof.Machine.State) (n : Node) (m : RecNo) (replace : Bool) (es : List LoadEntry) (v : Record)
    (p : Place),
    s.record m = some v → v.fixed = false → s.lanes.placeOf m = some p →
    ((∃ x, p = .lp x) ∨ (∃ x, p = .outfeed x) ∨ p = .spur ∨ p = .acc) →
    (n = .panel ∨ ∃ x, n = .station x ∧ (p = .lp x ∨ v.origin = some x)) →
    es.length ≤ 14 → (∀ e ∈ es, e.kind ≠ 0 ∧ e.count.val ≠ 0 ∧ e.count.val ≤ 15) →
    ∃ t, exec (.load n (octet m.val) replace false es) s = .next t
      ∧ t.answer = some ⟨n, [0x05, 0x00]⟩ ∧ t.lanes = s.lanes ∧ s.othersKept t m
      ∧ ∃ w ∈ t.record m,
          w.load = (let all := (if replace then [] else v.load) ++ es; all.drop (all.length - 8))
          ∧ w.ceiling = (es.map (·.cls)).foldl max (if replace then 0 else v.ceiling)
          ∧ w = { v with load := w.load, ceiling := w.ceiling, state := w.state }
          ∧ ((∃ x, p = .lp x) → w.state = if w.load = [] then .empty else .loading)
          ∧ ((¬∃ x, p = .lp x) → w.state = v.state)
      ∧ s.surroundingsKept t ∧ (s.executor.drain = none → s.executorKept t))
  ∧ (∀ (s : Sys2Proof.Machine.State) (n : Node) (m : RecNo) (x : Station) (replace : Bool) (es : List LoadEntry)
    (v : Record),
    s.record m = some v → v.fixed = false → s.lanes.placeOf m = some (.lp x) →
    (n = .panel ∨ n = .station x ∨ ∃ y, n = .station y ∧ v.origin = some y) →
    es.length ≤ 14 → (∀ e ∈ es, e.kind ≠ 0 ∧ e.count.val ≠ 0 ∧ e.count.val ≤ 15) →
    s.executor.drain = none → (s.lanes.outfeed.get x).length < s.working.outfeedCap →
    ∃ t, exec (.load n (octet m.val) replace true es) s = .next t
      ∧ t.answer = some ⟨n, [0x05, 0x00]⟩
      ∧ t.lanes =
          { s.lanes with
            lp := s.lanes.lp.set x none
            outfeed := s.lanes.outfeed.set x (s.lanes.outfeed.get x ++ [m])
            finishOrder := s.lanes.finishOrder ++ [m] }
      ∧ s.othersKept t m
      ∧ ∃ w ∈ t.record m, w.state = .loaded ∧ w.origin = some x
          ∧ w.load = (let all := (if replace then [] else v.load) ++ es; all.drop (all.length - 8))
          ∧ w.ceiling = (es.map (·.cls)).foldl max (if replace then 0 else v.ceiling)
          ∧ w = { v with load := w.load, ceiling := w.ceiling, state := .loaded, origin := some x }
      ∧ (s.lanes.finishOrder = [] → s.mergeDecided t) ∧ (s.lanes.finishOrder ≠ [] → t.merge = s.merge)
      ∧ (s.present (.station x) = true → s.line.stationCode.get x = .want → s.dispatchDecided t)
      ∧ (s.present (.station x) = false ∨ s.line.stationCode.get x ≠ .want → t.dispatch = s.dispatch)
      ∧ s.surroundingsKept t ∧ s.executorKept t)

/-- The refusals of LOAD, in the order of R21, for a sender that may make the request: each clause supposes that the
checks before its own have passed; the answer carries its result, and nothing changes. -/
def Obligations.LoadRefusalsInOrder : Prop :=
  ∀ (s : Sys2Proof.Machine.State) (n : Node) (m : RecNo) (replace finish : Bool) (es : List LoadEntry),
    (n = .panel ∨ ∃ x, n = .station x) → es.length ≤ 14 →
    let refusedWith (code : Octet) : Prop :=
      exec (.load n (octet m.val) replace finish es) s = .next { s with answer := some ⟨n, [0x05, code]⟩ }
    ((∃ e ∈ es, e.kind = 0 ∨ e.count.val = 0 ∨ 15 < e.count.val) → refusedWith 0x12)
    ∧ ((∀ e ∈ es, e.kind ≠ 0 ∧ e.count.val ≠ 0 ∧ e.count.val ≤ 15) →
        (s.record m = none → refusedWith 0x14)
        ∧ ∀ v ∈ s.record m,
          (∀ x, n = .station x → s.lanes.placeOf m ≠ some (.lp x) → v.origin ≠ some x → refusedWith 0x10)
          ∧ ((n = .panel ∨ ∃ x, n = .station x ∧ (s.lanes.placeOf m = some (.lp x) ∨ v.origin = some x)) →
              (v.fixed = true → refusedWith 0x15)
              ∧ (v.fixed = false →
                  (s.lanes.placeOf m ∈ [some Place.tun, some .xt, some .unl, some .ret, some .off] →
                    refusedWith 0x13)
                  ∧ (finish = true →
                      (s.lanes.placeOf m = some .spur ∨ s.lanes.placeOf m = some .acc
                        ∨ ∃ x, s.lanes.placeOf m = some (.outfeed x)) → refusedWith 0x13)
                  ∧ (finish = true → ∀ x, s.lanes.placeOf m = some (.lp x) →
                      (s.executor.drain ≠ none → refusedWith 0x18)
                      ∧ (s.executor.drain = none →
                          s.working.outfeedCap ≤ (s.lanes.outfeed.get x).length → refusedWith 0x16)))))

/-- RETIRE (R3, R47): the slot is freed, the record leaves every list that held it with the others closing up in order,
a tunnel cell or a loading position becomes empty; a release naming it is withdrawn, and so are a merge grant whose source
head it was and the dispatch grant whose RET head it was, and their arbiters have decided again (R146, R156), as they have
without a grant where ACC has fallen, the head of the finish-order list has gone or a station has become a claimant (R140,
R150); a record that becomes the head of UNL is seen there (R124, R125). A free number is answered NOT_FOUND. -/
def Obligations.RetireFreesRecord : Prop :=
  ∀ (s : Sys2Proof.Machine.State) (m : RecNo),
    (s.record m = none →
      exec (.retire .panel (octet m.val)) s = .next { s with answer := some ⟨.panel, [0x08, 0x14]⟩ })
    ∧ (s.record m ≠ none → ∃ t, exec (.retire .panel (octet m.val)) s = .next t
        ∧ t.answer = some ⟨.panel, [0x08, 0x00]⟩
        ∧ t.record m = none ∧ t.allocationCount + 1 = s.allocationCount
        ∧ (∀ p ∈ Place.holding ++ [.finishOrder],
            t.lanes.contents p = (s.lanes.contents p).filter fun k => decide (k ≠ m))
        ∧ t.lanes.cells = s.lanes.cells.map (fun c => if c = some m then none else c)
        ∧ t.lanes.xt = s.lanes.xt.filter (fun x => decide (x.rack ≠ m))
        ∧ t.lanes.off = s.lanes.off.filter (fun x => decide (x.rack ≠ m))
        ∧ (∀ k, k ≠ m → t.record k = s.seenAtHead t.lanes s.record k)
        ∧ (∀ d, t.unload.release ≠ some ⟨m, d⟩)
        ∧ (s.inRun = false →
            t.merge = (if ∃ g ∈ s.merge, s.lanes.sourceHeadOf g.source = some m then none else s.merge)
            ∧ t.dispatch.grant = (if s.lanes.ret.head? = some m then none else s.dispatch.grant))
        ∧ (s.executor.drain = none →
            (∀ g ∈ s.merge, s.lanes.sourceHeadOf g.source ≠ some m → t.merge = s.merge)
            ∧ (∀ g ∈ s.merge, s.lanes.sourceHeadOf g.source = some m →
                t.mergeFresh ∧ exec .mergeGrantOpen t = .next t)
            ∧ (m ∈ s.lanes.acc ∨ s.lanes.finishOrder.head? = some m → s.merge = none →
                t.mergeFresh ∧ exec .mergeGrantOpen t = .next t)
            ∧ (∀ x, s.lanes.lp.get x = some m → s.present (.station x) = true → s.line.stationCode.get x = .want →
                s.dispatch.grant = none → s.dispatchDecided t)
            ∧ (∀ g ∈ s.dispatch.grant, s.lanes.ret.head? ≠ some m → t.dispatch = s.dispatch)
            ∧ (∀ g ∈ s.dispatch.grant, s.lanes.ret.head? = some m →
                exec .dispatchGrantOpen t = .next t
                ∧ (t.dispatch.grant = none → t.dispatch = { s.dispatch with grant := none })
                ∧ ∀ f ∈ t.dispatch.grant, t.inRun = true ∧ f.window = .timing s.working.dispatchWindow
                    ∧ t.dispatch.deferred.get f.target = true ∧ t.dispatch.lastTarget = some f.target))
        ∧ s.surroundingsKept t ∧ (s.executor.drain = none → s.executorKept t))

/-- PLACE (R11, R24, R48): a record on OFF leaves it and joins the target, which has room, at its tail, treated by the
column of R11 for that target; no other record changes. Where SPUR or RET has become non-empty its arbiter has decided
(R140, R150). A free number is answered NOT_FOUND, a record not on OFF WRONG_STATE, a full target FULL. -/
def Obligations.PlaceReturnsRecord : Prop :=
  ∀ (s : Sys2Proof.Machine.State) (m : RecNo) (o : Octet) (p : Place), placeTarget o = some p →
    let refusedWith (code : Octet) : Prop :=
      exec (.place .panel (octet m.val) o) s = .next { s with answer := some ⟨.panel, [0x09, code]⟩ }
    (s.record m = none → refusedWith 0x14)
    ∧ ∀ v ∈ s.record m,
      ((∀ x ∈ s.lanes.off, x.rack ≠ m) → refusedWith 0x13)
      ∧ ((∃ x ∈ s.lanes.off, x.rack = m) → s.isFull p = true → refusedWith 0x16)
      ∧ ((∃ x ∈ s.lanes.off, x.rack = m) → s.isFull p = false →
          ∃ t, exec (.place .panel (octet m.val) o) s = .next t
            ∧ t.answer = some ⟨.panel, [0x09, 0x00]⟩ ∧ s.othersKept t m
            ∧ (∀ x, p = .lp x →
                t.lanes = { s.lanes with
                  off := s.lanes.off.filter fun y => decide (y.rack ≠ m)
                  lp := s.lanes.lp.set x (some m) }
                ∧ t.record m = some { v with
                    state := if v.load = [] then .empty else .loading, origin := none, credit := 0, rinseMin := none
                    rinseSamples := 0, sensorFault := false, reasons := Reasons.none, fixed := false })
            ∧ (p = .spur →
                t.lanes = { s.lanes with
                  off := s.lanes.off.filter fun y => decide (y.rack ≠ m)
                  spur := s.lanes.spur ++ [m] }
                ∧ t.record m = some { v with
                    state := .loaded, credit := 0, rinseMin := none, rinseSamples := 0, sensorFault := false
                    reasons := Reasons.none, fixed := false })
            ∧ (p = .ret →
                t.lanes = { s.lanes with
                  off := s.lanes.off.filter fun y => decide (y.rack ≠ m)
                  ret := s.lanes.ret ++ [m] }
                ∧ t.record m = some
                    ⟨.empty, none, false, [], 0, 0, none, 0, false, Reasons.none, 0, false⟩)
            ∧ s.surroundingsKept t
            ∧ (s.executor.drain = none → s.executorKept t
                ∧ (p = .spur → s.lanes.spur = [] → s.mergeDecided t)
                ∧ (p ≠ .spur ∨ s.lanes.spur ≠ [] → t.merge = s.merge)
                ∧ (p = .ret → s.lanes.ret = [] → s.dispatchDecided t)
                ∧ (p ≠ .ret ∨ s.lanes.ret ≠ [] → t.dispatch = s.dispatch)))

/-- PURGE (R49, R198): in IDLE every slot is freed, every place and the finish-order list emptied, every permission
withdrawn, and the rest left as it was, the anomaly records, the cause sets and the outcome records among it. Outside
IDLE it is refused WRONG_STATE, from another node NOT_PERMITTED. -/
def Obligations.PurgeEmptiesTheLoop : Prop :=
  ∀ s : Sys2Proof.Machine.State,
    (∀ n, n ≠ .panel → exec (.purge n) s = .next { s with answer := some ⟨n, [0x0A, 0x10]⟩ })
    ∧ (s.executor.loop ≠ .idle →
      exec (.purge .panel) s = .next { s with answer := some ⟨.panel, [0x0A, 0x13]⟩ })
    ∧ (s.executor.loop = .idle → ∃ t, exec (.purge .panel) s = .next t
        ∧ t.answer = some ⟨.panel, [0x0A, 0x00]⟩
        ∧ (∀ n, t.record n = none) ∧ t.allocationCount = 0
        ∧ (∀ p ∈ Place.holding ++ [.finishOrder], t.lanes.contents p = [])
        ∧ t.lanes.cells.length = s.lanes.cells.length ∧ t.permissionsWithdrawn
        ∧ t.unload.diverter = s.unload.diverter ∧ t.dispatch = { s.dispatch with grant := none }
        ∧ t.eyes = s.eyes ∧ t.line = s.line ∧ t.executor = s.executor ∧ t.draws = s.draws
        ∧ s.inputsKept t ∧ s.settingsKept t)

/-! ## Requests at the clean end -/

/-- UNLOADED (R11, R23, R130): a CLEAN head with a load list becomes EMPTY with every field of the first column of R11
and stays the head; the diverter stands at RETURN and the release toward RET is decided at once. Otherwise the refusals
of R130 in order, the head shown, and nothing changed.

REWASH (R23, R128, R132): a CLEAN head becomes SHORT with the one reason FORCED, a REJECTED head, from the panel node,
SHORT with FORCED added; the diverter turns to SPUR, a release toward RET is withdrawn and the release toward SPUR is
decided at once. Otherwise the refusals of R132 in order, the head shown, and nothing changed. -/
def Obligations.HeadOfUnloadRequests : Prop :=
  (∀ (s : Sys2Proof.Machine.State) (n : Node) (m : RecNo), (n = .panel ∨ n = .unload) →
    let refusedWith (code : Octet) : Prop :=
      exec (.unloaded n (octet m.val)) s =
        .next { s with answer := some ⟨n, [0x06, code, recNoOctet s.lanes.unl.head?]⟩ }
    (s.lanes.unl.head? ≠ some m → refusedWith 0x14)
    ∧ (s.lanes.unl.head? = some m → ∀ v ∈ s.record m,
        ((v.state = .short ∨ v.state = .rejected) → refusedWith 0x17)
        ∧ ((v.state = .empty ∨ (v.state = .clean ∧ v.load = [])) → refusedWith 0x13)
        ∧ (v.state = .clean → v.load ≠ [] → ∃ t, exec (.unloaded n (octet m.val)) s = .next t
            ∧ t.answer = some ⟨n, [0x06, 0x00, octet m.val]⟩
            ∧ t.record m = some ⟨.empty, none, false, [], 0, 0, none, 0, false, Reasons.none, 0, false⟩
            ∧ s.othersKept t m ∧ t.lanes = s.lanes ∧ t.unload.diverter = .toReturn
            ∧ (s.executor.drain = none →
                t.unload.release =
                  (if s.inRun = true ∧ s.isBlocked .ul = false ∧ s.lanes.ret.length < s.working.returnCap then
                    some ⟨m, .toReturn⟩ else none)
                ∧ s.executorKept t)
            ∧ s.surroundingsKept t)))
  ∧ (∀ (s : Sys2Proof.Machine.State) (n : Node) (m : RecNo), (n = .panel ∨ n = .unload) →
    let refusedWith (code : Octet) : Prop :=
      exec (.rewash n (octet m.val)) s =
        .next { s with answer := some ⟨n, [0x07, code, recNoOctet s.lanes.unl.head?]⟩ }
    (s.lanes.unl.head? ≠ some m → refusedWith 0x14)
    ∧ (s.lanes.unl.head? = some m → ∀ v ∈ s.record m,
        (v.state = .rejected → n = .unload → refusedWith 0x10)
        ∧ ((v.state = .empty ∨ v.state = .short) → refusedWith 0x13)
        ∧ ((v.state = .clean ∨ (v.state = .rejected ∧ n = .panel)) →
            ∃ t, exec (.rewash n (octet m.val)) s = .next t
            ∧ t.answer = some ⟨n, [0x07, 0x00, octet m.val]⟩
            ∧ t.record m = some { v with
                state := .short
                reasons :=
                  if v.state = .clean then ⟨false, false, false, false, true⟩ else { v.reasons with forced := true } }
            ∧ s.othersKept t m ∧ t.lanes = s.lanes ∧ t.unload.diverter = .toSpur
            ∧ (s.executor.drain = none →
                t.unload.release =
                  (if s.inRun = true ∧ s.isBlocked .ul = false ∧ s.lanes.spur.length < s.working.spurCap then
                    some ⟨m, .toSpur⟩ else none)
                ∧ s.executorKept t)
            ∧ s.surroundingsKept t)))

/-! ## Line commands -/

/-- A COMMAND request that is not taken at its arrival (R161, R163): where the command's bit is set already, the answer is
ALREADY_PENDING and nothing changes; in STARTING and HOLDING, with no STOP and no HOLD waiting, every command but those
two is answered PENDING and its bit set with the sender as issuer beside the bits already set, and nothing else changes. -/
def Obligations.CommandsPendOrAreAlreadyPending : Prop :=
  ∀ (s : Sys2Proof.Machine.State) (n : Node) (k : LineCommand),
    (n = .panel ∨ k = .stop ∨ (k = .hold ∧ n ≠ .tunnel ∧ n ≠ .drive)) →
    (∀ i ∈ s.executor.vector.get k, exec (k.row n) s = .next { s with answer := some ⟨n, [0x0B, 0x02]⟩ })
    ∧ (s.executor.vector.get k = none → s.executor.vector.stop = none → s.executor.vector.hold = none →
        k ≠ .stop → k ≠ .hold → s.executor.loop.isBusy = true →
        exec (k.row n) s = .next { s with
          answer := some ⟨n, [0x0B, 0x01]⟩
          executor := { s.executor with vector := s.executor.vector.set k (some (.node n)) } })

/-- STOP (R164, R165, R166), from any node, with no command pending: STOPPED from every state but IDLE, DONE, the drain
flag cleared, an IN_PROGRESS DRAIN, the RUN of STARTING and the HOLD of HOLDING cancelled, every permission withdrawn on
leaving RUN; the sender's mark is raised where it is present, the cause sets stay, and no record or place changes.

STOP cancels the pending HOLD, DRAIN, RUN and COMMIT (R160, R163): their bits are cleared and their outcomes read
CANCELLED. -/
def Obligations.StopInEveryState : Prop :=
  (∀ (s : Sys2Proof.Machine.State) (n : Node), s.nonePending →
    ∃ t, exec (.stop n) s = .next t
      ∧ t.answer = some ⟨n, [0x0B, 0x01]⟩ ∧ s.stopTaken t (.node n) ∧ s.causesKept t ∧ s.permissionsLeft t
      ∧ (s.present n = true → t.attention n = true)
      ∧ s.racksKept t ∧ s.surroundingsKept t ∧ t.draws = s.draws)
  ∧ (∀ (s : Sys2Proof.Machine.State) (n : Node),
    s.executor.vector.stop = none → s.executor.vector.clear = none → s.executor.vector.setup = none →
    ∃ t, exec (.stop n) s = .next t ∧ t.nonePending ∧ t.executor.loop = s.loopAfterStop
      ∧ t.executor.outcomes.stop = ⟨.done, some (.node n), none⟩
      ∧ (∀ k ∈ [LineCommand.hold, .drain, .run, .commit], ∀ i ∈ s.executor.vector.get k,
          (t.executor.outcomes.get k).kind = .cancelled)
      ∧ (∀ i ∈ s.executor.vector.commit, t.executor.outcomes.commit = ⟨.cancelled, some i, none⟩)
      ∧ s.racksKept t ∧ s.surroundingsKept t)

/-- CLEAR and SETUP (R158, R165, R172), with no command pending. CLEAR in STOPPED with ESTOP released and the drive node
present with a code other than FAULT and ESTOP enters READY, empties the stop-cause set, DONE; else BLOCKED in STOPPED.
SETUP in READY enters IDLE, clears the drain flag with an IN_PROGRESS DRAIN cancelled, and returns every station to
NORMAL, DONE. In the other resting states either is ILLEGAL and changes nothing but its outcome. -/
def Obligations.ClearAndSetupByState : Prop :=
  ∀ s : Sys2Proof.Machine.State, s.nonePending → s.executor.loop.isBusy = false →
    (∃ t, exec (.clear .panel) s = .next t
          ∧ t.answer = some ⟨.panel, [0x0B, 0x01]⟩
          ∧ s.racksKept t ∧ s.surroundingsKept t ∧ s.permissionsKept t ∧ t.draws = s.draws
          ∧ (s.present .panel = true → t.attention .panel = true)
          ∧ t.executor =
            (if s.executor.loop = .stopped then
              if s.estop.active = false ∧ s.present .drive = true ∧ s.line.driveCode ≠ .fault
                  ∧ s.line.driveCode ≠ .estop then
                { s.executor with
                  loop := .ready
                  stopCauses := StopCauses.none
                  outcomes := s.executor.outcomes.set .clear ⟨.done, some (.node .panel), none⟩ }
              else
                { s.executor with
                  outcomes := s.executor.outcomes.set .clear ⟨.blocked, some (.node .panel), none⟩ }
            else
              { s.executor with
                outcomes := s.executor.outcomes.set .clear ⟨.illegal, some (.node .panel), none⟩ }))
    ∧ (∃ t, exec (.setup .panel) s = .next t
          ∧ t.answer = some ⟨.panel, [0x0B, 0x01]⟩
          ∧ s.racksKept t ∧ s.surroundingsKept t ∧ t.tunnel = s.tunnel ∧ t.unload = s.unload ∧ t.merge = s.merge
          ∧ t.draws = s.draws ∧ (s.present .panel = true → t.attention .panel = true)
          ∧ (s.executor.loop ≠ .ready → t.dispatch = s.dispatch
              ∧ t.executor = { s.executor with
                  outcomes := s.executor.outcomes.set .setup ⟨.illegal, some (.node .panel), none⟩ })
          ∧ (s.executor.loop = .ready →
              t.dispatch = { s.dispatch with deferred := ⟨false, false, false, false⟩ }
              ∧ t.executor.loop = .idle ∧ t.executor.drain = none ∧ t.nonePending ∧ s.causesKept t
              ∧ t.executor.outcomes.setup = ⟨.done, some (.node .panel), none⟩
              ∧ s.outcomesKept t [.setup, .drain]
              ∧ (∀ i, s.executor.outcomes.drain.kind = .inProgress → s.executor.outcomes.drain.issuer = some i →
                  t.executor.outcomes.drain = ⟨.cancelled, some i, none⟩)
              ∧ (s.executor.outcomes.drain.kind ≠ .inProgress →
                  t.executor.outcomes.drain = s.executor.outcomes.drain)
              ∧ t.executor.heatTimer = s.executor.heatTimer ∧ t.executor.settleTimer = s.executor.settleTimer))

/-- COMMIT in IDLE with every check passed (R96, R173, R174): every stored value becomes the working one, the tunnel has
its new number of cells with every record where it stood, the loop enters READY with no permit, DONE; the pitch counter,
the exit windows and the credit timer keep what they hold. In another resting state COMMIT is ILLEGAL and changes nothing
but its outcome.

COMMIT in IDLE with a check that fails (R173): the outcome is INVALID_CONFIG with the first check that fails, in the
order of R173, and its item; the loop stays in IDLE, every working value and every record as it was. -/
def Obligations.CommitChecksAndApplies : Prop :=
  (∀ s : Sys2Proof.Machine.State, s.nonePending →
    (s.executor.loop = .idle → s.commitPasses → ∃ t, exec (.commit .panel) s = .next t
      ∧ t.answer = some ⟨.panel, [0x0B, 0x01]⟩
      ∧ t.working = s.stored ∧ t.stored = s.stored ∧ t.single = s.single
      ∧ t.lanes = { s.lanes with cells := t.lanes.cells } ∧ t.lanes.cells.length = s.stored.tunnelCells
      ∧ (∀ i < 256, t.lanes.cells[i]?.join = s.lanes.cells[i]?.join) ∧ t.slots = s.slots
      ∧ t.executor = { s.executor with
          loop := .ready
          outcomes := s.executor.outcomes.set .commit ⟨.done, some (.node .panel), none⟩ }
      ∧ t.tunnel = { s.tunnel with permit := false, stall := none }
      ∧ t.unload = s.unload ∧ t.merge = s.merge ∧ t.dispatch = s.dispatch
      ∧ s.inputsKept t ∧ s.lineKept t ∧ t.draws = s.draws
      ∧ (s.present .panel = true → t.attention .panel = true))
    ∧ ((s.executor.loop = .ready ∨ s.executor.loop = .run ∨ s.executor.loop = .hold ∨ s.executor.loop = .stopped) →
        ∃ t, exec (.commit .panel) s = .next t
          ∧ t.executor = { s.executor with
              outcomes := s.executor.outcomes.set .commit ⟨.illegal, some (.node .panel), none⟩ }
          ∧ s.racksKept t ∧ s.surroundingsKept t ∧ s.permissionsKept t ∧ t.draws = s.draws))
  ∧ (∀ s : Sys2Proof.Machine.State, s.nonePending → s.executor.loop = .idle →
    let failsWith (check : CommitCheck) (item : Nat) : Prop :=
      ∃ t, exec (.commit .panel) s = .next t
        ∧ t.executor = { s.executor with
            outcomes := s.executor.outcomes.set .commit
              ⟨.invalidConfig, some (.node .panel), some ⟨check, item⟩⟩ }
        ∧ s.racksKept t ∧ s.surroundingsKept t ∧ s.permissionsKept t
    let layout : Prop :=
      s.stored.zoneLen.z0 + s.stored.zoneLen.z1 + s.stored.zoneLen.z2 + s.stored.zoneLen.z3 + s.stored.zoneLen.z4
        = s.stored.tunnelCells ∧ s.stored.zoneLen.z3 ≠ 0
    let order (e : Eye) : Prop :=
      s.stored.rackMin.get e < s.stored.rackMax.get e ∧ s.stored.rackMax.get e < s.stored.jamLimit.get e
    let fills : List (Nat × Nat) :=
      [(s.lanes.outfeed.a.length, s.stored.outfeedCap), (s.lanes.outfeed.b.length, s.stored.outfeedCap),
        (s.lanes.outfeed.c.length, s.stored.outfeedCap), (s.lanes.outfeed.d.length, s.stored.outfeedCap),
        (s.lanes.spur.length, s.stored.spurCap), (s.lanes.acc.length, s.stored.accumCap),
        (s.lanes.unl.length, s.stored.unloadCap), (s.lanes.ret.length, s.stored.returnCap)]
    let holds (i : Nat) : Prop := s.stored.tunnelCells ≤ i ∧ s.lanes.cells[i]?.join ≠ none
    (¬layout → failsWith .zoneLayout 0)
    ∧ (layout →
        (∀ e ∈ Eye.all, ¬order e → (∀ d ∈ Eye.all, d.index < e.index → order d) → failsWith .eyeOrder e.index)
        ∧ ((∀ e ∈ Eye.all, order e) →
            (∀ k < 8, (∃ p ∈ fills[k]?, p.2 < p.1) → (∀ p ∈ fills.take k, p.1 ≤ p.2) → failsWith .laneFill k)
            ∧ ((∀ p ∈ fills, p.1 ≤ p.2) →
                (∀ i < s.lanes.cells.length, holds i → (∀ j < i, ¬holds j) → failsWith .cellRange i)
                ∧ ((∀ i < s.lanes.cells.length, ¬holds i) → s.single.rackLimit < s.allocationCount →
                    failsWith .rackCount 0)))))

/-- HOLD (R165, R166, R168), with no command pending and no drain. In RUN with the drive RUNNING: HOLDING with the settle
timer started, IN_PROGRESS; with another drive code it ends at once in HOLD, DONE. In STARTING: HOLD, DONE, the RUN
cancelled. In HOLDING and HOLD: DONE. In IDLE, READY and STOPPED: ILLEGAL. Leaving RUN withdraws every permission.

HOLD cancels a pending RUN (R160, R163, R176 last row), with no HOLD or STOP pending. In HOLDING it is taken while busy:
its outcome reads DONE, a pending RUN is cleared and written CANCELLED with its own issuer, and every other pending
command stays pending. In STARTING with no other command pending, the pending RUN is cleared, HOLD is entered, and the RUN
outcome reads CANCELLED with the issuer of the RUN that began STARTING. -/
def Obligations.HoldInEveryState : Prop :=
  (∀ (s : Sys2Proof.Machine.State) (n : Node), (n ≠ .tunnel ∧ n ≠ .drive) → s.nonePending →
    s.executor.drain = none →
    ∃ t, exec (.hold n) s = .next t
      ∧ t.answer = some ⟨n, [0x0B, 0x01]⟩ ∧ s.holdTaken t (.node n)
      ∧ t.executor.holdCauses = s.executor.holdCauses ∧ s.permissionsLeft t
      ∧ (s.present n = true → t.attention n = true)
      ∧ s.racksKept t ∧ s.surroundingsKept t ∧ t.draws = s.draws)
  ∧ (∀ (s : Sys2Proof.Machine.State) (n : Node) (i : Issuer), (n ≠ .tunnel ∧ n ≠ .drive) →
    s.executor.vector.hold = none → s.executor.vector.stop = none →
    (s.executor.loop = .holding i → ∃ t, exec (.hold n) s = .next t
      ∧ t.answer = some ⟨n, [0x0B, 0x01]⟩
      ∧ t.executor = { s.executor with
          vector := { s.executor.vector with run := none }
          outcomes := { s.executor.outcomes with
            hold := ⟨.done, some (.node n), none⟩
            run := s.executor.vector.run.elim s.executor.outcomes.run fun j => ⟨.cancelled, some j, none⟩ } }
      ∧ s.racksKept t ∧ s.surroundingsKept t ∧ s.permissionsKept t ∧ t.draws = s.draws)
    ∧ (∀ o, s.executor.loop = .starting o i → s.executor.drain = none →
        s.executor.vector = { PerCommand.const none with run := s.executor.vector.run } →
        ∃ t, exec (.hold n) s = .next t
          ∧ t.answer = some ⟨n, [0x0B, 0x01]⟩
          ∧ t.executor = { s.executor with
              loop := .hold
              heatTimer := none
              vector := PerCommand.const none
              outcomes := { s.executor.outcomes with
                hold := ⟨.done, some (.node n), none⟩
                run := ⟨.cancelled, some i, none⟩ } }
          ∧ s.racksKept t ∧ s.surroundingsKept t ∧ s.permissionsKept t))

/-- DRAIN (R175), with no command pending. In READY, RUN and HOLD: where the drain is complete the flag is cleared and
the loop is READY, DONE, with every permission withdrawn on leaving RUN; else the flag is set and the outcome
IN_PROGRESS. In IDLE and STOPPED: ILLEGAL. -/
def Obligations.DrainInEveryState : Prop :=
  ∀ s : Sys2Proof.Machine.State, s.nonePending → s.executor.loop.isBusy = false →
    ∃ t, exec (.drain .panel) s = .next t
      ∧ t.answer = some ⟨.panel, [0x0B, 0x01]⟩
      ∧ s.racksKept t ∧ s.surroundingsKept t ∧ t.draws = s.draws
      ∧ (s.present .panel = true → t.attention .panel = true)
      ∧ ((s.executor.loop = .idle ∨ s.executor.loop = .stopped) → s.permissionsKept t
          ∧ t.executor = { s.executor with
              outcomes := s.executor.outcomes.set .drain ⟨.illegal, some (.node .panel), none⟩ })
      ∧ ((s.executor.loop = .ready ∨ s.executor.loop = .run ∨ s.executor.loop = .hold) →
          (s.drained → s.permissionsLeft t ∧ t.executor = { s.executor with
              loop := .ready
              drain := none
              outcomes := s.executor.outcomes.set .drain ⟨.done, some (.node .panel), none⟩ })
          ∧ (¬s.drained → s.permissionsKept t ∧ t.executor = { s.executor with
              drain := some (.node .panel)
              outcomes := s.executor.outcomes.set .drain ⟨.inProgress, some (.node .panel), none⟩ }))

/-- RUN (R165, R167, R171), with no command pending and no drain. In READY and HOLD: BLOCKED while a trackpoint is JAMMED
or ESTOP is active, the hold causes kept; else STARTING with that state as its origin, the heat timer started, the hold
causes emptied, IN_PROGRESS, and RUN at once where its condition holds. In RUN: DONE. In IDLE and STOPPED: ILLEGAL. -/
def Obligations.RunInEveryState : Prop :=
  ∀ s : Sys2Proof.Machine.State, s.nonePending → s.executor.loop.isBusy = false → s.executor.drain = none →
    let barred : Prop := (∃ e ∈ Eye.all, ∃ b ∈ (s.eyes.get e).blockage, b.jamDeclared = true) ∨ s.estop.active = true
    let written (t : Sys2Proof.Machine.State) (kind : OutcomeKind) : Prop :=
      s.permissionsKept t ∧ t.executor = { s.executor with
        outcomes := s.executor.outcomes.set .run ⟨kind, some (.node .panel), none⟩ }
    let begins (t : Sys2Proof.Machine.State) (o : Origin) : Prop :=
      (barred → written t .blocked)
      ∧ (¬barred → t.executor.holdCauses = HoldCauses.none
          ∧ (s.mayRun → s.runEntered t (.node .panel))
          ∧ (¬s.mayRun → s.permissionsKept t ∧ t.executor = { s.executor with
              loop := .starting o (.node .panel)
              heatTimer := some (1000 * s.working.heatTimeout)
              holdCauses := HoldCauses.none
              outcomes := s.executor.outcomes.set .run ⟨.inProgress, some (.node .panel), none⟩ }))
    ∃ t, exec (.run .panel) s = .next t
      ∧ t.answer = some ⟨.panel, [0x0B, 0x01]⟩ ∧ s.racksKept t ∧ s.surroundingsKept t ∧ t.draws = s.draws
      ∧ (s.present .panel = true → t.attention .panel = true)
      ∧ (s.executor.loop = .ready → begins t .ready) ∧ (s.executor.loop = .hold → begins t .hold)
      ∧ (s.executor.loop = .run → written t .done)
      ∧ ((s.executor.loop = .idle ∨ s.executor.loop = .stopped) → written t .illegal)

/-! ## The executor's own events -/

/-- The busy states end (R167, R168), with no command pending and no drain. STARTING_COMPLETE with its condition: RUN.
HEAT_TIMER_EXPIRY: the origin again, RUN written FAILED. HOLDING_END with a drive code other than RUNNING, and
SETTLE_TIMER_EXPIRY: HOLD, the HOLD written DONE with the issuer of the HOLD that began HOLDING, the settle timer
stopped.

The commands left pending are taken as a busy state ends, in the order of their priorities (R160, R163, R165). HOLDING
ends in HOLD: CLEAR, SETUP and COMMIT are ILLEGAL; SETUP, taken before them, cancels DRAIN and RUN; else DRAIN sets the
flag or completes in READY, and then RUN is taken in the state that leaves. STARTING from READY ends by its heat timer with
SETUP pending: SETUP is taken in READY and cancels DRAIN and RUN, and then COMMIT is taken in IDLE. -/
def Obligations.BusyStatesEnd : Prop :=
  (∀ s : Sys2Proof.Machine.State, s.nonePending → s.executor.drain = none →
    (∀ o i, s.executor.loop = .starting o i →
      (s.mayRun → ∃ t, exec .startingComplete s = .next t ∧ s.runEntered t i ∧ s.racksKept t ∧ s.surroundingsKept t
        ∧ t.executor.holdCauses = s.executor.holdCauses)
      ∧ (s.executor.heatTimer ≠ none → ∃ t, exec .heatTimerExpiry s = .next t
          ∧ t.executor = { s.executor with
              loop := (match o with
                | .ready => .ready
                | .hold => .hold)
              heatTimer := none
              outcomes := s.executor.outcomes.set .run ⟨.failed, some i, none⟩ }
          ∧ s.racksKept t ∧ s.surroundingsKept t ∧ s.permissionsKept t
          ∧ (s.present i.markOf = true → t.attention i.markOf = true)))
    ∧ (∀ i, s.executor.loop = .holding i →
        let held (t : Sys2Proof.Machine.State) : Prop :=
          t.executor = { s.executor with
            loop := .hold
            settleTimer := none
            outcomes := s.executor.outcomes.set .hold ⟨.done, some i, none⟩ }
          ∧ s.racksKept t ∧ s.surroundingsKept t ∧ s.permissionsKept t
          ∧ (s.present i.markOf = true → t.attention i.markOf = true)
        (s.line.driveCode ≠ .running → ∃ t, exec .holdingEnd s = .next t ∧ held t)
        ∧ (s.executor.settleTimer ≠ none → ∃ t, exec .settleTimerExpiry s = .next t ∧ held t)))
  ∧ (∀ (s : Sys2Proof.Machine.State) (i : Issuer), s.executor.loop = .holding i → s.executor.settleTimer ≠ none →
    s.executor.drain = none → s.executor.vector.stop = none → s.executor.vector.hold = none →
    let v := s.executor.vector
    let barred : Prop := (∃ e ∈ Eye.all, ∃ b ∈ (s.eyes.get e).blockage, b.jamDeclared = true) ∨ s.estop.active = true
    let ended : LoopState := if v.drain ≠ none ∧ s.drained then .ready else .hold
    ∃ t, exec .settleTimerExpiry s = .next t ∧ t.nonePending ∧ s.racksKept t
      ∧ t.executor.settleTimer = none ∧ t.executor.outcomes.hold = ⟨.done, some i, none⟩
      ∧ (∀ j ∈ v.clear, t.executor.outcomes.clear = ⟨.illegal, some j, none⟩)
      ∧ (∀ j ∈ v.setup, t.executor.outcomes.setup = ⟨.illegal, some j, none⟩ ∧ t.executor.loop = .hold
          ∧ t.executor.drain = none
          ∧ (∀ k ∈ v.drain, t.executor.outcomes.drain = ⟨.cancelled, some k, none⟩)
          ∧ (∀ k ∈ v.run, t.executor.outcomes.run = ⟨.cancelled, some k, none⟩))
      ∧ (∀ j ∈ v.commit, t.executor.outcomes.commit = ⟨.illegal, some j, none⟩)
      ∧ (v.setup = none →
          (∀ j ∈ v.drain, (s.drained → t.executor.outcomes.drain = ⟨.done, some j, none⟩ ∧ t.executor.drain = none)
            ∧ (¬s.drained →
                t.executor.outcomes.drain = ⟨.inProgress, some j, none⟩ ∧ t.executor.drain = some j))
          ∧ (v.run = none → t.executor.loop = ended)
          ∧ (∀ j ∈ v.run,
              (barred → t.executor.outcomes.run = ⟨.blocked, some j, none⟩ ∧ t.executor.loop = ended)
              ∧ (¬barred → s.mayRun →
                  t.executor.outcomes.run = ⟨.done, some j, none⟩ ∧ t.executor.loop = .run)
              ∧ (¬barred → ¬s.mayRun → t.executor.outcomes.run = ⟨.inProgress, some j, none⟩
                  ∧ t.executor.loop = .starting (if ended = .ready then .ready else .hold) j
                  ∧ t.executor.heatTimer = some (1000 * s.working.heatTimeout)))))
  ∧ (∀ (s : Sys2Proof.Machine.State) (i j : Issuer), s.executor.loop = .starting .ready i →
    s.executor.heatTimer ≠ none → s.executor.drain = none → s.executor.vector.stop = none →
    s.executor.vector.hold = none → s.executor.vector.setup = some j →
    let v := s.executor.vector
    ∃ t, exec .heatTimerExpiry s = .next t ∧ t.nonePending ∧ t.slots = s.slots
      ∧ t.executor.heatTimer = none ∧ t.executor.outcomes.setup = ⟨.done, some j, none⟩
      ∧ t.dispatch.deferred = ⟨false, false, false, false⟩
      ∧ (∀ k ∈ v.clear, t.executor.outcomes.clear = ⟨.illegal, some k, none⟩)
      ∧ (∀ k ∈ v.drain, t.executor.outcomes.drain = ⟨.cancelled, some k, none⟩)
      ∧ t.executor.outcomes.run = v.run.elim ⟨.failed, some i, none⟩ (fun k => ⟨.cancelled, some k, none⟩)
      ∧ (v.commit = none → t.executor.loop = .idle ∧ t.working = s.working)
      ∧ (∀ k ∈ v.commit,
          (s.commitPasses → t.executor.loop = .ready ∧ t.working = s.stored
            ∧ t.executor.outcomes.commit = ⟨.done, some k, none⟩)
          ∧ (¬s.commitPasses → t.executor.loop = .idle ∧ t.working = s.working
            ∧ t.executor.outcomes.commit.kind = .invalidConfig ∧ t.executor.outcomes.commit.issuer = some k)))

/-- DRAIN_COMPLETE (R166, R175): in RUN and HOLD with the flag set, no LOADED, IN_WASH or SHORT record and XT empty, the
flag is cleared, the loop enters READY, DRAIN is written DONE with the issuer of the latest DRAIN, and leaving RUN
withdraws every permission. In another state, or with the drain still to complete, nothing changes.

Drain completion and an internal HOLD at one event (R87, R176), in either order. The last record of XT, and the last
that holds the drain open but for its CLEAN self, has its exit window run out in RUN with the drain flag set. Completion
first: READY, and the HOLD taken there is ILLEGAL. HOLD first: HOLDING with the flag still set. The cause is kept in both
orders. Which order falls is a free value (notes/assumptions/8.md). -/
def Obligations.DrainCompletes : Prop :=
  (∀ (s : Sys2Proof.Machine.State) (i : Issuer), s.executor.drain = some i →
    ((s.executor.loop = .run ∨ s.executor.loop = .hold) → s.drained → ∃ t, exec .drainComplete s = .next t
      ∧ t.executor = { s.executor with
          loop := .ready
          drain := none
          outcomes := s.executor.outcomes.set .drain ⟨.done, some i, none⟩ }
      ∧ s.permissionsLeft t ∧ s.racksKept t ∧ s.surroundingsKept t ∧ t.draws = s.draws
      ∧ (s.present i.markOf = true → t.attention i.markOf = true))
    ∧ ((s.executor.loop ≠ .run ∧ s.executor.loop ≠ .hold) ∨ ¬s.drained → exec .drainComplete s = .next s))
  ∧ (∀ (s : Sys2Proof.Machine.State) (i : Issuer) (m : RecNo) (k : Nat),
    s.nonePending → s.executor.drain = some i → s.executor.loop = .run → s.line.driveCode = .running →
    s.tunnel.permit = true → s.lanes.xt = [⟨m, .timing k⟩] →
    (∀ n, ∀ r ∈ s.record n, r.state ≠ .loaded ∧ r.state ≠ .inWash ∧ r.state ≠ .short) →
    ∃ t, exec (.exitMissing m) s = .next t
      ∧ t.executor.holdCauses.exitMissing = true ∧ t.permissionsWithdrawn
      ∧ (Config.drainFirst s.draws = true →
          t.executor.loop = .ready ∧ t.executor.drain = none
          ∧ t.executor.outcomes.drain = ⟨.done, some i, none⟩
          ∧ t.executor.outcomes.hold = ⟨.illegal, some .internal, none⟩)
      ∧ (Config.drainFirst s.draws = false →
          t.executor.loop = .holding .internal ∧ t.executor.drain = some i
          ∧ t.executor.outcomes.drain = s.executor.outcomes.drain
          ∧ t.executor.outcomes.hold = ⟨.inProgress, some .internal, none⟩)
      ∧ t.lanes.xt = [] ∧ t.lanes.off = s.lanes.off ++ [⟨m, .exitMissing⟩])

/-! ## Trackpoints -/

/-- BLOCKED_EDGE (R54, R55, R86, R143, R153): a blockage of length 0 begins, marked as a reset blockage where the start
flag is set, the jam timer runs for JAM_LIMIT, and the window that waits at the eye stops: that of a merge grant to the
source of this eye, of the head of XT at EX, of a dispatch grant at DS. Nothing else changes. THE MODEL'S CHOICE
(notes/assumptions/27.md, from R147 and R157): a grant that an expiry reopened in the same millisecond has not opened; the
merge arbiter has decided with the blockage in progress, the dispatch arbiter's classes and last target stand as the
expiry left them.

CLEAR_EDGE of a blockage shorter than RACK_MIN (R60, R61, R86, R143, R153): DEBRIS is recorded, naming no record, and
no record moves; a window that waits at the eye and stands ARRIVING is TIMING again with its full time. With the drain
flag or without, the executor is as it was, and the owner of the eye's permission has decided. -/
def Obligations.BlockagesBeginAndDebrisMovesNothing : Prop :=
  (∀ (s : Sys2Proof.Machine.State) (e : Eye), (s.eyes.get e).blocked = false →
    ∃ t, exec (.blockedEdge e) s = .next t
      ∧ t = { s with eyes := t.eyes, lanes := t.lanes, merge := t.merge, dispatch := t.dispatch }
      ∧ t.eyes.get e =
          ⟨true, 0, (s.eyes.get e).start, some ⟨0, (s.eyes.get e).start, false⟩,
            some (s.working.jamLimit.get e), (s.eyes.get e).anomaly⟩
      ∧ (∀ d ∈ Eye.all, d ≠ e → t.eyes.get d = s.eyes.get d)
      ∧ ((∀ g ∈ s.merge, g.source.eye = e → g.reopened = false) →
          t.merge = s.merge.map (fun g => if g.source.eye = e then { g with window := .arriving } else g))
      ∧ (∀ g ∈ s.merge, g.source.eye = e → g.reopened = true →
          t.mergeFresh ∧ (∀ f ∈ t.merge, f.source ≠ g.source) ∧ exec .mergeGrantOpen t = .next t)
      ∧ ((e = .ds → ∀ g ∈ s.dispatch.grant, g.reopened = none) →
          t.dispatch = { s.dispatch with
            grant := s.dispatch.grant.map fun g => if e = .ds then { g with window := .arriving } else g })
      ∧ (e = .ds → ∀ g ∈ s.dispatch.grant, ∀ r ∈ g.reopened, t.dispatch = ⟨r.deferred, none, r.lastTarget⟩)
      ∧ t.lanes = { s.lanes with
          xt := if e = .ex then
              s.lanes.xt.head?.toList.map (fun x => { x with window := .arriving }) ++ s.lanes.xt.tail
            else s.lanes.xt })
  ∧ (∀ (s : Sys2Proof.Machine.State) (e : Eye), s.endsAsDebris e →
    let again (w : Window) (full : Nat) : Window := if w = .arriving then .timing full else w
    ∃ t, exec (.clearEdge e) s = .next t
      ∧ s.edgeCleared t e ⟨.debris, none, true⟩ ∧ (s.present .panel = true → t.attention .panel = true)
      ∧ t.slots = s.slots
      ∧ t.lanes = { s.lanes with
          xt := if e = .ex then
              s.lanes.xt.head?.toList.map (fun x => { x with window := again x.window s.working.exitWindow })
                ++ s.lanes.xt.tail
            else s.lanes.xt }
      ∧ (∀ g ∈ s.merge, t.merge =
          some (if g.source.eye = e then { g with window := again g.window s.working.mergeWindow } else g))
      ∧ (∀ g ∈ s.dispatch.grant, t.dispatch = { s.dispatch with
          grant := some (if e = .ds then { g with window := again g.window s.working.dispatchWindow } else g) })
      ∧ (∀ g ∈ s.unload.release, t.unload = s.unload)
      ∧ (s.merge = none → t.mergeFresh)
      ∧ (e = .ul → exec .unloadReleaseOpen t = .next t)
      ∧ ((e = .sp ∨ ∃ x, e = .outfeed x) → exec .mergeGrantOpen t = .next t)
      ∧ (e = .ds → exec .dispatchGrantOpen t = .next t)
      ∧ t.tunnel = s.tunnel ∧ s.sensorsKept t ∧ s.settingsKept t ∧ s.lineKept t ∧ s.executorKept t)

/-- A passage at EN (R36 to R38, R42, R43, R81, R82). With cell 0 empty the head of ACC enters it, IN_WASH and fixed; with
cell 0 occupied it goes to OFF as ENTRY_DOUBLE, IN_WASH and fixed there, and HOLD is raised. In both the admission is
USED, and a passage with the gate closed is UNGRANTED. The count of ACC has fallen, and the Merge Arbiter has decided
(R140). -/
def Obligations.EntryPassage : Prop :=
  ∀ (s : Sys2Proof.Machine.State) (n : RecNo) (v : Record), s.endsAsRack .en → s.lanes.acc.head? = some n →
    s.record n = some v →
    let gateOpens : Prop :=
      s.executor.loop = .run ∧ s.lanes.cells.head? = some none ∧ s.tunnel.admissionUsed = false
    (s.lanes.cells.head? = some none → ∃ t, exec (.clearEdge .en) s = .next t
      ∧ t.lanes = { s.lanes with acc := s.lanes.acc.tail, cells := s.lanes.cells.set 0 (some n) }
      ∧ t.record n = some { v with state := .inWash, fixed := true } ∧ s.othersKept t n
      ∧ t.tunnel.admissionUsed = true
      ∧ (gateOpens → s.edgeCleared t .en (s.eyes.get .en).anomaly)
      ∧ (¬gateOpens → s.edgeCleared t .en ⟨.ungranted, some n, true⟩
          ∧ (s.present .panel = true → t.attention .panel = true))
      ∧ s.sensorsKept t ∧ s.settingsKept t ∧ s.lineKept t
      ∧ (s.executor.drain = none → s.executorKept t ∧ s.mergeDecided t ∧ t.dispatch = s.dispatch))
    ∧ ((∃ c, s.lanes.cells.head? = some (some c)) → s.nonePending → s.executor.drain = none →
        ∃ t, exec (.clearEdge .en) s = .next t
        ∧ t.lanes = { s.lanes with acc := s.lanes.acc.tail, off := s.lanes.off ++ [⟨n, .entryDouble⟩] }
        ∧ t.record n = some { v with state := .inWash, fixed := true } ∧ s.othersKept t n
        ∧ t.tunnel.admissionUsed = true
        ∧ s.edgeCleared t .en ⟨.entryDouble, some n, true⟩ ∧ (s.present .panel = true → t.attention .panel = true)
        ∧ s.heldBy t .entryDouble ∧ (s.inRun = true → t.permissionsWithdrawn)
        ∧ s.sensorsKept t ∧ s.settingsKept t ∧ s.lineKept t)

/-- A passage at OA to OD or SP (R19, R35 to R38, R42, R144). With room in ACC the head of the source joins its tail and
leaves the finish-order list; FIX_POINT = MERGE fixes it. The grant that covered it has ended and the arbiter has decided
again; a grant to another source stays, and the passage is UNGRANTED. With ACC full it goes to OFF as OVERFLOW, and HOLD
is raised. -/
def Obligations.MergePassage : Prop :=
  ∀ (s : Sys2Proof.Machine.State) (src : MergeSource) (n : RecNo) (v : Record), s.endsAsRack src.eye →
    s.lanes.sourceHeadOf src = some n → s.record n = some v →
    let left (l : Lanes) : Prop :=
      (∀ x, src = .station x → l.outfeed = s.lanes.outfeed.set x (s.lanes.outfeed.get x).tail
          ∧ l.finishOrder = s.lanes.finishOrder.filter (fun k => decide (k ≠ n)) ∧ l.spur = s.lanes.spur)
      ∧ (src = .spur → l.outfeed = s.lanes.outfeed ∧ l.finishOrder = s.lanes.finishOrder
          ∧ l.spur = s.lanes.spur.tail)
    let moved : Record := { v with fixed := v.fixed || decide (s.single.fixPoint = .merge) }
    (s.lanes.acc.length < s.working.accumCap → ∃ t, exec (.clearEdge src.eye) s = .next t
      ∧ left t.lanes
      ∧ t.lanes = { s.lanes with
          outfeed := t.lanes.outfeed, finishOrder := t.lanes.finishOrder, spur := t.lanes.spur
          acc := s.lanes.acc ++ [n] }
      ∧ t.record n = some moved ∧ s.othersKept t n
      ∧ ((∃ g ∈ s.merge, g.source = src) → s.edgeCleared t src.eye (s.eyes.get src.eye).anomaly)
      ∧ (¬(∃ g ∈ s.merge, g.source = src) → s.edgeCleared t src.eye ⟨.ungranted, some n, true⟩
          ∧ (s.present .panel = true → t.attention .panel = true))
      ∧ (s.executor.drain = none →
          (∀ g ∈ s.merge, g.source ≠ src → t.merge = s.merge)
          ∧ ((∀ g ∈ s.merge, g.source = src) → t.mergeFresh ∧ exec .mergeGrantOpen t = .next t)
          ∧ s.executorKept t)
      ∧ t.tunnel.admissionUsed = s.tunnel.admissionUsed ∧ s.sensorsKept t ∧ s.settingsKept t ∧ s.lineKept t)
    ∧ (s.working.accumCap ≤ s.lanes.acc.length → s.nonePending → s.executor.drain = none →
        ∃ t, exec (.clearEdge src.eye) s = .next t
        ∧ left t.lanes
        ∧ t.lanes = { s.lanes with
            outfeed := t.lanes.outfeed, finishOrder := t.lanes.finishOrder, spur := t.lanes.spur
            off := s.lanes.off ++ [⟨n, .overflow⟩] }
        ∧ t.record n = some moved ∧ s.othersKept t n
        ∧ s.edgeCleared t src.eye ⟨.overflow, some n, true⟩ ∧ (s.present .panel = true → t.attention .panel = true)
        ∧ s.heldBy t .overflow ∧ (s.inRun = true → t.permissionsWithdrawn)
        ∧ t.tunnel.admissionUsed = s.tunnel.admissionUsed ∧ s.sensorsKept t ∧ s.settingsKept t ∧ s.lineKept t)

/-- A passage at EX (R36, R37, R42, R88, R124, R125). With room in UNL the head of XT joins its tail, its exit window gone
with it; where UNL was empty it is the new head: SHORT with a rewash count at or above REWASH_LIMIT it is REJECTED, the
diverter turns to its place, the unload node's mark is raised, and the release has been decided (R127). It is never
UNGRANTED. With UNL full it goes to OFF as
OVERFLOW, and HOLD is raised. -/
def Obligations.ExitPassage : Prop :=
  ∀ (s : Sys2Proof.Machine.State) (x : XtEntry) (rest : List XtEntry), s.endsAsRack .ex → s.lanes.xt = x :: rest →
    (s.lanes.unl.length < s.working.unloadCap → ∃ t, exec (.clearEdge .ex) s = .next t
      ∧ t.lanes = { s.lanes with xt := rest, unl := s.lanes.unl ++ [x.rack] }
      ∧ (∀ k, t.record k = s.seenAtHead t.lanes s.record k)
      ∧ (s.lanes.unl = [] → t.diverterMatchesHead ∧ (s.present .unload = true → t.attention .unload = true))
      ∧ (s.lanes.unl ≠ [] → t.unload.diverter = s.unload.diverter ∧ t.slots = s.slots)
      ∧ exec .unloadReleaseOpen t = .next t
      ∧ s.edgeCleared t .ex (s.eyes.get .ex).anomaly
      ∧ t.tunnel.admissionUsed = s.tunnel.admissionUsed ∧ s.sensorsKept t ∧ s.settingsKept t ∧ s.lineKept t
      ∧ (s.executor.drain = none → s.executorKept t ∧ (t.tunnel.permit = true ↔
          s.executor.loop = .run ∧ ¬(s.lanes.lastCell ≠ none
            ∧ s.working.unloadCap ≤ t.lanes.unl.length + t.lanes.xt.length))))
    ∧ (s.working.unloadCap ≤ s.lanes.unl.length → s.lanes.unl ≠ [] → s.nonePending → s.executor.drain = none →
        ∃ t, exec (.clearEdge .ex) s = .next t
        ∧ t.lanes = { s.lanes with xt := rest, off := s.lanes.off ++ [⟨x.rack, .overflow⟩] } ∧ t.slots = s.slots
        ∧ s.edgeCleared t .ex ⟨.overflow, some x.rack, true⟩
        ∧ (s.present .panel = true → t.attention .panel = true)
        ∧ s.heldBy t .overflow ∧ (s.inRun = true → t.permissionsWithdrawn)
        ∧ t.tunnel.admissionUsed = s.tunnel.admissionUsed ∧ s.sensorsKept t ∧ s.settingsKept t ∧ s.lineKept t)

/-- A passage at UL (R11 to R13, R36 to R38, R42, R43, R124, R128). The head of UNL leaves toward RET, EMPTY with every
field of the first column of R11, or toward SPUR, LOADED with its heat fields cleared, its rewash count one higher, 7 at
most, and fixed. It joins the tail there, or OFF as OVERFLOW with a HOLD where the place is full. The record behind it is
the new head. The release has ended; a passage without one is UNGRANTED; one into RET with a load list is
UNLOAD_SKIPPED. Where SPUR or RET has become non-empty its arbiter has decided (R140, R150). -/
def Obligations.UnloadPassage : Prop :=
  ∀ (s : Sys2Proof.Machine.State) (n : RecNo) (rest : List RecNo) (v : Record), s.endsAsRack .ul →
    s.lanes.unl = n :: rest → s.record n = some v →
    let toRet : Prop := s.unload.diverter = .toReturn
    let changed : Record :=
      if toRet then ⟨.empty, none, false, [], 0, 0, none, 0, false, Reasons.none, 0, false⟩
      else { v with
        state := .loaded, credit := 0, rinseMin := none, rinseSamples := 0, sensorFault := false
        reasons := Reasons.none, rewash := min 7 (v.rewash + 1), fixed := true }
    let full : Prop :=
      if toRet then s.working.returnCap ≤ s.lanes.ret.length else s.working.spurCap ≤ s.lanes.spur.length
    let noted : List (AnomalyKind × Option RecNo) :=
      (if s.unload.release = none then [(.ungranted, some n)] else [])
        ++ (if toRet ∧ v.load ≠ [] then [(.unloadSkipped, some n)] else [])
    (¬full → ∃ t, exec (.clearEdge .ul) s = .next t
      ∧ t.lanes = (if toRet then { s.lanes with unl := rest, ret := s.lanes.ret ++ [n] }
          else { s.lanes with unl := rest, spur := s.lanes.spur ++ [n] })
      ∧ (∀ k, t.record k = s.seenAtHead t.lanes (fun j => if j = n then some changed else s.record j) k)
      ∧ s.edgeCleared t .ul ((s.eyes.get .ul).anomaly.after noted)
      ∧ (noted ≠ [] → s.present .panel = true → t.attention .panel = true)
      ∧ (rest = [] → t.unload.diverter = s.unload.diverter)
      ∧ (∀ m ∈ rest.head?, m ≠ n →
          t.diverterMatchesHead ∧ (s.present .unload = true → t.attention .unload = true))
      ∧ (∀ r ∈ t.unload.release, t.inRun = true ∧ rest.head? = some r.rack)
      ∧ exec .unloadReleaseOpen t = .next t
      ∧ t.tunnel.admissionUsed = s.tunnel.admissionUsed ∧ s.sensorsKept t ∧ s.settingsKept t ∧ s.lineKept t
      ∧ (s.executor.drain = none → s.executorKept t
          ∧ (¬toRet → s.lanes.spur = [] → s.mergeDecided t) ∧ (toRet ∨ s.lanes.spur ≠ [] → t.merge = s.merge)
          ∧ (toRet → s.lanes.ret = [] → s.dispatchDecided t)
          ∧ (¬toRet ∨ s.lanes.ret ≠ [] → t.dispatch = s.dispatch)))
    ∧ (full → s.nonePending → s.executor.drain = none → ∃ t, exec (.clearEdge .ul) s = .next t
        ∧ t.lanes = { s.lanes with unl := rest, off := s.lanes.off ++ [⟨n, .overflow⟩] }
        ∧ (∀ k, t.record k = s.seenAtHead t.lanes (fun j => if j = n then some changed else s.record j) k)
        ∧ s.edgeCleared t .ul ⟨.overflow, some n, true⟩ ∧ (s.present .panel = true → t.attention .panel = true)
        ∧ s.heldBy t .overflow ∧ (s.inRun = true → t.permissionsWithdrawn)
        ∧ t.tunnel.admissionUsed = s.tunnel.admissionUsed ∧ s.sensorsKept t ∧ s.settingsKept t ∧ s.lineKept t)

/-- A passage at DS (R36 to R39, R42, R154). The head of RET goes to the loading position of the grant's target, without a
grant (UNGRANTED) to that of the last target: into it where it is empty, the station's mark raised; to OFF as OVERFLOW
with a HOLD where it is occupied. With neither it goes to OFF as NO_DESTINATION, and no hold is raised. The record keeps
its fields, and the grant has ended. -/
def Obligations.DispatchPassage : Prop :=
  ∀ (s : Sys2Proof.Machine.State) (n : RecNo) (rest : List RecNo), s.endsAsRack .ds → s.lanes.ret = n :: rest →
    let toward (x : Station) : Prop :=
      (∃ g ∈ s.dispatch.grant, g.target = x) ∨ (s.dispatch.grant = none ∧ s.dispatch.lastTarget = some x)
    (∀ x, toward x → s.lanes.lp.get x = none → ∃ t, exec (.clearEdge .ds) s = .next t
      ∧ t.lanes = { s.lanes with ret := rest, lp := s.lanes.lp.set x (some n) } ∧ t.slots = s.slots
      ∧ (s.present (.station x) = true → t.attention (.station x) = true)
      ∧ (s.dispatch.grant ≠ none → s.edgeCleared t .ds (s.eyes.get .ds).anomaly)
      ∧ (s.dispatch.grant = none → s.edgeCleared t .ds ⟨.ungranted, some n, true⟩
          ∧ (s.present .panel = true → t.attention .panel = true))
      ∧ (∀ g ∈ t.dispatch.grant, g.window = .timing s.working.dispatchWindow ∧ t.lanes.lp.get g.target = none)
      ∧ exec .dispatchGrantOpen t = .next t
      ∧ t.tunnel.admissionUsed = s.tunnel.admissionUsed ∧ s.sensorsKept t ∧ s.settingsKept t ∧ s.lineKept t
      ∧ (s.executor.drain = none → s.executorKept t))
    ∧ (∀ x, toward x → s.lanes.lp.get x ≠ none → s.nonePending → s.executor.drain = none →
        ∃ t, exec (.clearEdge .ds) s = .next t
        ∧ t.lanes = { s.lanes with ret := rest, off := s.lanes.off ++ [⟨n, .overflow⟩] } ∧ t.slots = s.slots
        ∧ s.edgeCleared t .ds ⟨.overflow, some n, true⟩ ∧ (s.present .panel = true → t.attention .panel = true)
        ∧ s.heldBy t .overflow ∧ (s.inRun = true → t.permissionsWithdrawn)
        ∧ t.tunnel.admissionUsed = s.tunnel.admissionUsed ∧ s.sensorsKept t ∧ s.settingsKept t ∧ s.lineKept t)
    ∧ (s.dispatch.grant = none → s.dispatch.lastTarget = none → ∃ t, exec (.clearEdge .ds) s = .next t
        ∧ t.lanes = { s.lanes with ret := rest, off := s.lanes.off ++ [⟨n, .noDestination⟩] } ∧ t.slots = s.slots
        ∧ s.edgeCleared t .ds ⟨.noDestination, some n, true⟩
        ∧ (s.present .panel = true → t.attention .panel = true)
        ∧ t.tunnel.admissionUsed = s.tunnel.admissionUsed ∧ s.sensorsKept t ∧ s.settingsKept t ∧ s.lineKept t
        ∧ (s.executor.drain = none → s.executorKept t))

/-- Passages with an empty source (R2, R25, R40, R41, R43, R136). At every trackpoint but DS a phantom with the fields of
R25 takes the lowest free slot and joins the destination, or OFF with a HOLD where that is full; with no free slot
TABLE_FULL is recorded, no place changes and STOP is raised. At DS nothing is created. -/
def Obligations.PhantomPassage : Prop :=
  ∀ (s : Sys2Proof.Machine.State) (e : Eye), s.endsAsRack e → s.lanes.sourceHead e = none →
    let covered : Prop := s.covers e = true
    let noted (m : Option RecNo) : List (AnomalyKind × Option RecNo) := if covered then [] else [(.ungranted, m)]
    let unknown (state : RackState) (reasons : Reasons) (fixed : Bool) : Record :=
      ⟨state, none, true, [], s.single.unknownClass, 0, none, 0, false, reasons, 0, fixed⟩
    let phantom : Record :=
      match e with
      | .outfeed _ | .sp => unknown .loaded Reasons.none (decide (s.single.fixPoint = .merge))
      | .en => unknown .inWash Reasons.none true
      | .ex => unknown .short ⟨true, true, false, false, false⟩ true
      | .ul =>
        if s.unload.diverter = .toSpur then unknown .loaded Reasons.none true
        else ⟨.empty, none, true, [], 0, 0, none, 0, false, Reasons.none, 0, false⟩
      | .ds => Record.registered
    let place : Place :=
      match e with
      | .outfeed _ | .sp => .acc
      | .en => .tun
      | .ex => .unl
      | .ul => if s.unload.diverter = .toSpur then .spur else .ret
      | .ds => .ret
    (e = .ds → ∃ t, exec (.clearEdge .ds) s = .next t
      ∧ t.slots = s.slots ∧ t.lanes = s.lanes ∧ s.edgeCleared t .ds ⟨.phantom, none, true⟩
      ∧ (s.present .panel = true → t.attention .panel = true)
      ∧ s.sensorsKept t ∧ s.settingsKept t ∧ s.lineKept t ∧ (s.executor.drain = none → s.executorKept t))
    ∧ (e ≠ .ds → s.allocationCount < 64 → s.isFull place = false → ∃ t, exec (.clearEdge e) s = .next t
        ∧ ∃ m : RecNo, s.record m = none ∧ (∀ k < m, s.record k ≠ none)
          ∧ t.lanes = s.lanes.join place m
          ∧ (∀ k, t.record k = s.seenAtHead t.lanes (fun j => if j = m then some phantom else s.record j) k)
          ∧ s.edgeCleared t e ⟨.phantom, some m, true⟩ ∧ (s.present .panel = true → t.attention .panel = true)
          ∧ t.tunnel.admissionUsed = (s.tunnel.admissionUsed || decide (e = .en))
          ∧ s.sensorsKept t ∧ s.settingsKept t ∧ s.lineKept t
          ∧ (s.executor.drain = none → s.executorKept t
              ∧ (place = .spur → s.lanes.spur = [] → s.mergeDecided t)
              ∧ (place = .ret → s.lanes.ret = [] → s.dispatchDecided t)))
    ∧ (e ≠ .ds → s.allocationCount < 64 → s.isFull place = true → s.nonePending → s.executor.drain = none →
        ∃ t, exec (.clearEdge e) s = .next t
        ∧ ∃ m : RecNo, s.record m = none ∧ (∀ k < m, s.record k ≠ none)
          ∧ t.lanes = { s.lanes with
              off := s.lanes.off ++ [⟨m, if e = .en then .entryDouble else .overflow⟩] }
          ∧ t.record m = some phantom ∧ s.othersKept t m
          ∧ s.edgeCleared t e ⟨if e = .en then .entryDouble else .overflow, some m, true⟩
          ∧ s.heldBy t (if e = .en then .entryDouble else .overflow) ∧ (s.inRun = true → t.permissionsWithdrawn)
          ∧ s.sensorsKept t ∧ s.settingsKept t ∧ s.lineKept t)
    ∧ (e ≠ .ds → s.allocationCount = 64 → s.nonePending → ∃ t, exec (.clearEdge e) s = .next t
        ∧ t.slots = s.slots ∧ t.lanes = s.lanes
        ∧ s.edgeCleared t e ((s.eyes.get e).anomaly.after (noted none ++ [(.tableFull, none)]))
        ∧ (s.present .panel = true → t.attention .panel = true)
        ∧ (s.executor.drain = none → s.stopTaken t .internal
            ∧ t.executor.stopCauses = s.executor.stopCauses.add .tableFull)
        ∧ (s.inRun = true → t.permissionsWithdrawn) ∧ s.sensorsKept t ∧ s.settingsKept t ∧ s.lineKept t)

/-- A blockage longer than RACK_MAX is two racks (R36 to R43, R60, R63, R144): DOUBLE, then two passages in succession,
each by the state the one before has left. At an eye of the merge the two heads of the source join ACC, each leaving the
finish-order list; the second is UNGRANTED. At EN the first enters cell 0 and the second is an entry double. At EX both
join UNL, and none is UNGRANTED. At UL the first goes where the diverter stood; the second, now the head of UNL, is seen
there (R124, R125) and goes where its state calls for, UNGRANTED, and UNLOAD_SKIPPED into RET with a load list. At DS the
first fills the loading position and the second overflows.

A second passage with an empty source makes a phantom in the lowest free slot (R25, R40), UNGRANTED but at EX: at a merge
eye in ACC, at EX in UNL, at UL where the diverter stood, at EN an entry double. At DS it makes none. -/
def Obligations.DoubleIsTwoPassages : Prop :=
  (∀ (s : Sys2Proof.Machine.State) (src : MergeSource) (n m : RecNo) (rest : List RecNo),
    s.endsAsDouble src.eye → n ≠ m →
    (match src with
      | .station x => s.lanes.outfeed.get x
      | .spur => s.lanes.spur) = n :: m :: rest →
    s.lanes.acc.length + 2 ≤ s.working.accumCap →
    ∃ t, exec (.clearEdge src.eye) s = .next t
      ∧ t.lanes.acc = s.lanes.acc ++ [n, m]
      ∧ (∀ x, src = .station x → t.lanes = { s.lanes with
          acc := t.lanes.acc
          outfeed := s.lanes.outfeed.set x rest
          finishOrder := s.lanes.finishOrder.filter fun k => decide (k ≠ n ∧ k ≠ m) })
      ∧ (src = .spur → t.lanes = { s.lanes with acc := t.lanes.acc, spur := rest })
      ∧ s.edgeCleared t src.eye ⟨.ungranted, some m, true⟩ ∧ (s.present .panel = true → t.attention .panel = true)
      ∧ (∀ k, k ≠ n → k ≠ m → t.record k = s.record k)
      ∧ (∀ k, (k = n ∨ k = m) → t.record k = (s.record k).map fun v =>
          { v with fixed := v.fixed || decide (s.single.fixPoint = .merge) })
      ∧ s.sensorsKept t ∧ s.settingsKept t ∧ s.lineKept t ∧ (s.executor.drain = none → s.executorKept t))
  ∧ (∀ (s : Sys2Proof.Machine.State) (n m : RecNo) (rest : List RecNo) (v w : Record), s.endsAsDouble .en → n ≠ m →
    s.lanes.acc = n :: m :: rest → s.lanes.cells.head? = some none → s.record n = some v → s.record m = some w →
    s.nonePending → s.executor.drain = none → ∃ t, exec (.clearEdge .en) s = .next t
      ∧ t.lanes = { s.lanes with
          acc := rest, cells := s.lanes.cells.set 0 (some n), off := s.lanes.off ++ [⟨m, .entryDouble⟩] }
      ∧ t.record n = some { v with state := .inWash, fixed := true }
      ∧ t.record m = some { w with state := .inWash, fixed := true }
      ∧ (∀ k, k ≠ n → k ≠ m → t.record k = s.record k) ∧ t.tunnel.admissionUsed = true
      ∧ s.edgeCleared t .en ⟨.entryDouble, some m, true⟩ ∧ (s.present .panel = true → t.attention .panel = true)
      ∧ s.heldBy t .entryDouble ∧ (s.inRun = true → t.permissionsWithdrawn)
      ∧ s.sensorsKept t ∧ s.settingsKept t ∧ s.lineKept t)
  ∧ (∀ (s : Sys2Proof.Machine.State) (x y : XtEntry) (rest : List XtEntry), s.endsAsDouble .ex → x.rack ≠ y.rack →
    s.lanes.xt = x :: y :: rest → s.lanes.unl.length + 2 ≤ s.working.unloadCap →
    ∃ t, exec (.clearEdge .ex) s = .next t
      ∧ t.lanes = { s.lanes with xt := rest, unl := s.lanes.unl ++ [x.rack, y.rack] }
      ∧ (∀ k, t.record k = s.seenAtHead t.lanes s.record k)
      ∧ s.edgeCleared t .ex ⟨.double, none, true⟩ ∧ (s.present .panel = true → t.attention .panel = true)
      ∧ s.sensorsKept t ∧ s.settingsKept t ∧ s.lineKept t ∧ (s.executor.drain = none → s.executorKept t))
  ∧ (∀ (s : Sys2Proof.Machine.State) (n m : RecNo) (rest : List RecNo) (v w : Record), s.endsAsDouble .ul → n ≠ m →
    s.lanes.unl = n :: m :: rest → n ∉ rest → m ∉ rest → s.record n = some v → s.record m = some w →
    s.lanes.ret.length + 2 ≤ s.working.returnCap → s.lanes.spur.length + 2 ≤ s.working.spurCap →
    w.state ∈ [RackState.empty, .clean, .short, .rejected] →
    let toRet (d : Diverter) : Prop := d = .toReturn
    let second : Diverter := if w.state = .empty ∨ w.state = .clean then .toReturn else .toSpur
    let changed (r : Record) (d : Diverter) : Record :=
      if toRet d then ⟨.empty, none, false, [], 0, 0, none, 0, false, Reasons.none, 0, false⟩
      else { r with
        state := .loaded, credit := 0, rinseMin := none, rinseSamples := 0, sensorFault := false
        reasons := Reasons.none, rewash := min 7 (r.rewash + 1), fixed := true }
    ∃ t, exec (.clearEdge .ul) s = .next t
      ∧ t.lanes = { s.lanes with
          unl := rest
          ret := s.lanes.ret ++ (if toRet s.unload.diverter then [n] else []) ++ (if toRet second then [m] else [])
          spur := s.lanes.spur ++ (if toRet s.unload.diverter then [] else [n]) ++ (if toRet second then [] else [m]) }
      ∧ t.record n = some (changed v s.unload.diverter) ∧ t.record m = some (changed w second)
      ∧ s.edgeCleared t .ul
          ⟨if toRet second ∧ w.load ≠ [] then .unloadSkipped else .ungranted, some m, true⟩
      ∧ (s.present .panel = true → t.attention .panel = true)
      ∧ s.sensorsKept t ∧ s.settingsKept t ∧ s.lineKept t ∧ (s.executor.drain = none → s.executorKept t))
  ∧ (∀ (s : Sys2Proof.Machine.State) (n : RecNo) (rest : List RecNo) (x : Station), s.endsAsDouble .ds →
    s.lanes.ret = n :: rest → s.lanes.lp.get x = none → s.dispatch.lastTarget = some x →
    (∀ g ∈ s.dispatch.grant, g.target = x) → s.nonePending → s.executor.drain = none →
    let delivered (t : Sys2Proof.Machine.State) : Prop :=
      t.lanes.lp = s.lanes.lp.set x (some n) ∧ t.slots = s.slots
        ∧ (s.present (.station x) = true → t.attention (.station x) = true)
        ∧ (s.present .panel = true → t.attention .panel = true)
        ∧ s.sensorsKept t ∧ s.settingsKept t ∧ s.lineKept t
    (∀ m ∈ rest.head?, ∃ t, exec (.clearEdge .ds) s = .next t ∧ delivered t
      ∧ t.lanes = { s.lanes with
          lp := t.lanes.lp, ret := rest.tail, off := s.lanes.off ++ [⟨m, .overflow⟩] }
      ∧ s.edgeCleared t .ds ⟨.overflow, some m, true⟩
      ∧ s.heldBy t .overflow ∧ (s.inRun = true → t.permissionsWithdrawn))
    ∧ (rest = [] → ∃ t, exec (.clearEdge .ds) s = .next t ∧ delivered t
      ∧ t.lanes = { s.lanes with lp := t.lanes.lp, ret := [] }
      ∧ s.edgeCleared t .ds ⟨.phantom, none, true⟩ ∧ s.executorKept t))
  ∧ (∀ (s : Sys2Proof.Machine.State) (n m : RecNo), s.record m = none → (∀ k < m, s.record k ≠ none) → n ≠ m →
    let unknown (state : RackState) (reasons : Reasons) (fixed : Bool) : Record :=
      ⟨state, none, true, [], s.single.unknownClass, 0, none, 0, false, reasons, 0, fixed⟩
    (∀ src : MergeSource, s.endsAsDouble src.eye →
      (match src with
        | .station x => s.lanes.outfeed.get x
        | .spur => s.lanes.spur) = [n] →
      s.lanes.acc.length + 2 ≤ s.working.accumCap → ∃ t, exec (.clearEdge src.eye) s = .next t
        ∧ t.lanes.acc = s.lanes.acc ++ [n, m] ∧ t.lanes.off = s.lanes.off
        ∧ t.record n = (s.record n).map (fun v =>
            { v with fixed := v.fixed || decide (s.single.fixPoint = .merge) })
        ∧ t.record m = some (unknown .loaded Reasons.none (decide (s.single.fixPoint = .merge)))
        ∧ s.edgeCleared t src.eye ⟨.phantom, some m, true⟩
        ∧ s.sensorsKept t ∧ s.settingsKept t ∧ s.lineKept t ∧ (s.executor.drain = none → s.executorKept t))
    ∧ (s.endsAsDouble .ex → s.lanes.xt.map (·.rack) = [n] → s.lanes.unl.length + 2 ≤ s.working.unloadCap →
      s.lanes.unl.head? ≠ some m → ∃ t, exec (.clearEdge .ex) s = .next t
        ∧ t.lanes = { s.lanes with xt := [], unl := s.lanes.unl ++ [n, m] }
        ∧ t.record n = s.seenAtHead t.lanes s.record n
        ∧ t.record m = some (unknown .short ⟨true, true, false, false, false⟩ true)
        ∧ s.edgeCleared t .ex ⟨.phantom, some m, true⟩
        ∧ s.sensorsKept t ∧ s.settingsKept t ∧ s.lineKept t ∧ (s.executor.drain = none → s.executorKept t))
    ∧ (s.endsAsDouble .en → s.lanes.acc = [n] → s.lanes.cells.head? = some none → s.nonePending →
      s.executor.drain = none → ∃ t, exec (.clearEdge .en) s = .next t
        ∧ t.lanes = { s.lanes with
            acc := [], cells := s.lanes.cells.set 0 (some n), off := s.lanes.off ++ [⟨m, .entryDouble⟩] }
        ∧ t.record n = (s.record n).map (fun v => { v with state := .inWash, fixed := true })
        ∧ t.record m = some (unknown .inWash Reasons.none true)
        ∧ s.edgeCleared t .en ⟨.entryDouble, some m, true⟩
        ∧ s.heldBy t .entryDouble ∧ (s.inRun = true → t.permissionsWithdrawn)
        ∧ s.sensorsKept t ∧ s.settingsKept t ∧ s.lineKept t)
    ∧ (s.endsAsDouble .ul → s.lanes.unl = [n] → s.lanes.ret.length + 2 ≤ s.working.returnCap →
      s.lanes.spur.length + 2 ≤ s.working.spurCap → ∃ t, exec (.clearEdge .ul) s = .next t
        ∧ t.unload.diverter = s.unload.diverter ∧ t.unload.release = none
        ∧ (s.unload.diverter = .toReturn →
            t.lanes = { s.lanes with unl := [], ret := s.lanes.ret ++ [n, m] }
            ∧ (∀ v ∈ s.record n, t.record n =
                some ⟨.empty, none, false, [], 0, 0, none, 0, false, Reasons.none, 0, false⟩)
            ∧ t.record m = some ⟨.empty, none, true, [], 0, 0, none, 0, false, Reasons.none, 0, false⟩)
        ∧ (s.unload.diverter = .toSpur →
            t.lanes = { s.lanes with unl := [], spur := s.lanes.spur ++ [n, m] }
            ∧ (∀ v ∈ s.record n, t.record n = some { v with
                state := .loaded, credit := 0, rinseMin := none, rinseSamples := 0, sensorFault := false
                reasons := Reasons.none, rewash := min 7 (v.rewash + 1), fixed := true })
            ∧ t.record m = some (unknown .loaded Reasons.none true))
        ∧ s.edgeCleared t .ul ⟨.phantom, some m, true⟩
        ∧ s.sensorsKept t ∧ s.settingsKept t ∧ s.lineKept t ∧ (s.executor.drain = none → s.executorKept t)))

/-- JAM (R57, R58, R66, R162, R169), with no command pending and no drain: the blockage is marked, its timer stopped, JAM
recorded naming no record, and HOLD raised with JAM naming the trackpoint; the blockage goes on, and no record moves.
THE MODEL'S CHOICE (notes/assumptions/2.md): with no jam timer running the row changes nothing. -/
def Obligations.JamRaisesHold : Prop :=
  ∀ (s : Sys2Proof.Machine.State) (e : Eye),
    (∀ b ∈ (s.eyes.get e).blockage, (s.eyes.get e).jamTimer ≠ none →
      s.nonePending → s.executor.drain = none → ∃ t, exec (.jam e) s = .next t
        ∧ t.eyes.get e = { s.eyes.get e with
            blockage := some ⟨b.length, b.isReset, true⟩, jamTimer := none, anomaly := ⟨.jam, none, true⟩ }
        ∧ (∀ d ∈ Eye.all, d ≠ e → t.eyes.get d = s.eyes.get d)
        ∧ (s.present .panel = true → t.attention .panel = true)
        ∧ s.heldBy t (.jam e) ∧ s.permissionsLeft t
        ∧ s.racksKept t ∧ s.sensorsKept t ∧ t.tunnel.admissionUsed = s.tunnel.admissionUsed
        ∧ s.settingsKept t ∧ s.lineKept t)
    ∧ (((s.eyes.get e).blockage = none ∨ (s.eyes.get e).jamTimer = none) → exec (.jam e) s = .next s)

/-- ESTOP_ACTIVE and ESTOP_RELEASED (R71, R72, R162, R165, R170), with no command pending. The active edge raises STOP
with cause ESTOP in every state; the released edge ends the condition and leaves the loop state, but for the test that
ends STARTING. -/
def Obligations.EstopStopsAndReleases : Prop :=
  ∀ s : Sys2Proof.Machine.State, s.nonePending →
    (s.estop.active = false → ∃ t, exec .estopActive s = .next t
      ∧ t.estop = ⟨true, 0⟩ ∧ s.stopTaken t .internal ∧ s.permissionsLeft t
      ∧ t.executor.stopCauses = { s.executor.stopCauses with estop := true }
      ∧ (s.present .panel = true → t.attention .panel = true)
      ∧ s.racksKept t ∧ t.eyes = s.eyes ∧ t.heat = s.heat ∧ t.tunnel.pitch = s.tunnel.pitch
      ∧ t.tunnel.admissionUsed = s.tunnel.admissionUsed ∧ s.settingsKept t ∧ s.lineKept t)
    ∧ (s.estop.active = true → (∀ o i, s.executor.loop ≠ .starting o i) →
        exec .estopReleased s = .next { s with estop := ⟨false, 0⟩ })

/-- EYE_SAMPLE (R53, R54, R55, R56, R70), with no command pending, in any order of the inputs. At each trackpoint and at
the ESTOP input: a sample equal to the filtered level returns the run count to 0; one that differs raises it, and at
EYE_CHECK (5 for ESTOP) it takes the level and returns to 0. The start flag falls at the first CLEAR sample; the length
of a blockage in progress rises by 1, 65535 at most. A sample that changes no level changes nothing else. Where it changes
the level of one input, it is the row of that edge, BLOCKED_EDGE, CLEAR_EDGE, ESTOP_ACTIVE or ESTOP_RELEASED (R55, R60,
R71, R72), beside the counts and lengths of the other inputs. THE MODEL'S CHOICE: the edge's row is the sample that
completes the run (notes/assumptions/15.md), and a reopened grant stands as any other after a sample
(notes/assumptions/27.md). -/
def Obligations.EyeSampleFilters : Prop :=
  ∀ (s : Sys2Proof.Machine.State) (blocked : List Eye) (low : Bool) (order : List SampleInput), s.nonePending →
    let raw (e : Eye) : Bool := decide (e ∈ blocked)
    let flips (e : Eye) : Prop :=
      raw e ≠ (s.eyes.get e).blocked ∧ s.working.eyeCheck.get e ≤ (s.eyes.get e).runCount + 1
    let longer (e : Eye) : Option Blockage :=
      (s.eyes.get e).blockage.map fun b => { b with length := min 65535 (b.length + 1) }
    let sampled (t u : Sys2Proof.Machine.State) : Sys2Proof.Machine.State :=
      { u with
        eyes := t.eyes
        estop := t.estop
        merge := u.merge.map fun g => { g with reopened := false }
        dispatch := { u.dispatch with grant := u.dispatch.grant.map fun g => { g with reopened := none } } }
    ∃ t, exec (.eyeSample blocked low order) s = .next t
      ∧ (∀ e ∈ Eye.all,
          ((t.eyes.get e).start = ((s.eyes.get e).start && raw e))
          ∧ (¬flips e → (t.eyes.get e).blocked = (s.eyes.get e).blocked
              ∧ (t.eyes.get e).runCount =
                  (if raw e = (s.eyes.get e).blocked then 0 else (s.eyes.get e).runCount + 1)
              ∧ (t.eyes.get e).blockage = longer e ∧ (t.eyes.get e).jamTimer = (s.eyes.get e).jamTimer
              ∧ (t.eyes.get e).anomaly = (s.eyes.get e).anomaly)
          ∧ (flips e → (t.eyes.get e).blocked = raw e ∧ (t.eyes.get e).runCount = 0
              ∧ (raw e = true → (t.eyes.get e).blockage = some ⟨0, (s.eyes.get e).start, false⟩
                  ∧ (t.eyes.get e).jamTimer = some (s.working.jamLimit.get e))
              ∧ (raw e = false → (t.eyes.get e).blockage = none ∧ (t.eyes.get e).jamTimer = none)))
      ∧ t.estop =
          (if low = s.estop.active then ⟨s.estop.active, 0⟩
          else if s.estop.runCount + 1 < 5 then ⟨s.estop.active, s.estop.runCount + 1⟩
          else ⟨low, 0⟩)
      ∧ ((∀ e ∈ Eye.all, ¬flips e) → t.estop.active = s.estop.active →
          t = sampled t s)
      ∧ (∀ e ∈ Eye.all, flips e → (∀ d ∈ Eye.all, d ≠ e → ¬flips d) → t.estop.active = s.estop.active →
          ∃ u, exec (if raw e then .blockedEdge e else .clearEdge e) s = .next u
            ∧ t = sampled t u ∧ t.eyes.get e = u.eyes.get e)
      ∧ ((∀ e ∈ Eye.all, ¬flips e) → t.estop.active ≠ s.estop.active →
          ∃ u, exec (if low then .estopActive else .estopReleased) s = .next u ∧ t = sampled t u ∧ t.estop = u.estop)
      ∧ t.heat = s.heat ∧ t.tunnel.pitch = s.tunnel.pitch ∧ s.settingsKept t ∧ s.lineKept t

/-! ## The tunnel and the heat credit -/

/-- ENCODER_COUNT (R74): each count lowers the pitch counter by 1, and nothing else; the count that brings it to 0 is a
step.

STEP with room in XT (R75, R76, R77, R85, R90, R92, R115). The record of the last cell is judged by its credit, its
rinse and its sensor-fault flag and joins XT with a full exit window; every other record moves up one cell and cell 0 is
empty; the admission is AVAILABLE, the pitch counter loaded, the permit worked out again, and the stall timer started
again where the permit is on. No other record changes. -/
def Obligations.CountsAndStepsMoveTheTunnel : Prop :=
  (∀ s : Sys2Proof.Machine.State,
    (2 ≤ s.tunnel.pitch →
      exec .encoderCount s = .next { s with tunnel := { s.tunnel with pitch := s.tunnel.pitch - 1 } })
    ∧ (s.tunnel.pitch = 1 → ∃ t, exec .encoderCount s = .next t ∧ exec .step s = .next t
        ∧ t.tunnel.pitch = s.working.pitchCounts))
  ∧ (∀ s : Sys2Proof.Machine.State, s.lanes.cells ≠ [] →
    (s.lanes.lastCell = none ∨ s.lanes.xt.length < 2) → ∃ t, exec .step s = .next t
      ∧ t.lanes = { s.lanes with
          cells := none :: s.lanes.cells.dropLast
          xt := s.lanes.xt ++ s.lanes.lastCell.toList.map fun n => ⟨n, .timing s.working.exitWindow⟩ }
      ∧ (∀ k, s.lanes.lastCell ≠ some k → t.record k = s.record k)
      ∧ (∀ n ∈ s.lanes.lastCell, ∀ v ∈ s.record n,
          let why : Reasons :=
            ⟨decide (v.credit < s.working.classTarget.get v.ceiling), decide (v.rinseSamples = 0),
              decide (v.rinseSamples ≠ 0 ∧ ∃ k ∈ v.rinseMin, k < s.working.rinseFloor), v.sensorFault, false⟩
          t.record n = some { v with state := if why = Reasons.none then .clean else .short, reasons := why })
      ∧ t.tunnel.admissionUsed = false ∧ t.tunnel.pitch = s.working.pitchCounts
      ∧ t.estop = s.estop ∧ t.heat = s.heat ∧ t.eyes = s.eyes ∧ s.settingsKept t ∧ s.lineKept t
      ∧ (s.executor.drain = none → s.executorKept t
          ∧ (t.tunnel.permit = true ↔ s.executor.loop = .run ∧ ¬(t.lanes.lastCell ≠ none
              ∧ s.working.unloadCap ≤ t.lanes.unl.length + t.lanes.xt.length))
          ∧ t.tunnel.stall = (if t.tunnel.permit then some s.working.stallLimit else none)))

/-- STEP with 2 records in XT and one in the last cell (R33, R76, R115, R169), with no command pending and no drain: the
head of XT goes to OFF as TRANSIT_OVERFLOW, recorded at EX, the leaving record is judged and joins behind the other, and
HOLD is raised.

EXIT_MISSING and TUNNEL_STALL (R87, R92, R169), with no command pending and no drain. A record of XT whose window is
TIMING goes to OFF as EXIT_MISSING, keeping its fields, recorded at EX, and HOLD is raised; the row is the run-out itself
and does not ask whether the permit is on (THE MODEL'S CHOICE, notes/assumptions/25.md). A running stall timer stops and
HOLD is raised with TUNNEL_STALL. THE MODEL'S CHOICE (notes/assumptions/2.md): of a record that is not in XT or whose
window is ARRIVING, and with the stall timer stopped, the rows change nothing.

Two exit windows that run out in one millisecond (R85, R87; section 4.5, second example): both records go to OFF, though
the HOLD of the first turns the permit off. THE MODEL'S CHOICE (notes/assumptions/5.md): the millisecond is a step on an
empty queue, and the windows that run out in it expire in the order of XT. -/
def Obligations.TunnelHolds : Prop :=
  (∀ (s : Sys2Proof.Machine.State) (n : RecNo) (x y : XtEntry), s.lanes.lastCell = some n → s.lanes.xt = [x, y] →
    s.nonePending → s.executor.drain = none → ∃ t, exec .step s = .next t
      ∧ t.lanes = { s.lanes with
          cells := none :: s.lanes.cells.dropLast
          xt := [y, ⟨n, .timing s.working.exitWindow⟩]
          off := s.lanes.off ++ [⟨x.rack, .transitOverflow⟩] }
      ∧ (∀ k, k ≠ n → t.record k = s.record k)
      ∧ (∀ v ∈ s.record n,
          let why : Reasons :=
            ⟨decide (v.credit < s.working.classTarget.get v.ceiling), decide (v.rinseSamples = 0),
              decide (v.rinseSamples ≠ 0 ∧ ∃ k ∈ v.rinseMin, k < s.working.rinseFloor), v.sensorFault, false⟩
          t.record n = some { v with state := if why = Reasons.none then .clean else .short, reasons := why })
      ∧ (t.eyes.get .ex).anomaly = ⟨.transitOverflow, some x.rack, true⟩
      ∧ (∀ d ∈ Eye.all, d ≠ .ex → t.eyes.get d = s.eyes.get d)
      ∧ (s.present .panel = true → t.attention .panel = true)
      ∧ s.heldBy t .transitOverflow ∧ (s.inRun = true → t.permissionsWithdrawn)
      ∧ t.tunnel.admissionUsed = false ∧ t.tunnel.pitch = s.working.pitchCounts
      ∧ t.estop = s.estop ∧ t.heat = s.heat ∧ s.settingsKept t ∧ s.lineKept t)
  ∧ (∀ s : Sys2Proof.Machine.State, s.nonePending → s.executor.drain = none →
    (∀ m : RecNo, (∃ x ∈ s.lanes.xt, x.rack = m ∧ x.window ≠ .arriving) →
      ∃ t, exec (.exitMissing m) s = .next t
        ∧ t.lanes = { s.lanes with
            xt := s.lanes.xt.filter fun x => decide (x.rack ≠ m)
            off := s.lanes.off ++ [⟨m, .exitMissing⟩] }
        ∧ t.slots = s.slots
        ∧ (t.eyes.get .ex) = { s.eyes.get .ex with anomaly := ⟨.exitMissing, some m, true⟩ }
        ∧ (∀ d ∈ Eye.all, d ≠ .ex → t.eyes.get d = s.eyes.get d)
        ∧ (s.present .panel = true → t.attention .panel = true)
        ∧ s.heldBy t .exitMissing ∧ (s.inRun = true → t.permissionsWithdrawn)
        ∧ t.tunnel.admissionUsed = s.tunnel.admissionUsed ∧ s.sensorsKept t ∧ s.settingsKept t ∧ s.lineKept t)
    ∧ (∀ m : RecNo, (∀ x ∈ s.lanes.xt, x.rack = m → x.window = .arriving) → exec (.exitMissing m) s = .next s)
    ∧ (s.tunnel.stall ≠ none → ∃ t, exec .tunnelStall s = .next t
        ∧ t.tunnel.stall = none ∧ s.heldBy t .tunnelStall ∧ (s.inRun = true → t.permissionsWithdrawn)
        ∧ (s.present .panel = true → t.attention .panel = true)
        ∧ s.racksKept t ∧ s.surroundingsKept t)
    ∧ (s.tunnel.stall = none → exec .tunnelStall s = .next s))
  ∧ (∀ (s : Sys2Proof.Machine.State) (m n : RecNo), s.pending = [] → s.tunnel.permit = true → m ≠ n →
    s.lanes.xt = [⟨m, .timing 1⟩, ⟨n, .timing 1⟩] → ∃ t, step s = .next t
      ∧ t.lanes.xt = [] ∧ t.lanes.off = s.lanes.off ++ [⟨m, .exitMissing⟩, ⟨n, .exitMissing⟩]
      ∧ t.executor.holdCauses.exitMissing = true)

/-- CREDIT_SAMPLE (R101, R102, R104 to R106, R108 to R113). Every filter is seeded, moved a quarter of the way, halves
away from zero, or held, and gives the effective temperature; a record in a cell is credited by its zone where that is
VALID with its pump on, in zone 3 given a rinse sample or, with the zone not VALID, the sensor-fault flag; records in no
cell are left, and so is everything else. -/
def Obligations.CreditSampleFiltersAndCredits : Prop :=
  ∀ s : Sys2Proof.Machine.State, ∃ t, exec .creditSample s = .next t
    ∧ t = { s with slots := t.slots, heat := t.heat } ∧ t.heat.sampleTimer = s.working.creditPeriod
    ∧ (∀ z ∈ Zone.all,
        let i := s.heat.zones.get z
        let j := t.heat.zones.get z
        j.raw = i.raw ∧ j.pump = i.pump ∧ j.effective = (j.filter + 8) / 16
        ∧ (∀ v ∈ i.raw, v ≠ 0xFF → j.reseed = false
            ∧ (i.reseed = true → j.filter = 16 * v.toNat)
            ∧ (i.reseed = false →
                let d : Int := 16 * (v.toNat : Int) - i.filter
                (j.filter : Int) = i.filter + if 0 ≤ d then (2 * d + 4) / 8 else -((-2 * d + 4) / 8)))
        ∧ ((i.raw = none ∨ i.raw = some 0xFF) → j.filter = i.filter ∧ j.reseed = i.reseed))
    ∧ (∀ n, some n ∉ s.lanes.cells → t.record n = s.record n)
    ∧ (∀ k < s.lanes.cells.length, ∀ n, s.lanes.cells[k]? = some (some n) → s.lanes.cells.count (some n) = 1 →
        ∀ z ∈ zoneOfCell s.working.zoneLen k, ∀ v ∈ s.record n,
        let i := t.heat.zones.get z
        let valid : Prop := ∃ r ∈ i.raw, r ≠ 0xFF
        let band : Nat := min 15 ((i.effective - s.working.zoneBase.get z) / s.working.zoneStep.get z)
        let weight : Nat :=
          if i.effective < s.working.zoneBase.get z then 0 else (s.working.zoneWeight.get z).toList.getD band 0
        t.record n = some (
          if i.pump = false then v
          else if valid then
            if z = .finalRinse then
              { v with
                credit := min 65535 (v.credit + weight)
                rinseMin := some (v.rinseMin.elim i.effective fun m => min m i.effective)
                rinseSamples := min 255 (v.rinseSamples + 1) }
            else { v with credit := min 65535 (v.credit + weight) }
          else if z = .finalRinse then { v with sensorFault := true }
          else v))

/-- The speed code and the zone occupancy map (R79, R80, R94): the speed code is the least CLASS_SPEED over the class
ceilings of the records in cells of zones 0 to 3, IDLE_SPEED where there is none; a zone is marked while a cell of it
holds a record, zone 0 also while ACC holds one. -/
def Obligations.SpeedCodeAndZoneMarks : Prop :=
  ∀ s : Sys2Proof.Machine.State,
    let stands (n : RecNo) (z : Zone) : Prop :=
      ∃ k < s.lanes.cells.length, s.lanes.cells[k]? = some (some n) ∧ zoneOfCell s.working.zoneLen k = some z
    let speed (n : RecNo) : Nat :=
      s.working.classSpeed.get (match s.record n with
        | some v => v.ceiling
        | none => 0)
    (∀ n, (∃ z ∈ Zone.all, z ≠ .dryer ∧ stands n z) → s.speedCode ≤ speed n)
    ∧ ((∃ n, ∃ z ∈ Zone.all, z ≠ .dryer ∧ stands n z) →
        ∃ n, (∃ z ∈ Zone.all, z ≠ .dryer ∧ stands n z) ∧ s.speedCode = speed n)
    ∧ ((∀ n, ∀ z ∈ Zone.all, z ≠ .dryer → ¬stands n z) → s.speedCode = s.working.idleSpeed)
    ∧ (∀ z ∈ Zone.all, s.zoneMark z = true ↔ (∃ n, stands n z) ∨ (z = .preWash ∧ s.lanes.acc ≠ []))

/-! ## Permissions -/

/-- UNLOAD_RELEASE_OPEN (R123, R127): in RUN with no release open and no blockage at UL, a release opens for the head:
toward RET, with room there, for a CLEAN head with an empty list and an EMPTY one; toward SPUR, with room there, for a
SHORT one. Nothing opens outside these, and nothing else changes.

MERGE_GRANT_OPEN (R140 to R142): in RUN with no grant open and room in ACC, a grant with a full window opens to the
spur where it holds a record, else to the station whose outfeed holds the first record of the finish-order list, unless
the eye of that source has a blockage in progress. Nothing opens outside these, and nothing else changes.

DISPATCH_GRANT_OPEN (R149 to R152): in RUN with no grant open, a record in RET and no blockage at DS, the grant goes to
the lowest-lettered claimant that is NORMAL; with claimants and none of them NORMAL, every station is NORMAL first and it
goes to the lowest-lettered claimant. The winner is DEFERRED and the last target, the window full. Without a claimant, or
outside these, nothing changes. -/
def Obligations.DecisionsInRun : Prop :=
  (∀ s : Sys2Proof.Machine.State,
    ((s.unload.release ≠ none ∨ s.executor.loop ≠ .run ∨ (s.eyes.get .ul).blockage ≠ none ∨ s.lanes.unl = []) →
      exec .unloadReleaseOpen s = .next s)
    ∧ (s.unload.release = none → s.executor.loop = .run → (s.eyes.get .ul).blockage = none →
        ∀ n ∈ s.lanes.unl.head?, ∀ v ∈ s.record n,
          (((v.state = .clean ∧ v.load = []) ∨ v.state = .empty) →
            exec .unloadReleaseOpen s = .next (
              if s.lanes.ret.length < s.working.returnCap then
                { s with unload := { s.unload with release := some ⟨n, .toReturn⟩ } } else s))
          ∧ (v.state = .short →
            exec .unloadReleaseOpen s = .next (
              if s.lanes.spur.length < s.working.spurCap then
                { s with unload := { s.unload with release := some ⟨n, .toSpur⟩ } } else s))
          ∧ ((v.state = .rejected ∨ (v.state = .clean ∧ v.load ≠ [])) → exec .unloadReleaseOpen s = .next s)))
  ∧ (∀ s : Sys2Proof.Machine.State,
    let opened (src : MergeSource) : Sys2Proof.Machine.State :=
      if (s.eyes.get src.eye).blockage = none then
        { s with merge := some ⟨src, .timing s.working.mergeWindow, false⟩ } else s
    ((s.merge ≠ none ∨ s.executor.loop ≠ .run ∨ s.working.accumCap ≤ s.lanes.acc.length
        ∨ (s.lanes.spur = [] ∧ s.lanes.finishOrder = [])) →
      exec .mergeGrantOpen s = .next s)
    ∧ (s.merge = none → s.executor.loop = .run → s.lanes.acc.length < s.working.accumCap →
        (s.lanes.spur ≠ [] → exec .mergeGrantOpen s = .next (opened .spur))
        ∧ (s.lanes.spur = [] → ∀ n ∈ s.lanes.finishOrder.head?, ∀ x ∈ Station.all, n ∈ s.lanes.outfeed.get x →
            (∀ y ∈ Station.all, y ≠ x → n ∉ s.lanes.outfeed.get y) →
            exec .mergeGrantOpen s = .next (opened (.station x)))))
  ∧ (∀ s : Sys2Proof.Machine.State,
    let claims (x : Station) : Prop :=
      s.present (.station x) = true ∧ s.line.stationCode.get x = .want ∧ s.lanes.lp.get x = none
    let granted (classes : PerStation Bool) (x : Station) : Sys2Proof.Machine.State :=
      { s with dispatch := ⟨classes.set x true, some ⟨x, .timing s.working.dispatchWindow, none⟩, some x⟩ }
    ((s.dispatch.grant ≠ none ∨ s.executor.loop ≠ .run ∨ s.lanes.ret = [] ∨ (s.eyes.get .ds).blockage ≠ none
        ∨ ∀ x ∈ Station.all, ¬claims x) →
      exec .dispatchGrantOpen s = .next s)
    ∧ (s.dispatch.grant = none → s.executor.loop = .run → s.lanes.ret ≠ [] → (s.eyes.get .ds).blockage = none →
        ∀ x ∈ Station.all, claims x →
          (s.dispatch.deferred.get x = false →
            (∀ y ∈ Station.all, y.number < x.number → claims y → s.dispatch.deferred.get y = true) →
            exec .dispatchGrantOpen s = .next (granted s.dispatch.deferred x))
          ∧ ((∀ y ∈ Station.all, claims y → s.dispatch.deferred.get y = true) →
              (∀ y ∈ Station.all, y.number < x.number → ¬claims y) →
              exec .dispatchGrantOpen s = .next (granted ⟨false, false, false, false⟩ x))))

/-- MERGE_TIMEOUT and DISPATCH_TIMEOUT (R66, R145, R155): a TIMING window that runs out withdraws its grant, which is
recorded at its eye naming the head of the source or of RET, and the arbiter decides again; the target of a dispatch
grant stays DEFERRED until that decision. An ARRIVING window does not run out. No record moves and no hold is raised. THE
MODEL'S CHOICE (notes/assumptions/2.md): where there is no grant the rows change nothing.

The first rows of R147 and R157, expiry first: with *blocked* in the same millisecond, no grant to the same source stands
after it, and at DS no grant, with the classes and the last target of the grant that expired (that the next BLOCKED_EDGE
with no millisecond between is that event is THE MODEL'S CHOICE, notes/assumptions/27.md). -/
def Obligations.WindowsRunOut : Prop :=
  ∀ s : Sys2Proof.Machine.State,
    (∀ g ∈ s.merge, g.window ≠ .arriving →
      ∃ t, exec .mergeTimeout s = .next t
        ∧ t = { s with eyes := t.eyes, line := t.line, merge := t.merge }
        ∧ t.eyes.get g.source.eye =
            { s.eyes.get g.source.eye with anomaly := ⟨.mergeTimeout, s.lanes.sourceHeadOf g.source, true⟩ }
        ∧ (∀ d ∈ Eye.all, d ≠ g.source.eye → t.eyes.get d = s.eyes.get d)
        ∧ s.lineKept t ∧ (s.present .panel = true → t.attention .panel = true)
        ∧ t.mergeFresh ∧ exec .mergeGrantOpen t = .next t)
    ∧ ((∀ g ∈ s.merge, g.window = .arriving) → exec .mergeTimeout s = .next s)
    ∧ (∀ g ∈ s.dispatch.grant, g.window ≠ .arriving → ∃ t, exec .dispatchTimeout s = .next t
        ∧ t = { s with eyes := t.eyes, line := t.line, dispatch := t.dispatch }
        ∧ t.eyes.get .ds = { s.eyes.get .ds with anomaly := ⟨.dispatchTimeout, s.lanes.ret.head?, true⟩ }
        ∧ (∀ d ∈ Eye.all, d ≠ .ds → t.eyes.get d = s.eyes.get d)
        ∧ s.lineKept t ∧ (s.present .panel = true → t.attention .panel = true)
        ∧ (t.dispatch.grant = none → t.dispatch = { s.dispatch with grant := none })
        ∧ (∀ g ∈ t.dispatch.grant, t.inRun = true ∧ g.window = .timing s.working.dispatchWindow
            ∧ t.dispatch.deferred.get g.target = true ∧ t.dispatch.lastTarget = some g.target)
        ∧ exec .dispatchGrantOpen t = .next t)
    ∧ ((∀ g ∈ s.dispatch.grant, g.window = .arriving) → exec .dispatchTimeout s = .next s)
    ∧ (∀ g ∈ s.merge, g.window ≠ .arriving → (s.eyes.get g.source.eye).blocked = false →
        ∃ t, exec .mergeTimeout s = .next t ∧ ∃ u, exec (.blockedEdge g.source.eye) t = .next u
          ∧ (∀ f ∈ u.merge, f.source ≠ g.source) ∧ exec .mergeGrantOpen u = .next u)
    ∧ (∀ g ∈ s.dispatch.grant, g.window ≠ .arriving → (s.eyes.get .ds).blocked = false →
        ∃ t, exec .dispatchTimeout s = .next t ∧ ∃ u, exec (.blockedEdge .ds) t = .next u
          ∧ u.dispatch = { s.dispatch with grant := none } ∧ exec .dispatchGrantOpen u = .next u)

/-! ## The line -/

/-- FRAME_END (R178, R179, R188, R189): the next frame has the next number modulo 256 and the working FRAME_PERIOD, and
its 30 down slots show the state that stands when it begins: the frame number, the loop state and drain flag, the
attention marks, the permit map, the merge gate source, the dispatch target with the speed code, the zone occupancy map,
the message slots of the eight channels, and FFh. THE MODEL'S CHOICE (notes/assumptions/22.md): in the control octet of an
idle down message slot the bit E reads 0. -/
def Obligations.FrameEndShowsTheState : Prop :=
  ∀ (s : Sys2Proof.Machine.State) (slots : List Octet) (order : List FrameEvent),
    ∃ t, exec (.frameEnd slots order) s = .next t
      ∧ t.line.frame = (s.line.frame + 1) % 256 ∧ t.line.period = t.working.framePeriod
      ∧ t.line.previous = some ((List.range 30).map fun k => slots.getD k 0xFF)
      ∧ t.line.down.length = 30
      ∧ t.line.down.take 7 =
          [octet t.line.frame, octet (t.executor.loop.code + bitAt 3 t.executor.drain.isSome),
            octet (Node.all.map fun n => bitAt n.address (t.attention n)).sum,
            octet (bitAt 0 t.tunnel.permit + bitAt 1 (decide (t.executor.loop = .run))
              + bitAt 2 (decide (t.executor.loop = .run ∧ t.lanes.cells.head? = some none ∧ t.lanes.acc ≠ []
                  ∧ t.tunnel.admissionUsed = false))
              + bitAt 3 t.unload.release.isSome + bitAt 4 (decide (t.unload.diverter = .toSpur))),
            (match t.merge with
              | some ⟨.station x, _, _⟩ => octet x.number
              | some ⟨.spur, _, _⟩ => 5
              | none => 0),
            octet ((t.dispatch.grant.elim 0 fun g => g.target.number) + 16 * t.speedCode),
            octet (Zone.all.map fun z => bitAt z.number (t.zoneMark z)).sum]
      ∧ (∀ n ∈ Node.all,
          ((t.channel n).state = .sending →
            t.line.down[7 + 2 * n.address]? = some ((t.channel n).response.getD (t.channel n).index 0xFF)
            ∧ t.line.down[8 + 2 * n.address]? = some (octet (bitAt 6 (t.channel n).s
                + bitAt 5 (decide ((t.channel n).index + 1 = (t.channel n).response.length))
                + bitAt 4 (t.channel n).tk)))
          ∧ ((t.channel n).state ≠ .sending →
            t.line.down[7 + 2 * n.address]? = some 0xFF
            ∧ t.line.down[8 + 2 * n.address]? = some (octet (128 + bitAt 6 (t.channel n).s + bitAt 4 (t.channel n).tk
                + bitAt 3 (decide ((t.channel n).state = .discarding))))))
      ∧ (∀ k, 23 ≤ k → k < 30 → t.line.down[k]? = some 0xFF)

/-- Double look (R98, R99, R180, R183), in any order of the separate events: a slot's accepted value becomes the raw
value seen in this frame and in the one before, and is kept otherwise; the message slots of a node count as one pair.
While the tunnel node stays present each temperature and the pump map go to the heat credit as they are accepted. THE
MODEL'S CHOICE (notes/assumptions/30.md): the bits R179 does not examine are compared with the rest of their octet.

Presence and codes at a frame end (R181, R182, R187), in any order of the separate events. The idle-frame count rises
with an idle code slot, 8 at most, and returns to 0 with any other. An absent node becomes present exactly at the
acceptance of a value other than FFh, a present one absent exactly as its count reaches 8, its channel and mark then at
rest and its code the first. A present node takes an accepted code that is defined for its role and keeps its code
otherwise.

What accepted codes raise (R149, R150, R169, R170), in any order of the separate events, with no request arriving, no
command pending and no drain. In RUN, tunnel code OFF, HEATING or FAULT after READY: HOLD with TUNNEL_NOT_READY; drive code
OFF: HOLD with DRIVE_NOT_READY, which ends in HOLD at once. In every loop state, drive code FAULT or ESTOP that is a
change, or with which the drive node becomes present: STOP with DRIVE_FAULT. In RUN with no dispatch grant, a record in RET
and DS clear, a station that becomes a claimant brings a grant. -/
def Obligations.FrameEndAccepts : Prop :=
  (∀ (s : Sys2Proof.Machine.State) (slots : List Octet) (order : List FrameEvent),
    ∃ t, exec (.frameEnd slots order) s = .next t
      ∧ (∀ n ∈ Node.all,
          (t.line.nodes.get n).acceptedPair =
            (if ∃ b ∈ s.line.previous, messageSlots b n = messageSlots slots n then some (messageSlots slots n)
            else (s.line.nodes.get n).acceptedPair)
          ∧ ((s.present n = false ∨ t.present n = true) →
              (t.line.nodes.get n).acceptedCode =
                if ∃ b ∈ s.line.previous, codeSlot b n = codeSlot slots n then some (codeSlot slots n)
                else (s.line.nodes.get n).acceptedCode))
      ∧ (∀ z ∈ Zone.all,
          t.line.acceptedTemperature.get z =
            (if ∃ b ∈ s.line.previous, temperatureSlot b z = temperatureSlot slots z then
              some (temperatureSlot slots z) else s.line.acceptedTemperature.get z)
          ∧ (s.present .tunnel = true → t.present .tunnel = true →
              (t.line.acceptedTemperature.get z = s.line.acceptedTemperature.get z →
                (t.heat.zones.get z).raw = (s.heat.zones.get z).raw)
              ∧ (t.line.acceptedTemperature.get z ≠ s.line.acceptedTemperature.get z →
                (t.heat.zones.get z).raw = t.line.acceptedTemperature.get z))
          ∧ (s.present .tunnel = false → t.present .tunnel = true →
              ∀ v ∈ t.line.acceptedTemperature.get z, (t.heat.zones.get z).raw = some v))
      ∧ t.line.acceptedPump =
          (if ∃ b ∈ s.line.previous, pumpSlot b = pumpSlot slots then some (pumpSlot slots)
          else s.line.acceptedPump)
      ∧ (s.present .tunnel = true → t.present .tunnel = true → t.line.acceptedPump ≠ s.line.acceptedPump →
          ∀ z ∈ Zone.all, (t.heat.zones.get z).pump = (pumpSlot slots).getLsbD z.number))
  ∧ (∀ (s : Sys2Proof.Machine.State) (slots : List Octet) (order : List FrameEvent),
    let accepts (n : Node) : Prop :=
      (∃ b ∈ s.line.previous, codeSlot b n = codeSlot slots n)
        ∧ (s.line.nodes.get n).acceptedCode ≠ some (codeSlot slots n)
    ∃ t, exec (.frameEnd slots order) s = .next t
      ∧ (∀ n ∈ Node.all,
          (t.line.nodes.get n).idleFrames =
            (if codeSlot slots n = 0xFF then min 8 ((s.line.nodes.get n).idleFrames + 1) else 0)
          ∧ (s.present n = false → (t.present n = true ↔ accepts n ∧ codeSlot slots n ≠ 0xFF))
          ∧ (s.present n = true → (t.present n = false ↔ (t.line.nodes.get n).idleFrames = 8))
          ∧ (s.present n = true → t.present n = false →
              t.channel n = Channel.reset ∧ t.attention n = false ∧ t.line.atFirstCode n = true))
      ∧ (t.present .tunnel = true → t.line.tunnelCode =
          if accepts .tunnel then
            (tunnelCodeOf (codeSlot slots .tunnel)).getD
              (if s.present .tunnel then s.line.tunnelCode else .off)
          else s.line.tunnelCode)
      ∧ (t.present .drive = true → t.line.driveCode =
          if accepts .drive then
            (driveCodeOf (codeSlot slots .drive)).getD (if s.present .drive then s.line.driveCode else .off)
          else s.line.driveCode)
      ∧ (∀ x : Station, t.present (.station x) = true → t.line.stationCode.get x =
          if accepts (.station x) then
            (stationCodeOfOctet (codeSlot slots (.station x))).getD
              (if s.present (.station x) then s.line.stationCode.get x else .idle)
          else s.line.stationCode.get x))
  ∧ (∀ (s : Sys2Proof.Machine.State) (slots : List Octet) (order : List FrameEvent),
    s.nonePending → s.executor.drain = none → s.noRequestAt slots →
    (s.inRun = true → s.codeQuiet slots .drive → s.codeAccepted slots .tunnel → s.present .tunnel = true →
      s.line.tunnelCode = .ready → codeSlot slots .tunnel ∈ [(0x00 : Octet), 0x01, 0x03] →
      ∃ t, exec (.frameEnd slots order) s = .next t ∧ s.heldBy t .tunnelNotReady ∧ t.permissionsWithdrawn
        ∧ (s.present .panel = true → t.present .panel = true → t.attention .panel = true))
    ∧ (s.inRun = true → s.codeQuiet slots .tunnel → s.codeAccepted slots .drive → s.present .drive = true →
      s.line.driveCode ≠ .off → codeSlot slots .drive = 0x00 →
      ∃ t, exec (.frameEnd slots order) s = .next t ∧ t.executor.loop = .hold ∧ t.permissionsWithdrawn
        ∧ t.executor.holdCauses = { s.executor.holdCauses with driveNotReady := true }
        ∧ t.executor.outcomes.hold = ⟨.done, some .internal, none⟩ ∧ s.outcomesKept t [.hold]
        ∧ t.executor.settleTimer = none ∧ t.nonePending)
    ∧ (s.codeQuiet slots .tunnel → s.codeAccepted slots .drive →
      (∀ c, (c = DriveCode.fault ∧ codeSlot slots .drive = 0x03 ∨ c = .estop ∧ codeSlot slots .drive = 0x04) →
        (s.present .drive = true → s.line.driveCode ≠ c) →
        ∃ t, exec (.frameEnd slots order) s = .next t ∧ s.stopTaken t .internal
          ∧ t.executor.stopCauses = { s.executor.stopCauses with driveFault := true }
          ∧ (s.inRun = true → t.permissionsWithdrawn)))
    ∧ (s.inRun = true → s.codeQuiet slots .tunnel → s.codeQuiet slots .drive → s.dispatch.grant = none →
      s.lanes.ret ≠ [] → (s.eyes.get .ds).blockage = none →
      ∀ x : Station, s.codeAccepted slots (.station x) → codeSlot slots (.station x) = 0x01 → s.lanes.lp.get x = none →
        (s.present (.station x) = true → s.line.stationCode.get x ≠ .want) →
        ∃ t, exec (.frameEnd slots order) s = .next t ∧ ∃ g ∈ t.dispatch.grant,
          g.window = .timing s.working.dispatchWindow ∧ t.dispatch.lastTarget = some g.target
          ∧ t.dispatch.deferred.get g.target = true ∧ s.lanes.lp.get g.target = none
          ∧ ((∀ y : Station, y ≠ x → ¬s.codeAccepted slots (.station y)
                ∧ (s.present (.station y) = true → s.line.stationCode.get y ≠ .want)) → g.target = x)))

/-- A message channel at a frame end (R180, R184 to R186).

The acceptance of a pair at a channel. An octet with V present is taken in IDLE where the gap mark is set or its S is new,
in RECEIVING where its S is new; with E set the request, this octet with those before it, is served at once and the
channel sends the answer from its first octet. Any other octet is not taken; the 33rd makes the channel discard. V absent
sets the gap mark: in IDLE and SENDING nothing else, in RECEIVING it aborts the request, in DISCARDING it ends the
discard. A new TK in SENDING acknowledges the octet shown.

FRAME_END treats so the channel of a node that is present, where it accepts the node's pair and nothing else, in every
order of its separate events and with the channel's count below 63: apart from the line the state is that of the
acceptance, and so are the attention marks and that channel, but for its count of frames, which is 0 where the next octet
is awaited or shown. A frame end that accepts no pair of the node counts one frame in RECEIVING and SENDING; the 64th
discards the request or drops the response. The mark moved is the model's own (notes/assumptions/11.md), as is the count
left at 64 (notes/assumptions/4.md). -/
def Obligations.ChannelFollowsTheToggles : Prop :=
  (∀ (s : Sys2Proof.Machine.State) (n : Node) (o w : Octet),
    let c := s.channel n
    let t := s.acceptPair n (o, w)
    let takes : Prop := c.octetTaken w
    let one : Channel := { c with
      state := .receiving, request := c.request ++ [o], refS := controlS w, gap := false, tk := !c.tk, frames := 0
      moved := true }
    (takes → controlE w = false → t = s.setChannel n one)
    ∧ (takes → controlE w = true →
        let v := (s.setChannel n one).serveMessage n (c.request ++ [o])
        2 ≤ v.octets.length ∧ v.octets.head? = (c.request ++ [o]).head?
        ∧ t = ({ v.state with answer := some ⟨n, v.octets⟩ }).setChannel n { one with
            state := .sending, request := [], response := v.octets, index := 0, s := !c.s, refTK := controlTK w })
    ∧ (c.state = .idle → controlV w = true → ¬takes → t = s)
    ∧ (c.state = .idle → controlV w = false → t = s.setChannel n { c with gap := true })
    ∧ (c.state = .receiving → controlV w = true → controlS w ≠ c.refS → 32 ≤ c.request.length →
        t = s.setChannel n { c with state := .discarding, request := [] })
    ∧ (c.state = .receiving → controlV w = true → controlS w = c.refS → t = s)
    ∧ (c.state = .receiving → controlV w = false →
        t = s.setChannel n { c with state := .idle, request := [], gap := true })
    ∧ (c.state = .discarding → controlV w = true → t = s)
    ∧ (c.state = .discarding → controlV w = false → t = s.setChannel n { c with state := .idle, gap := true })
    ∧ (c.state = .sending →
        let marked : Channel := { c with gap := c.gap || !controlV w }
        t = s.setChannel n (
          if controlTK w = c.refTK then marked
          else if c.index + 1 < c.response.length then
            { marked with index := c.index + 1, s := !c.s, refTK := controlTK w, frames := 0, moved := true }
          else { marked with state := .idle, response := [], index := 0, moved := true })))
  ∧ (∀ (s : Sys2Proof.Machine.State) (slots : List Octet) (order : List FrameEvent) (n : Node),
    s.present n = true → s.pairAccepted slots n → s.onlyPairAt slots n → (s.channel n).frames < 63 →
    (s.channel n).moved = false →
    let c := s.channel n
    let u := s.acceptPair n (messageSlots slots n)
    ∃ t, exec (.frameEnd slots order) s = .next t
      ∧ t = { u with line := t.line } ∧ (∀ m ∈ Node.all, t.attention m = u.attention m ∧ t.present m = s.present m)
      ∧ t.channel n = { u.channel n with moved := false, frames := (t.channel n).frames }
      ∧ ((u.channel n).moved = true → ((u.channel n).state = .receiving ∨ (u.channel n).state = .sending) →
          (t.channel n).frames = 0)
      ∧ ((u.channel n).moved = false → ((u.channel n).state = .receiving ∨ (u.channel n).state = .sending) →
          (t.channel n).frames = c.frames + 1))
  ∧ (∀ (s : Sys2Proof.Machine.State) (slots : List Octet) (order : List FrameEvent) (n : Node),
    s.present n = true → s.idleBelowLimit slots n → ¬s.pairAccepted slots n → (s.channel n).moved = false →
    let c := s.channel n
    ∃ t, exec (.frameEnd slots order) s = .next t
      ∧ ((c.state = .idle ∨ c.state = .discarding) → t.channel n = c)
      ∧ ((c.state = .receiving ∨ c.state = .sending) → c.frames < 63 →
          t.channel n = { c with frames := c.frames + 1 })
      ∧ (c.state = .receiving → 63 ≤ c.frames →
          t.channel n = { c with state := .discarding, request := [], frames := 64 })
      ∧ (c.state = .sending → 63 ≤ c.frames →
          t.channel n = { c with state := .idle, response := [], index := 0, frames := 64 }))

/-- NODE_ABSENT (R100, R169, R170, R181, R183, R187), with no command pending and no drain: the node is absent, its code
its role's first, its channel and its mark at rest. With the tunnel node every zone is NO_DATA with its pump off and its
reseed mark set, the filter kept, and in STARTING and RUN HOLD is raised with TUNNEL_ABSENT; with the drive node STOP is
raised with DRIVE_ABSENT. THE MODEL'S CHOICE: the idle-frame count stands at 8 and FFh as the accepted code
(notes/assumptions/16.md), and of a node already absent the row changes nothing (notes/assumptions/2.md).

REQUEST_TIMEOUT and RESPONSE_DROP (R185, R186): in RECEIVING the request is discarded and the channel discards; in SENDING
the response is dropped and the channel is IDLE. No other channel and no other part of the state changes. THE MODEL'S
CHOICE: the row is the 64th frame whatever the count was, and leaves it at 64 (notes/assumptions/4.md); in the other
channel states it changes nothing (notes/assumptions/2.md). -/
def Obligations.NodeAbsenceIsHandedOn : Prop :=
  (∀ (s : Sys2Proof.Machine.State) (n : Node), s.nonePending → s.executor.drain = none →
    (s.present n = false → exec (.nodeAbsent n) s = .next s)
    ∧ (s.present n = true → ∃ t, exec (.nodeAbsent n) s = .next t
        ∧ t.line.nodes.get n = { s.line.nodes.get n with
            present := false, idleFrames := 8, acceptedCode := some 0xFF, channel := Channel.reset
            attention := false }
        ∧ (∀ m ∈ Node.all, m ≠ n →
            t.line.nodes.get m = { s.line.nodes.get m with attention := t.attention m })
        ∧ t.line.atFirstCode n = true
        ∧ (n ≠ .tunnel → t.heat = s.heat ∧ t.line.tunnelCode = s.line.tunnelCode)
        ∧ (n ≠ .drive → t.line.driveCode = s.line.driveCode)
        ∧ (n = .tunnel → t.heat.sampleTimer = s.heat.sampleTimer ∧ (∀ z ∈ Zone.all,
              t.heat.zones.get z = { s.heat.zones.get z with raw := none, pump := false, reseed := true })
            ∧ ((s.executor.loop = .run ∨ s.executor.loop.isBusy = true ∧ ∀ i, s.executor.loop ≠ .holding i) →
                s.heldBy t .tunnelAbsent ∧ s.permissionsLeft t)
            ∧ (s.executor.loop ≠ .run → (∀ o i, s.executor.loop ≠ .starting o i) →
                t.executor = s.executor ∧ s.permissionsKept t))
        ∧ (n = .drive → s.stopTaken t .internal ∧ s.permissionsLeft t
            ∧ t.executor.stopCauses = { s.executor.stopCauses with driveAbsent := true })
        ∧ (n ≠ .tunnel → n ≠ .drive → t.executor = s.executor ∧ s.permissionsKept t)
        ∧ s.racksKept t ∧ t.eyes = s.eyes ∧ t.estop = s.estop ∧ s.settingsKept t
        ∧ t.tunnel.pitch = s.tunnel.pitch ∧ t.tunnel.admissionUsed = s.tunnel.admissionUsed))
  ∧ (∀ (s : Sys2Proof.Machine.State) (n : Node),
    let becomes (c : Channel) : Sys2Proof.Machine.State :=
      { s with line := { s.line with nodes := s.line.nodes.set n { s.line.nodes.get n with channel := c } } }
    ((s.channel n).state = .receiving →
      exec (.requestTimeout n) s = .next (becomes { s.channel n with
        state := .discarding, request := [], frames := 64 }))
    ∧ ((s.channel n).state ≠ .receiving → exec (.requestTimeout n) s = .next s)
    ∧ ((s.channel n).state = .sending →
        exec (.responseDrop n) s = .next (becomes { s.channel n with
          state := .idle, response := [], index := 0, frames := 64 }))
    ∧ ((s.channel n).state ≠ .sending → exec (.responseDrop n) s = .next s))

/-! ## What commands leave as it was -/

/-- Settings (R28, R174, R201): apart from a hardware reset and a frame end, which may carry any request, only SET changes
a stored value, and a working value changes only to the stored one, by a COMMIT whose outcome then reads DONE. -/
def Obligations.OnlySetAndCommitChangeSettings : Prop :=
  ∀ (s t : Sys2Proof.Machine.State) (c : Instr), exec c s = .next t →
    c ≠ .hardwareReset → (∀ slots order, c ≠ .frameEnd slots order) →
    ((∀ n p i v, c ≠ .set n p i v) → t.stored = s.stored ∧ t.single = s.single)
    ∧ (t.working = s.working ∨ (t.working = s.stored ∧ t.executor.outcomes.commit.kind = .done))

/-- Inputs, line and answer (R44, R51, R74, R81, R97, R180): each changes only by the events of its own. -/
def Obligations.InputsChangeByTheirOwnEvents : Prop :=
  ∀ (s t : Sys2Proof.Machine.State) (c : Instr), exec c s = .next t →
    (match c with
      | .creditSample | .frameEnd _ _ | .nodeAbsent _ | .hardwareReset => True
      | _ => t.heat = s.heat)
    ∧ (match c with
      | .encoderCount | .step | .hardwareReset => True
      | _ => t.tunnel.pitch = s.tunnel.pitch)
    ∧ (match c with
      | .encoderCount | .step | .clearEdge _ | .eyeSample _ _ _ | .hardwareReset => True
      | _ => t.tunnel.admissionUsed = s.tunnel.admissionUsed)
    ∧ (match c with
      | .estopActive | .estopReleased | .eyeSample _ _ _ | .hardwareReset => True
      | _ => t.estop = s.estop)
    ∧ (match c with
      | .blockedEdge _ | .clearEdge _ | .jam _ | .eyeSample _ _ _ | .hardwareReset => True
      | _ => ∀ e ∈ Eye.all, t.eyes.get e = { s.eyes.get e with anomaly := (t.eyes.get e).anomaly })
    ∧ (match c with
      | .frameEnd _ _ | .requestTimeout _ | .responseDrop _ | .nodeAbsent _ | .hardwareReset => True
      | _ => s.lineKept t)
    ∧ (match c with
      | .frameEnd _ _ | .hardwareReset => True
      | _ => c.request = none → t.answer = s.answer)

/-- Records and places (R29, R44): with no COMMIT pending, no record and no place changes at a request that only reads,
at SET, at a line command other than COMMIT, at an event of the executor, of the ESTOP input, of the owners of
permissions, at a jam, a stall or a channel's timeout, or at the absence of a node.

FRAME_END with no request arriving (R180), in any order of its separate events, with no COMMIT pending: no record, place,
trackpoint or setting changes, nor the inputs, but for what the tunnel node sends of its zones; the answer stays. Where
neither the tunnel node's nor the drive node's code or presence changes, the executor and every permission stay as they
were, but that a station's code may bring a dispatch grant. -/
def Obligations.RacksStayUnderOtherCommands : Prop :=
  (∀ (s t : Sys2Proof.Machine.State) (c : Instr), exec c s = .next t → s.executor.vector.commit = none →
    (match c with
      | .status _ | .readRack _ _ | .readLane _ _ _ | .set _ _ _ _ | .get _ _ _ | .stop _ | .clear _ | .setup _
      | .hold _ | .drain _ | .run _ | .startingComplete | .holdingEnd | .heatTimerExpiry | .settleTimerExpiry
      | .drainComplete | .unloadReleaseOpen | .mergeGrantOpen | .dispatchGrantOpen | .mergeTimeout
      | .dispatchTimeout | .jam _ | .estopActive | .estopReleased | .tunnelStall | .requestTimeout _
      | .responseDrop _ | .nodeAbsent _ => s.racksKept t
      | _ => True))
  ∧ (∀ (s : Sys2Proof.Machine.State) (slots : List Octet) (order : List FrameEvent),
    s.noRequestAt slots → s.executor.vector.commit = none → ∃ t, exec (.frameEnd slots order) s = .next t
      ∧ s.racksKept t ∧ t.eyes = s.eyes ∧ t.estop = s.estop ∧ s.settingsKept t ∧ t.answer = s.answer
      ∧ t.tunnel.pitch = s.tunnel.pitch ∧ t.tunnel.admissionUsed = s.tunnel.admissionUsed
      ∧ t.unload.diverter = s.unload.diverter ∧ t.heat.sampleTimer = s.heat.sampleTimer
      ∧ (∀ z ∈ Zone.all, (t.heat.zones.get z).filter = (s.heat.zones.get z).filter
          ∧ (t.heat.zones.get z).effective = (s.heat.zones.get z).effective)
      ∧ (s.codeQuiet slots .tunnel → s.codeQuiet slots .drive →
          s.executorKept t ∧ t.tunnel = s.tunnel ∧ t.unload = s.unload ∧ t.merge = s.merge
          ∧ ((∀ x : Station, s.codeQuiet slots (.station x)) → t.dispatch = s.dispatch)))

/-! ## Invariants of every step -/

/-- The state after reset meets the invariants below. -/
def Obligations.ResetMeetsTheInvariants : Prop :=
  Sys2Proof.Machine.State.reset.placed ∧ Sys2Proof.Machine.State.reset.lanes.finishOrdered
    ∧ Sys2Proof.Machine.State.reset.lanes.within Sys2Proof.Machine.State.reset.working
    ∧ Sys2Proof.Machine.State.reset.statesMatchPlaces ∧ Sys2Proof.Machine.State.reset.settingsInRange
    ∧ Sys2Proof.Machine.State.reset.recordsSound ∧ Sys2Proof.Machine.State.reset.heatInRange
    ∧ Sys2Proof.Machine.State.reset.permissionsOnlyInRun ∧ Sys2Proof.Machine.State.reset.permitFollows
    ∧ Sys2Proof.Machine.State.reset.runIsSafe ∧ Sys2Proof.Machine.State.reset.absentQuiet
    ∧ (∀ e ∈ Eye.all, (Sys2Proof.Machine.State.reset.eyes.get e).sound)
    ∧ (∀ n ∈ Node.all, (Sys2Proof.Machine.State.reset.channel n).sound)

/-- Every allocated record stays in exactly one place, once, with no free number in any (R29), and the finish-order list
stays the records of the outfeeds, once each, in the order each outfeed has them (R35). -/
def Obligations.RacksStayPlacedAtEveryStep : Prop :=
  ∀ s t : Sys2Proof.Machine.State, s.placed → s.lanes.finishOrdered → step s = .next t →
    t.placed ∧ t.lanes.finishOrdered

/-- No place comes to hold more than its working capacity, and the tunnel keeps its working number of cells (R27), while
every setting keeps to its range (R201, R202). -/
def Obligations.CapacitiesHoldAtEveryStep : Prop :=
  ∀ s t : Sys2Proof.Machine.State, s.settingsInRange → s.lanes.within s.working → step s = .next t →
    t.settingsInRange ∧ t.lanes.within t.working

/-- Every record keeps to a state its place admits (R10, R13, R32), and holds verdict reasons only as SHORT or REJECTED
(R9). -/
def Obligations.StatesMatchPlacesAtEveryStep : Prop :=
  ∀ s t : Sys2Proof.Machine.State, s.placed → s.lanes.finishOrdered → s.statesMatchPlaces → step s = .next t →
    t.statesMatchPlaces

/-- Every filter stays between 0 and 4064 and every effective temperature between 0 and 254 (R107). Filters start at 0; at
a credit sample seeding gives 16 times the raw value, a step goes toward it without passing it, holding keeps the filter,
and the effective temperature is worked out from the filter. -/
def Obligations.HeatStaysInRangeAtEveryStep : Prop :=
  (∀ z ∈ Zone.all, (Sys2Proof.Machine.State.reset.heat.zones.get z).filter = 0
      ∧ (Sys2Proof.Machine.State.reset.heat.zones.get z).effective = 0)
  ∧ (∀ s t : Sys2Proof.Machine.State, s.heatInRange → step s = .next t → t.heatInRange)
  ∧ (∀ s : Sys2Proof.Machine.State, ∃ t, exec .creditSample s = .next t ∧ ∀ z ∈ Zone.all,
      let old : ZoneInput := s.heat.zones.get z
      let new : ZoneInput := t.heat.zones.get z
      (∀ v ∈ old.raw, v ≠ 0xFF →
        (old.reseed = true → new.filter = 16 * v.toNat)
        ∧ (old.reseed = false → min old.filter (16 * v.toNat) ≤ new.filter
            ∧ new.filter ≤ max old.filter (16 * v.toNat)))
      ∧ ((old.raw = none ∨ old.raw = some 0xFF) → new.filter = old.filter)
      ∧ new.effective = (new.filter + 8) / 16)

/-- Every record keeps to the ranges of its fields (R5): a list of at most 8 entries, each well formed and of a class no
higher than the class ceiling (R15, R16), saturated counts, a rinse minimum that is a temperature code and present once
there has been a rinse sample (R112). -/
def Obligations.RecordsStaySoundAtEveryStep : Prop :=
  ∀ s t : Sys2Proof.Machine.State, s.heatInRange → s.recordsSound → step s = .next t → t.recordsSound

/-- Outside RUN no permission stands, and the stall timer runs only under the permit; the permit is on exactly in RUN
without back-pressure (R90, R92, R166).

While the loop is in RUN the drive node is present with a code other than FAULT and ESTOP, and ESTOP is released
(R166, R170). -/
def Obligations.PermissionsAndRunStaySafeAtEveryStep : Prop :=
  (∀ s t : Sys2Proof.Machine.State, s.permissionsOnlyInRun → s.permitFollows → step s = .next t →
    t.permissionsOnlyInRun ∧ t.permitFollows)
  ∧ (∀ s t : Sys2Proof.Machine.State, s.runIsSafe → step s = .next t → t.runIsSafe)

/-- An absent node keeps its role's first code, a channel at rest and a clear mark (R181, R184, R189).

A trackpoint's level is BLOCKED exactly during a blockage, its jam timer runs exactly during one with no jam declared,
and its length is at most 65535 (R51, R55, R56, R57, R60). -/
def Obligations.NodesAndTrackpointsStaySoundAtEveryStep : Prop :=
  (∀ s t : Sys2Proof.Machine.State, s.absentQuiet → step s = .next t → t.absentQuiet)
  ∧ (∀ s t : Sys2Proof.Machine.State, (∀ e ∈ Eye.all, (s.eyes.get e).sound) → step s = .next t →
    ∀ e ∈ Eye.all, (t.eyes.get e).sound)

/-- Every message channel keeps to its buffers of 32 and 48 octets, shows an octet of its response exactly while SENDING
and counts at most 64 frames (R184 to R186, R191). -/
def Obligations.ChannelsStaySoundAtEveryStep : Prop :=
  ∀ s t : Sys2Proof.Machine.State, s.recordsSound → (∀ n ∈ Node.all, (s.channel n).sound) → step s = .next t →
    ∀ n ∈ Node.all, (t.channel n).sound

/-- A record becomes CLEAN only at its tunnel-exit verdict, and then only with the credit of its class, at least one
rinse sample, no rinse below the floor and no sensor fault (R116). Where records are sound (R5, R112) it has a rinse
minimum, which is at or above RINSE_FLOOR. -/
def Obligations.CleanOnlyByTheVerdict : Prop :=
  ∀ (s t : Sys2Proof.Machine.State) (n : RecNo) (w : Record), step s = .next t → t.record n = some w →
    w.state = .clean → (∀ v ∈ s.record n, v.state ≠ .clean) →
    (s.pending.head? = some .step ∨ s.pending.head? = some .encoderCount)
      ∧ s.lanes.lastCell = some n ∧ s.working.classTarget.get w.ceiling ≤ w.credit ∧ w.rinseSamples ≠ 0
      ∧ (∀ k ∈ w.rinseMin, s.working.rinseFloor ≤ k) ∧ w.sensorFault = false
      ∧ (s.recordsSound → ∃ k ∈ w.rinseMin, s.working.rinseFloor ≤ k)
end

