-- ==== Sys2Proof/Laws/State.lean ====
section
/-! SUPPORT. The small lemmas of State: reading after writing the tables by station, zone, trackpoint, node and command,
and one lemma per field per update, so that no later proof unfolds a record update. -/

namespace Sys2Proof.Machine

/-! ## Tables -/

@[simp] theorem PerStation.get_const {α : Type} (y : α) (x : Station) : (PerStation.const y).get x = y := by
  cases x <;> rfl

@[simp] theorem PerStation.get_set {α : Type} (v : PerStation α) (x z : Station) (y : α) :
    (v.set x y).get z = if z = x then y else v.get z := by
  cases x <;> cases z <;> rfl

@[simp] theorem PerStation.set_get {α : Type} (v : PerStation α) (x : Station) : v.set x (v.get x) = v := by
  cases x <;> rfl

theorem PerStation.ext_get {α : Type} {v w : PerStation α} (h : ∀ x, v.get x = w.get x) : v = w := by
  cases v
  cases w
  have a := h .a
  have b := h .b
  have c := h .c
  have d := h .d
  simp only [PerStation.get] at a b c d
  simp [a, b, c, d]

@[simp] theorem PerZone.get_const {α : Type} (y : α) (x : Zone) : (PerZone.const y).get x = y := by
  cases x <;> rfl

@[simp] theorem PerZone.get_set {α : Type} (v : PerZone α) (x z : Zone) (y : α) :
    (v.set x y).get z = if z = x then y else v.get z := by
  cases x <;> cases z <;> rfl

@[simp] theorem PerZone.get_map {α β : Type} (f : α → β) (v : PerZone α) (z : Zone) :
    (v.map f).get z = f (v.get z) := by
  cases z <;> rfl

@[simp] theorem PerEye.get_rollerChain {α : Type} (y : α) (e : Eye) : (PerEye.rollerChain y y).get e = y := by
  rcases e with ⟨⟨⟩⟩ | _ | _ | _ | _ | _ <;> rfl

@[simp] theorem PerEye.get_set {α : Type} (v : PerEye α) (e z : Eye) (y : α) :
    (v.set e y).get z = if z = e then y else v.get z := by
  rcases e with ⟨⟨⟩⟩ | _ | _ | _ | _ | _ <;> rcases z with ⟨⟨⟩⟩ | _ | _ | _ | _ | _ <;> rfl

@[simp] theorem PerEye.get_map {α β : Type} (f : α → β) (v : PerEye α) (e : Eye) :
    (v.map f).get e = f (v.get e) := by
  rcases e with ⟨⟨⟩⟩ | _ | _ | _ | _ | _ <;> rfl

theorem PerEye.ext_get {α : Type} {v w : PerEye α} (h : ∀ e, v.get e = w.get e) : v = w := by
  cases v
  cases w
  have h1 := h (.outfeed .a)
  have h2 := h (.outfeed .b)
  have h3 := h (.outfeed .c)
  have h4 := h (.outfeed .d)
  have h5 := h .sp
  have h6 := h .en
  have h7 := h .ex
  have h8 := h .ul
  have h9 := h .ds
  simp only [PerEye.get] at h1 h2 h3 h4 h5 h6 h7 h8 h9
  simp [h1, h2, h3, h4, h5, h6, h7, h8, h9]

@[simp] theorem PerNode.get_const {α : Type} (y : α) (n : Node) : (PerNode.const y).get n = y := by
  rcases n with _ | _ | _ | _ | ⟨⟨⟩⟩ <;> rfl

@[simp] theorem PerNode.get_set {α : Type} (v : PerNode α) (n m : Node) (y : α) :
    (v.set n y).get m = if m = n then y else v.get m := by
  rcases n with _ | _ | _ | _ | ⟨⟨⟩⟩ <;> rcases m with _ | _ | _ | _ | ⟨⟨⟩⟩ <;> rfl

@[simp] theorem PerNode.get_map {α β : Type} (f : α → β) (v : PerNode α) (n : Node) :
    (v.map f).get n = f (v.get n) := by
  rcases n with _ | _ | _ | _ | ⟨⟨⟩⟩ <;> rfl

theorem PerNode.ext_get {α : Type} {v w : PerNode α} (h : ∀ n, v.get n = w.get n) : v = w := by
  cases v
  cases w
  have h1 := h .panel
  have h2 := h .tunnel
  have h3 := h .drive
  have h4 := h .unload
  have h5 := h (.station .a)
  have h6 := h (.station .b)
  have h7 := h (.station .c)
  have h8 := h (.station .d)
  simp only [PerNode.get] at h1 h2 h3 h4 h5 h6 h7 h8
  simp [h1, h2, h3, h4, h5, h6, h7, h8]

@[simp] theorem PerCommand.get_const {α : Type} (y : α) (c : LineCommand) : (PerCommand.const y).get c = y := by
  cases c <;> rfl

@[simp] theorem PerCommand.get_set {α : Type} (v : PerCommand α) (c d : LineCommand) (y : α) :
    (v.set c y).get d = if d = c then y else v.get d := by
  cases c <;> cases d <;> rfl

theorem PerCommand.ext_get {α : Type} {v w : PerCommand α} (h : ∀ c, v.get c = w.get c) : v = w := by
  cases v
  cases w
  have h1 := h .stop
  have h2 := h .clear
  have h3 := h .setup
  have h4 := h .commit
  have h5 := h .hold
  have h6 := h .drain
  have h7 := h .run
  simp only [PerCommand.get] at h1 h2 h3 h4 h5 h6 h7
  simp [h1, h2, h3, h4, h5, h6, h7]

theorem Station.mem_all (x : Station) : x ∈ Station.all := by cases x <;> decide

theorem Zone.mem_all (z : Zone) : z ∈ Zone.all := by cases z <;> decide

theorem Eye.mem_all (e : Eye) : e ∈ Eye.all := by rcases e with ⟨⟨⟩⟩ | _ | _ | _ | _ | _ <;> decide

theorem Node.mem_all (n : Node) : n ∈ Node.all := by rcases n with _ | _ | _ | _ | ⟨⟨⟩⟩ <;> decide

theorem LineCommand.mem_all (c : LineCommand) : c ∈ LineCommand.all := by cases c <;> decide

/-! ## Fields of the updates -/

@[simp] theorem State.withLanes_slots (s : State) (l : Lanes) : (s.withLanes l).slots = s.slots := rfl
@[simp] theorem State.withLanes_lanes (s : State) (l : Lanes) : (s.withLanes l).lanes = l := rfl
@[simp] theorem State.withLanes_eyes (s : State) (l : Lanes) : (s.withLanes l).eyes = s.eyes := rfl
@[simp] theorem State.withLanes_estop (s : State) (l : Lanes) : (s.withLanes l).estop = s.estop := rfl
@[simp] theorem State.withLanes_tunnel (s : State) (l : Lanes) : (s.withLanes l).tunnel = s.tunnel := rfl
@[simp] theorem State.withLanes_heat (s : State) (l : Lanes) : (s.withLanes l).heat = s.heat := rfl
@[simp] theorem State.withLanes_unload (s : State) (l : Lanes) : (s.withLanes l).unload = s.unload := rfl
@[simp] theorem State.withLanes_merge (s : State) (l : Lanes) : (s.withLanes l).merge = s.merge := rfl
@[simp] theorem State.withLanes_dispatch (s : State) (l : Lanes) : (s.withLanes l).dispatch = s.dispatch := rfl
@[simp] theorem State.withLanes_executor (s : State) (l : Lanes) : (s.withLanes l).executor = s.executor := rfl
@[simp] theorem State.withLanes_line (s : State) (l : Lanes) : (s.withLanes l).line = s.line := rfl
@[simp] theorem State.withLanes_stored (s : State) (l : Lanes) : (s.withLanes l).stored = s.stored := rfl
@[simp] theorem State.withLanes_working (s : State) (l : Lanes) : (s.withLanes l).working = s.working := rfl
@[simp] theorem State.withLanes_single (s : State) (l : Lanes) : (s.withLanes l).single = s.single := rfl
@[simp] theorem State.withLanes_answer (s : State) (l : Lanes) : (s.withLanes l).answer = s.answer := rfl
@[simp] theorem State.withLanes_draws (s : State) (l : Lanes) : (s.withLanes l).draws = s.draws := rfl
@[simp] theorem State.withLanes_pending (s : State) (l : Lanes) : (s.withLanes l).pending = s.pending := rfl

@[simp] theorem State.setSlot_lanes (s : State) (n : RecNo) (r : Option Record) : (s.setSlot n r).lanes = s.lanes := rfl
@[simp] theorem State.setSlot_eyes (s : State) (n : RecNo) (r : Option Record) : (s.setSlot n r).eyes = s.eyes := rfl
@[simp] theorem State.setSlot_estop (s : State) (n : RecNo) (r : Option Record) : (s.setSlot n r).estop = s.estop := rfl
@[simp] theorem State.setSlot_tunnel (s : State) (n : RecNo) (r : Option Record) : (s.setSlot n r).tunnel = s.tunnel := rfl
@[simp] theorem State.setSlot_heat (s : State) (n : RecNo) (r : Option Record) : (s.setSlot n r).heat = s.heat := rfl
@[simp] theorem State.setSlot_unload (s : State) (n : RecNo) (r : Option Record) : (s.setSlot n r).unload = s.unload := rfl
@[simp] theorem State.setSlot_merge (s : State) (n : RecNo) (r : Option Record) : (s.setSlot n r).merge = s.merge := rfl
@[simp] theorem State.setSlot_dispatch (s : State) (n : RecNo) (r : Option Record) : (s.setSlot n r).dispatch = s.dispatch := rfl
@[simp] theorem State.setSlot_executor (s : State) (n : RecNo) (r : Option Record) : (s.setSlot n r).executor = s.executor := rfl
@[simp] theorem State.setSlot_line (s : State) (n : RecNo) (r : Option Record) : (s.setSlot n r).line = s.line := rfl
@[simp] theorem State.setSlot_stored (s : State) (n : RecNo) (r : Option Record) : (s.setSlot n r).stored = s.stored := rfl
@[simp] theorem State.setSlot_working (s : State) (n : RecNo) (r : Option Record) : (s.setSlot n r).working = s.working := rfl
@[simp] theorem State.setSlot_single (s : State) (n : RecNo) (r : Option Record) : (s.setSlot n r).single = s.single := rfl
@[simp] theorem State.setSlot_answer (s : State) (n : RecNo) (r : Option Record) : (s.setSlot n r).answer = s.answer := rfl
@[simp] theorem State.setSlot_draws (s : State) (n : RecNo) (r : Option Record) : (s.setSlot n r).draws = s.draws := rfl
@[simp] theorem State.setSlot_pending (s : State) (n : RecNo) (r : Option Record) : (s.setSlot n r).pending = s.pending := rfl

@[simp] theorem State.setNode_slots (s : State) (n : Node) (v : NodeLine) : (s.setNode n v).slots = s.slots := rfl
@[simp] theorem State.setNode_lanes (s : State) (n : Node) (v : NodeLine) : (s.setNode n v).lanes = s.lanes := rfl
@[simp] theorem State.setNode_eyes (s : State) (n : Node) (v : NodeLine) : (s.setNode n v).eyes = s.eyes := rfl
@[simp] theorem State.setNode_estop (s : State) (n : Node) (v : NodeLine) : (s.setNode n v).estop = s.estop := rfl
@[simp] theorem State.setNode_tunnel (s : State) (n : Node) (v : NodeLine) : (s.setNode n v).tunnel = s.tunnel := rfl
@[simp] theorem State.setNode_heat (s : State) (n : Node) (v : NodeLine) : (s.setNode n v).heat = s.heat := rfl
@[simp] theorem State.setNode_unload (s : State) (n : Node) (v : NodeLine) : (s.setNode n v).unload = s.unload := rfl
@[simp] theorem State.setNode_merge (s : State) (n : Node) (v : NodeLine) : (s.setNode n v).merge = s.merge := rfl
@[simp] theorem State.setNode_dispatch (s : State) (n : Node) (v : NodeLine) : (s.setNode n v).dispatch = s.dispatch := rfl
@[simp] theorem State.setNode_executor (s : State) (n : Node) (v : NodeLine) : (s.setNode n v).executor = s.executor := rfl
@[simp] theorem State.setNode_stored (s : State) (n : Node) (v : NodeLine) : (s.setNode n v).stored = s.stored := rfl
@[simp] theorem State.setNode_working (s : State) (n : Node) (v : NodeLine) : (s.setNode n v).working = s.working := rfl
@[simp] theorem State.setNode_single (s : State) (n : Node) (v : NodeLine) : (s.setNode n v).single = s.single := rfl
@[simp] theorem State.setNode_answer (s : State) (n : Node) (v : NodeLine) : (s.setNode n v).answer = s.answer := rfl
@[simp] theorem State.setNode_draws (s : State) (n : Node) (v : NodeLine) : (s.setNode n v).draws = s.draws := rfl
@[simp] theorem State.setNode_pending (s : State) (n : Node) (v : NodeLine) : (s.setNode n v).pending = s.pending := rfl

@[simp] theorem State.setEye_slots (s : State) (e : Eye) (t : Trackpoint) : (s.setEye e t).slots = s.slots := rfl
@[simp] theorem State.setEye_lanes (s : State) (e : Eye) (t : Trackpoint) : (s.setEye e t).lanes = s.lanes := rfl
@[simp] theorem State.setEye_eyes (s : State) (e : Eye) (t : Trackpoint) : (s.setEye e t).eyes = s.eyes.set e t := rfl
@[simp] theorem State.setEye_estop (s : State) (e : Eye) (t : Trackpoint) : (s.setEye e t).estop = s.estop := rfl
@[simp] theorem State.setEye_tunnel (s : State) (e : Eye) (t : Trackpoint) : (s.setEye e t).tunnel = s.tunnel := rfl
@[simp] theorem State.setEye_heat (s : State) (e : Eye) (t : Trackpoint) : (s.setEye e t).heat = s.heat := rfl
@[simp] theorem State.setEye_unload (s : State) (e : Eye) (t : Trackpoint) : (s.setEye e t).unload = s.unload := rfl
@[simp] theorem State.setEye_merge (s : State) (e : Eye) (t : Trackpoint) : (s.setEye e t).merge = s.merge := rfl
@[simp] theorem State.setEye_dispatch (s : State) (e : Eye) (t : Trackpoint) : (s.setEye e t).dispatch = s.dispatch := rfl
@[simp] theorem State.setEye_executor (s : State) (e : Eye) (t : Trackpoint) : (s.setEye e t).executor = s.executor := rfl
@[simp] theorem State.setEye_line (s : State) (e : Eye) (t : Trackpoint) : (s.setEye e t).line = s.line := rfl
@[simp] theorem State.setEye_stored (s : State) (e : Eye) (t : Trackpoint) : (s.setEye e t).stored = s.stored := rfl
@[simp] theorem State.setEye_working (s : State) (e : Eye) (t : Trackpoint) : (s.setEye e t).working = s.working := rfl
@[simp] theorem State.setEye_single (s : State) (e : Eye) (t : Trackpoint) : (s.setEye e t).single = s.single := rfl
@[simp] theorem State.setEye_answer (s : State) (e : Eye) (t : Trackpoint) : (s.setEye e t).answer = s.answer := rfl
@[simp] theorem State.setEye_draws (s : State) (e : Eye) (t : Trackpoint) : (s.setEye e t).draws = s.draws := rfl
@[simp] theorem State.setEye_pending (s : State) (e : Eye) (t : Trackpoint) : (s.setEye e t).pending = s.pending := rfl

@[simp] theorem State.withExecutor_slots (s : State) (x : Executor) : (s.withExecutor x).slots = s.slots := rfl
@[simp] theorem State.withExecutor_lanes (s : State) (x : Executor) : (s.withExecutor x).lanes = s.lanes := rfl
@[simp] theorem State.withExecutor_eyes (s : State) (x : Executor) : (s.withExecutor x).eyes = s.eyes := rfl
@[simp] theorem State.withExecutor_estop (s : State) (x : Executor) : (s.withExecutor x).estop = s.estop := rfl
@[simp] theorem State.withExecutor_tunnel (s : State) (x : Executor) : (s.withExecutor x).tunnel = s.tunnel := rfl
@[simp] theorem State.withExecutor_heat (s : State) (x : Executor) : (s.withExecutor x).heat = s.heat := rfl
@[simp] theorem State.withExecutor_unload (s : State) (x : Executor) : (s.withExecutor x).unload = s.unload := rfl
@[simp] theorem State.withExecutor_merge (s : State) (x : Executor) : (s.withExecutor x).merge = s.merge := rfl
@[simp] theorem State.withExecutor_dispatch (s : State) (x : Executor) : (s.withExecutor x).dispatch = s.dispatch := rfl
@[simp] theorem State.withExecutor_executor (s : State) (x : Executor) : (s.withExecutor x).executor = x := rfl
@[simp] theorem State.withExecutor_line (s : State) (x : Executor) : (s.withExecutor x).line = s.line := rfl
@[simp] theorem State.withExecutor_stored (s : State) (x : Executor) : (s.withExecutor x).stored = s.stored := rfl
@[simp] theorem State.withExecutor_working (s : State) (x : Executor) : (s.withExecutor x).working = s.working := rfl
@[simp] theorem State.withExecutor_single (s : State) (x : Executor) : (s.withExecutor x).single = s.single := rfl
@[simp] theorem State.withExecutor_answer (s : State) (x : Executor) : (s.withExecutor x).answer = s.answer := rfl
@[simp] theorem State.withExecutor_draws (s : State) (x : Executor) : (s.withExecutor x).draws = s.draws := rfl
@[simp] theorem State.withExecutor_pending (s : State) (x : Executor) : (s.withExecutor x).pending = s.pending := rfl

@[simp] theorem State.draw_slots (s : State) : (s.draw).slots = s.slots := rfl
@[simp] theorem State.draw_lanes (s : State) : (s.draw).lanes = s.lanes := rfl
@[simp] theorem State.draw_eyes (s : State) : (s.draw).eyes = s.eyes := rfl
@[simp] theorem State.draw_estop (s : State) : (s.draw).estop = s.estop := rfl
@[simp] theorem State.draw_tunnel (s : State) : (s.draw).tunnel = s.tunnel := rfl
@[simp] theorem State.draw_heat (s : State) : (s.draw).heat = s.heat := rfl
@[simp] theorem State.draw_unload (s : State) : (s.draw).unload = s.unload := rfl
@[simp] theorem State.draw_merge (s : State) : (s.draw).merge = s.merge := rfl
@[simp] theorem State.draw_dispatch (s : State) : (s.draw).dispatch = s.dispatch := rfl
@[simp] theorem State.draw_executor (s : State) : (s.draw).executor = s.executor := rfl
@[simp] theorem State.draw_line (s : State) : (s.draw).line = s.line := rfl
@[simp] theorem State.draw_stored (s : State) : (s.draw).stored = s.stored := rfl
@[simp] theorem State.draw_working (s : State) : (s.draw).working = s.working := rfl
@[simp] theorem State.draw_single (s : State) : (s.draw).single = s.single := rfl
@[simp] theorem State.draw_answer (s : State) : (s.draw).answer = s.answer := rfl
@[simp] theorem State.draw_pending (s : State) : (s.draw).pending = s.pending := rfl

@[simp] theorem State.withdrawPermissions_slots (s : State) : (s.withdrawPermissions).slots = s.slots := rfl
@[simp] theorem State.withdrawPermissions_lanes (s : State) : (s.withdrawPermissions).lanes = s.lanes := rfl
@[simp] theorem State.withdrawPermissions_eyes (s : State) : (s.withdrawPermissions).eyes = s.eyes := rfl
@[simp] theorem State.withdrawPermissions_estop (s : State) : (s.withdrawPermissions).estop = s.estop := rfl
@[simp] theorem State.withdrawPermissions_heat (s : State) : (s.withdrawPermissions).heat = s.heat := rfl
@[simp] theorem State.withdrawPermissions_executor (s : State) : (s.withdrawPermissions).executor = s.executor := rfl
@[simp] theorem State.withdrawPermissions_line (s : State) : (s.withdrawPermissions).line = s.line := rfl
@[simp] theorem State.withdrawPermissions_stored (s : State) : (s.withdrawPermissions).stored = s.stored := rfl
@[simp] theorem State.withdrawPermissions_working (s : State) : (s.withdrawPermissions).working = s.working := rfl
@[simp] theorem State.withdrawPermissions_single (s : State) : (s.withdrawPermissions).single = s.single := rfl
@[simp] theorem State.withdrawPermissions_answer (s : State) : (s.withdrawPermissions).answer = s.answer := rfl
@[simp] theorem State.withdrawPermissions_draws (s : State) : (s.withdrawPermissions).draws = s.draws := rfl
@[simp] theorem State.withdrawPermissions_pending (s : State) : (s.withdrawPermissions).pending = s.pending := rfl

@[simp] theorem State.withdrawPermissions_merge (s : State) : s.withdrawPermissions.merge = none := rfl
@[simp] theorem State.withdrawPermissions_grant (s : State) : s.withdrawPermissions.dispatch.grant = none := rfl
@[simp] theorem State.withdrawPermissions_deferred (s : State) :
    s.withdrawPermissions.dispatch.deferred = s.dispatch.deferred := rfl
@[simp] theorem State.withdrawPermissions_lastTarget (s : State) :
    s.withdrawPermissions.dispatch.lastTarget = s.dispatch.lastTarget := rfl
@[simp] theorem State.withdrawPermissions_release (s : State) : s.withdrawPermissions.unload.release = none := rfl
@[simp] theorem State.withdrawPermissions_diverter (s : State) :
    s.withdrawPermissions.unload.diverter = s.unload.diverter := rfl
@[simp] theorem State.withdrawPermissions_permit (s : State) : s.withdrawPermissions.tunnel.permit = false := rfl
@[simp] theorem State.withdrawPermissions_stall (s : State) : s.withdrawPermissions.tunnel.stall = none := rfl
@[simp] theorem State.withdrawPermissions_pitch (s : State) : s.withdrawPermissions.tunnel.pitch = s.tunnel.pitch := rfl
@[simp] theorem State.withdrawPermissions_admissionUsed (s : State) :
    s.withdrawPermissions.tunnel.admissionUsed = s.tunnel.admissionUsed := rfl
@[simp] theorem State.draw_draws (s : State) : s.draw.draws = s.draws + 1 := rfl

/-! ## The Rack Table -/

@[simp] theorem State.record_setSlot (s : State) (n m : RecNo) (r : Option Record) :
    (s.setSlot n r).record m = if m = n then r else s.record m := by
  simp only [State.record, State.setSlot, Vector.get_eq_getElem]
  by_cases h : m = n
  · subst h
    simp
  · have : n.val ≠ m.val := fun e => h (Fin.ext e.symm)
    simp [h, this]

theorem State.record_congr {s t : State} (h : t.slots = s.slots) (m : RecNo) : t.record m = s.record m := by
  simp [State.record, h]

@[simp] theorem State.record_updateRecord (s : State) (n m : RecNo) (f : Record → Record) :
    (s.updateRecord n f).record m = if m = n then (s.record n).map f else s.record m := by
  unfold State.updateRecord
  cases h : s.record n with
  | some r => simp
  | none =>
    by_cases e : m = n
    · subst e
      simp [h]
    · simp [e]

@[simp] theorem State.updateRecord_lanes (s : State) (n : RecNo) (f : Record → Record) :
    (s.updateRecord n f).lanes = s.lanes := by
  unfold State.updateRecord
  split <;> rfl

@[simp] theorem State.updateRecord_eyes (s : State) (n : RecNo) (f : Record → Record) :
    (s.updateRecord n f).eyes = s.eyes := by
  unfold State.updateRecord
  split <;> rfl

@[simp] theorem State.updateRecord_estop (s : State) (n : RecNo) (f : Record → Record) :
    (s.updateRecord n f).estop = s.estop := by
  unfold State.updateRecord
  split <;> rfl

@[simp] theorem State.updateRecord_tunnel (s : State) (n : RecNo) (f : Record → Record) :
    (s.updateRecord n f).tunnel = s.tunnel := by
  unfold State.updateRecord
  split <;> rfl

@[simp] theorem State.updateRecord_heat (s : State) (n : RecNo) (f : Record → Record) :
    (s.updateRecord n f).heat = s.heat := by
  unfold State.updateRecord
  split <;> rfl

@[simp] theorem State.updateRecord_unload (s : State) (n : RecNo) (f : Record → Record) :
    (s.updateRecord n f).unload = s.unload := by
  unfold State.updateRecord
  split <;> rfl

@[simp] theorem State.updateRecord_merge (s : State) (n : RecNo) (f : Record → Record) :
    (s.updateRecord n f).merge = s.merge := by
  unfold State.updateRecord
  split <;> rfl

@[simp] theorem State.updateRecord_dispatch (s : State) (n : RecNo) (f : Record → Record) :
    (s.updateRecord n f).dispatch = s.dispatch := by
  unfold State.updateRecord
  split <;> rfl

@[simp] theorem State.updateRecord_executor (s : State) (n : RecNo) (f : Record → Record) :
    (s.updateRecord n f).executor = s.executor := by
  unfold State.updateRecord
  split <;> rfl

@[simp] theorem State.updateRecord_line (s : State) (n : RecNo) (f : Record → Record) :
    (s.updateRecord n f).line = s.line := by
  unfold State.updateRecord
  split <;> rfl

@[simp] theorem State.updateRecord_stored (s : State) (n : RecNo) (f : Record → Record) :
    (s.updateRecord n f).stored = s.stored := by
  unfold State.updateRecord
  split <;> rfl

@[simp] theorem State.updateRecord_working (s : State) (n : RecNo) (f : Record → Record) :
    (s.updateRecord n f).working = s.working := by
  unfold State.updateRecord
  split <;> rfl

@[simp] theorem State.updateRecord_single (s : State) (n : RecNo) (f : Record → Record) :
    (s.updateRecord n f).single = s.single := by
  unfold State.updateRecord
  split <;> rfl

@[simp] theorem State.updateRecord_answer (s : State) (n : RecNo) (f : Record → Record) :
    (s.updateRecord n f).answer = s.answer := by
  unfold State.updateRecord
  split <;> rfl

@[simp] theorem State.updateRecord_draws (s : State) (n : RecNo) (f : Record → Record) :
    (s.updateRecord n f).draws = s.draws := by
  unfold State.updateRecord
  split <;> rfl

@[simp] theorem State.updateRecord_pending (s : State) (n : RecNo) (f : Record → Record) :
    (s.updateRecord n f).pending = s.pending := by
  unfold State.updateRecord
  split <;> rfl

@[simp] theorem State.record_withLanes (s : State) (l : Lanes) (m : RecNo) :
    (s.withLanes l).record m = s.record m := rfl

@[simp] theorem State.record_setNode (s : State) (n : Node) (v : NodeLine) (m : RecNo) :
    (s.setNode n v).record m = s.record m := rfl

@[simp] theorem State.record_setEye (s : State) (e : Eye) (t : Trackpoint) (m : RecNo) :
    (s.setEye e t).record m = s.record m := rfl

@[simp] theorem State.record_withExecutor (s : State) (x : Executor) (m : RecNo) :
    (s.withExecutor x).record m = s.record m := rfl

/-! ## The marks of reopened grants (R147, R157) -/

@[simp] theorem State.settleGrants_slots (s : State) : s.settleGrants.slots = s.slots := rfl

@[simp] theorem State.settleGrants_lanes (s : State) : s.settleGrants.lanes = s.lanes := rfl

@[simp] theorem State.settleGrants_eyes (s : State) : s.settleGrants.eyes = s.eyes := rfl

@[simp] theorem State.settleGrants_estop (s : State) : s.settleGrants.estop = s.estop := rfl

@[simp] theorem State.settleGrants_tunnel (s : State) : s.settleGrants.tunnel = s.tunnel := rfl

@[simp] theorem State.settleGrants_heat (s : State) : s.settleGrants.heat = s.heat := rfl

@[simp] theorem State.settleGrants_unload (s : State) : s.settleGrants.unload = s.unload := rfl

@[simp] theorem State.settleGrants_merge (s : State) :
    s.settleGrants.merge = s.merge.map fun g => { g with reopened := false } := rfl

@[simp] theorem State.settleGrants_dispatch (s : State) :
    s.settleGrants.dispatch =
      { s.dispatch with grant := s.dispatch.grant.map fun g => { g with reopened := none } } := rfl

@[simp] theorem State.settleGrants_executor (s : State) : s.settleGrants.executor = s.executor := rfl

@[simp] theorem State.settleGrants_line (s : State) : s.settleGrants.line = s.line := rfl

@[simp] theorem State.settleGrants_stored (s : State) : s.settleGrants.stored = s.stored := rfl

@[simp] theorem State.settleGrants_working (s : State) : s.settleGrants.working = s.working := rfl

@[simp] theorem State.settleGrants_single (s : State) : s.settleGrants.single = s.single := rfl

@[simp] theorem State.settleGrants_answer (s : State) : s.settleGrants.answer = s.answer := rfl

@[simp] theorem State.settleGrants_draws (s : State) : s.settleGrants.draws = s.draws := rfl

@[simp] theorem State.settleGrants_pending (s : State) : s.settleGrants.pending = s.pending := rfl

@[simp] theorem State.record_settleGrants (s : State) (m : RecNo) :
    s.settleGrants.record m = s.record m := rfl

@[simp] theorem State.markMerge_slots (s : State) (src : MergeSource) : (s.markMerge src).slots = s.slots := rfl

@[simp] theorem State.markMerge_lanes (s : State) (src : MergeSource) : (s.markMerge src).lanes = s.lanes := rfl

@[simp] theorem State.markMerge_eyes (s : State) (src : MergeSource) : (s.markMerge src).eyes = s.eyes := rfl

@[simp] theorem State.markMerge_estop (s : State) (src : MergeSource) : (s.markMerge src).estop = s.estop := rfl

@[simp] theorem State.markMerge_tunnel (s : State) (src : MergeSource) : (s.markMerge src).tunnel = s.tunnel := rfl

@[simp] theorem State.markMerge_heat (s : State) (src : MergeSource) : (s.markMerge src).heat = s.heat := rfl

@[simp] theorem State.markMerge_unload (s : State) (src : MergeSource) : (s.markMerge src).unload = s.unload := rfl

@[simp] theorem State.markMerge_merge (s : State) (src : MergeSource) :
    (s.markMerge src).merge =
      s.merge.map fun g => { g with reopened := decide (g.source = src) } := rfl

@[simp] theorem State.markMerge_dispatch (s : State) (src : MergeSource) :
    (s.markMerge src).dispatch = s.dispatch := rfl

@[simp] theorem State.markMerge_executor (s : State) (src : MergeSource) :
    (s.markMerge src).executor = s.executor := rfl

@[simp] theorem State.markMerge_line (s : State) (src : MergeSource) : (s.markMerge src).line = s.line := rfl

@[simp] theorem State.markMerge_stored (s : State) (src : MergeSource) : (s.markMerge src).stored = s.stored := rfl

@[simp] theorem State.markMerge_working (s : State) (src : MergeSource) : (s.markMerge src).working = s.working := rfl

@[simp] theorem State.markMerge_single (s : State) (src : MergeSource) : (s.markMerge src).single = s.single := rfl

@[simp] theorem State.markMerge_answer (s : State) (src : MergeSource) : (s.markMerge src).answer = s.answer := rfl

@[simp] theorem State.markMerge_draws (s : State) (src : MergeSource) : (s.markMerge src).draws = s.draws := rfl

@[simp] theorem State.markMerge_pending (s : State) (src : MergeSource) : (s.markMerge src).pending = s.pending := rfl

@[simp] theorem State.record_markMerge (s : State) (src : MergeSource) (m : RecNo) :
    (s.markMerge src).record m = s.record m := rfl

@[simp] theorem State.markDispatch_slots (s : State) (r : DispatchRound) : (s.markDispatch r).slots = s.slots := rfl

@[simp] theorem State.markDispatch_lanes (s : State) (r : DispatchRound) : (s.markDispatch r).lanes = s.lanes := rfl

@[simp] theorem State.markDispatch_eyes (s : State) (r : DispatchRound) : (s.markDispatch r).eyes = s.eyes := rfl

@[simp] theorem State.markDispatch_estop (s : State) (r : DispatchRound) : (s.markDispatch r).estop = s.estop := rfl

@[simp] theorem State.markDispatch_tunnel (s : State) (r : DispatchRound) :
    (s.markDispatch r).tunnel = s.tunnel := rfl

@[simp] theorem State.markDispatch_heat (s : State) (r : DispatchRound) : (s.markDispatch r).heat = s.heat := rfl

@[simp] theorem State.markDispatch_unload (s : State) (r : DispatchRound) :
    (s.markDispatch r).unload = s.unload := rfl

@[simp] theorem State.markDispatch_merge (s : State) (r : DispatchRound) : (s.markDispatch r).merge = s.merge := rfl

@[simp] theorem State.markDispatch_dispatch (s : State) (r : DispatchRound) :
    (s.markDispatch r).dispatch =
      { s.dispatch with grant := s.dispatch.grant.map fun g => { g with reopened := some r } } := rfl

@[simp] theorem State.markDispatch_executor (s : State) (r : DispatchRound) :
    (s.markDispatch r).executor = s.executor := rfl

@[simp] theorem State.markDispatch_line (s : State) (r : DispatchRound) : (s.markDispatch r).line = s.line := rfl

@[simp] theorem State.markDispatch_stored (s : State) (r : DispatchRound) :
    (s.markDispatch r).stored = s.stored := rfl

@[simp] theorem State.markDispatch_working (s : State) (r : DispatchRound) :
    (s.markDispatch r).working = s.working := rfl

@[simp] theorem State.markDispatch_single (s : State) (r : DispatchRound) :
    (s.markDispatch r).single = s.single := rfl

@[simp] theorem State.markDispatch_answer (s : State) (r : DispatchRound) :
    (s.markDispatch r).answer = s.answer := rfl

@[simp] theorem State.markDispatch_draws (s : State) (r : DispatchRound) : (s.markDispatch r).draws = s.draws := rfl

@[simp] theorem State.markDispatch_pending (s : State) (r : DispatchRound) :
    (s.markDispatch r).pending = s.pending := rfl

@[simp] theorem State.record_markDispatch (s : State) (r : DispatchRound) (m : RecNo) :
    (s.markDispatch r).record m = s.record m := rfl

/-! ## Nodes -/

@[simp] theorem State.setNode_node (s : State) (n m : Node) (v : NodeLine) :
    (s.setNode n v).line.nodes.get m = if m = n then v else s.line.nodes.get m := by
  simp [State.setNode]

@[simp] theorem State.setNode_present (s : State) (n m : Node) (v : NodeLine) :
    (s.setNode n v).present m = if m = n then v.present else s.present m := by
  simp only [State.present, State.setNode_node]
  split <;> rfl

@[simp] theorem State.setNode_attention (s : State) (n m : Node) (v : NodeLine) :
    (s.setNode n v).attention m = if m = n then v.attention else s.attention m := by
  simp only [State.attention, State.setNode_node]
  split <;> rfl

end Sys2Proof.Machine
end

