-- ==== Sys2Proof/Laws/Ops.lean ====
section
/-! SUPPORT. One lemma for each shared operation of Machine/Ops.lean: what it leaves, and what it does. -/

namespace Sys2Proof.Machine

/-- The line of `t` is that of `s` with some attention marks of present nodes raised (R189). -/
structure State.OnlyMarks (s t : State) : Prop where
  line : t.line = { s.line with nodes := t.line.nodes }
  node : ∀ n, t.line.nodes.get n = { s.line.nodes.get n with attention := t.attention n }
  absent : ∀ n, s.present n = false → t.attention n = s.attention n
  raised : ∀ n, s.attention n = true → t.attention n = true

theorem State.OnlyMarks.refl (s : State) : s.OnlyMarks s := ⟨rfl, fun _ => rfl, fun _ _ => rfl, fun _ h => h⟩

theorem State.OnlyMarks.present {s t : State} (h : s.OnlyMarks t) (n : Node) : t.present n = s.present n := by
  simp [State.present, h.node n]

theorem State.OnlyMarks.trans {s t u : State} (h : s.OnlyMarks t) (k : t.OnlyMarks u) : s.OnlyMarks u where
  line := by
    rw [k.line, h.line]
  node n := by rw [k.node n, h.node n]
  absent n a := by rw [k.absent n (by rw [h.present, a]), h.absent n a]
  raised n a := k.raised n (h.raised n a)

/-- Raising a mark raises no other and touches nothing else (R189). -/
theorem State.raiseMark_onlyMarks (s : State) (n : Node) : s.OnlyMarks (s.raiseMark n) := by
  unfold State.raiseMark
  split
  · rename_i h
    refine ⟨rfl, fun m => ?_, fun m a => ?_, fun m a => ?_⟩
    · by_cases e : m = n
      · subst e
        simp
      · simp [State.attention, e]
    · have : m ≠ n := fun e => by simp [e, h] at a
      simp [this]
    · simp [a]
  · exact .refl s

/-- The mark of a present node is raised, that of an absent node is left (R189). -/
theorem State.attention_raiseMark (s : State) (n m : Node) :
    (s.raiseMark n).attention m = (s.attention m || (m = n && s.present n)) := by
  unfold State.raiseMark
  by_cases e : m = n
  · subst e
    by_cases h : s.present m = true <;> simp [h]
  · by_cases h : s.present n = true <;> simp [h, e]

@[simp] theorem State.raiseMark_slots (s : State) (n : Node) : (s.raiseMark n).slots = s.slots := by
  unfold State.raiseMark
  split <;> rfl

@[simp] theorem State.raiseMark_lanes (s : State) (n : Node) : (s.raiseMark n).lanes = s.lanes := by
  unfold State.raiseMark
  split <;> rfl

@[simp] theorem State.raiseMark_eyes (s : State) (n : Node) : (s.raiseMark n).eyes = s.eyes := by
  unfold State.raiseMark
  split <;> rfl

@[simp] theorem State.raiseMark_estop (s : State) (n : Node) : (s.raiseMark n).estop = s.estop := by
  unfold State.raiseMark
  split <;> rfl

@[simp] theorem State.raiseMark_tunnel (s : State) (n : Node) : (s.raiseMark n).tunnel = s.tunnel := by
  unfold State.raiseMark
  split <;> rfl

@[simp] theorem State.raiseMark_heat (s : State) (n : Node) : (s.raiseMark n).heat = s.heat := by
  unfold State.raiseMark
  split <;> rfl

@[simp] theorem State.raiseMark_unload (s : State) (n : Node) : (s.raiseMark n).unload = s.unload := by
  unfold State.raiseMark
  split <;> rfl

@[simp] theorem State.raiseMark_merge (s : State) (n : Node) : (s.raiseMark n).merge = s.merge := by
  unfold State.raiseMark
  split <;> rfl

@[simp] theorem State.raiseMark_dispatch (s : State) (n : Node) : (s.raiseMark n).dispatch = s.dispatch := by
  unfold State.raiseMark
  split <;> rfl

@[simp] theorem State.raiseMark_executor (s : State) (n : Node) : (s.raiseMark n).executor = s.executor := by
  unfold State.raiseMark
  split <;> rfl

@[simp] theorem State.raiseMark_stored (s : State) (n : Node) : (s.raiseMark n).stored = s.stored := by
  unfold State.raiseMark
  split <;> rfl

@[simp] theorem State.raiseMark_working (s : State) (n : Node) : (s.raiseMark n).working = s.working := by
  unfold State.raiseMark
  split <;> rfl

@[simp] theorem State.raiseMark_single (s : State) (n : Node) : (s.raiseMark n).single = s.single := by
  unfold State.raiseMark
  split <;> rfl

@[simp] theorem State.raiseMark_answer (s : State) (n : Node) : (s.raiseMark n).answer = s.answer := by
  unfold State.raiseMark
  split <;> rfl

@[simp] theorem State.raiseMark_draws (s : State) (n : Node) : (s.raiseMark n).draws = s.draws := by
  unfold State.raiseMark
  split <;> rfl

@[simp] theorem State.raiseMark_pending (s : State) (n : Node) : (s.raiseMark n).pending = s.pending := by
  unfold State.raiseMark
  split <;> rfl

@[simp] theorem State.record_raiseMark (s : State) (n : Node) (m : RecNo) :
    (s.raiseMark n).record m = s.record m := State.record_congr (s.raiseMark_slots n) m

@[simp] theorem State.raiseMark_present (s : State) (n m : Node) : (s.raiseMark n).present m = s.present m :=
  (s.raiseMark_onlyMarks n).present m

/-! ## Outcome records (R164) -/

@[simp] theorem State.writeOutcome_slots (s : State) (c : LineCommand) (k : OutcomeKind) (i : Issuer)
    (e : Option CommitFailure) : (s.writeOutcome c k i e).slots = s.slots := by
  simp [State.writeOutcome]

@[simp] theorem State.writeOutcome_lanes (s : State) (c : LineCommand) (k : OutcomeKind) (i : Issuer)
    (e : Option CommitFailure) : (s.writeOutcome c k i e).lanes = s.lanes := by
  simp [State.writeOutcome]

@[simp] theorem State.writeOutcome_eyes (s : State) (c : LineCommand) (k : OutcomeKind) (i : Issuer)
    (e : Option CommitFailure) : (s.writeOutcome c k i e).eyes = s.eyes := by
  simp [State.writeOutcome]

@[simp] theorem State.writeOutcome_estop (s : State) (c : LineCommand) (k : OutcomeKind) (i : Issuer)
    (e : Option CommitFailure) : (s.writeOutcome c k i e).estop = s.estop := by
  simp [State.writeOutcome]

@[simp] theorem State.writeOutcome_tunnel (s : State) (c : LineCommand) (k : OutcomeKind) (i : Issuer)
    (e : Option CommitFailure) : (s.writeOutcome c k i e).tunnel = s.tunnel := by
  simp [State.writeOutcome]

@[simp] theorem State.writeOutcome_heat (s : State) (c : LineCommand) (k : OutcomeKind) (i : Issuer)
    (e : Option CommitFailure) : (s.writeOutcome c k i e).heat = s.heat := by
  simp [State.writeOutcome]

@[simp] theorem State.writeOutcome_unload (s : State) (c : LineCommand) (k : OutcomeKind) (i : Issuer)
    (e : Option CommitFailure) : (s.writeOutcome c k i e).unload = s.unload := by
  simp [State.writeOutcome]

@[simp] theorem State.writeOutcome_merge (s : State) (c : LineCommand) (k : OutcomeKind) (i : Issuer)
    (e : Option CommitFailure) : (s.writeOutcome c k i e).merge = s.merge := by
  simp [State.writeOutcome]

@[simp] theorem State.writeOutcome_dispatch (s : State) (c : LineCommand) (k : OutcomeKind) (i : Issuer)
    (e : Option CommitFailure) : (s.writeOutcome c k i e).dispatch = s.dispatch := by
  simp [State.writeOutcome]

@[simp] theorem State.writeOutcome_stored (s : State) (c : LineCommand) (k : OutcomeKind) (i : Issuer)
    (e : Option CommitFailure) : (s.writeOutcome c k i e).stored = s.stored := by
  simp [State.writeOutcome]

@[simp] theorem State.writeOutcome_working (s : State) (c : LineCommand) (k : OutcomeKind) (i : Issuer)
    (e : Option CommitFailure) : (s.writeOutcome c k i e).working = s.working := by
  simp [State.writeOutcome]

@[simp] theorem State.writeOutcome_single (s : State) (c : LineCommand) (k : OutcomeKind) (i : Issuer)
    (e : Option CommitFailure) : (s.writeOutcome c k i e).single = s.single := by
  simp [State.writeOutcome]

@[simp] theorem State.writeOutcome_answer (s : State) (c : LineCommand) (k : OutcomeKind) (i : Issuer)
    (e : Option CommitFailure) : (s.writeOutcome c k i e).answer = s.answer := by
  simp [State.writeOutcome]

@[simp] theorem State.writeOutcome_draws (s : State) (c : LineCommand) (k : OutcomeKind) (i : Issuer)
    (e : Option CommitFailure) : (s.writeOutcome c k i e).draws = s.draws := by
  simp [State.writeOutcome]

@[simp] theorem State.writeOutcome_pending (s : State) (c : LineCommand) (k : OutcomeKind) (i : Issuer)
    (e : Option CommitFailure) : (s.writeOutcome c k i e).pending = s.pending := by
  simp [State.writeOutcome]

/-- A write of an outcome record writes that record alone (R164). -/
@[simp] theorem State.writeOutcome_executor (s : State) (c : LineCommand) (k : OutcomeKind) (i : Issuer)
    (e : Option CommitFailure) :
    (s.writeOutcome c k i e).executor
      = { s.executor with outcomes := s.executor.outcomes.set c ⟨k, some i, e⟩ } := by
  simp [State.writeOutcome]

@[simp] theorem State.record_writeOutcome (s : State) (c : LineCommand) (k : OutcomeKind) (i : Issuer)
    (e : Option CommitFailure) (m : RecNo) : (s.writeOutcome c k i e).record m = s.record m :=
  State.record_congr (by simp) m

/-! ## Anomaly records (R66) -/

@[simp] theorem State.recordAnomaly_slots (s : State) (e : Eye) (k : AnomalyKind) (r : Option RecNo) :
    (s.recordAnomaly e k r).slots = s.slots := by
  simp [State.recordAnomaly]

@[simp] theorem State.recordAnomaly_lanes (s : State) (e : Eye) (k : AnomalyKind) (r : Option RecNo) :
    (s.recordAnomaly e k r).lanes = s.lanes := by
  simp [State.recordAnomaly]

@[simp] theorem State.recordAnomaly_estop (s : State) (e : Eye) (k : AnomalyKind) (r : Option RecNo) :
    (s.recordAnomaly e k r).estop = s.estop := by
  simp [State.recordAnomaly]

@[simp] theorem State.recordAnomaly_tunnel (s : State) (e : Eye) (k : AnomalyKind) (r : Option RecNo) :
    (s.recordAnomaly e k r).tunnel = s.tunnel := by
  simp [State.recordAnomaly]

@[simp] theorem State.recordAnomaly_heat (s : State) (e : Eye) (k : AnomalyKind) (r : Option RecNo) :
    (s.recordAnomaly e k r).heat = s.heat := by
  simp [State.recordAnomaly]

@[simp] theorem State.recordAnomaly_unload (s : State) (e : Eye) (k : AnomalyKind) (r : Option RecNo) :
    (s.recordAnomaly e k r).unload = s.unload := by
  simp [State.recordAnomaly]

@[simp] theorem State.recordAnomaly_merge (s : State) (e : Eye) (k : AnomalyKind) (r : Option RecNo) :
    (s.recordAnomaly e k r).merge = s.merge := by
  simp [State.recordAnomaly]

@[simp] theorem State.recordAnomaly_dispatch (s : State) (e : Eye) (k : AnomalyKind) (r : Option RecNo) :
    (s.recordAnomaly e k r).dispatch = s.dispatch := by
  simp [State.recordAnomaly]

@[simp] theorem State.recordAnomaly_executor (s : State) (e : Eye) (k : AnomalyKind) (r : Option RecNo) :
    (s.recordAnomaly e k r).executor = s.executor := by
  simp [State.recordAnomaly]

@[simp] theorem State.recordAnomaly_stored (s : State) (e : Eye) (k : AnomalyKind) (r : Option RecNo) :
    (s.recordAnomaly e k r).stored = s.stored := by
  simp [State.recordAnomaly]

@[simp] theorem State.recordAnomaly_working (s : State) (e : Eye) (k : AnomalyKind) (r : Option RecNo) :
    (s.recordAnomaly e k r).working = s.working := by
  simp [State.recordAnomaly]

@[simp] theorem State.recordAnomaly_single (s : State) (e : Eye) (k : AnomalyKind) (r : Option RecNo) :
    (s.recordAnomaly e k r).single = s.single := by
  simp [State.recordAnomaly]

@[simp] theorem State.recordAnomaly_answer (s : State) (e : Eye) (k : AnomalyKind) (r : Option RecNo) :
    (s.recordAnomaly e k r).answer = s.answer := by
  simp [State.recordAnomaly]

@[simp] theorem State.recordAnomaly_draws (s : State) (e : Eye) (k : AnomalyKind) (r : Option RecNo) :
    (s.recordAnomaly e k r).draws = s.draws := by
  simp [State.recordAnomaly]

@[simp] theorem State.recordAnomaly_pending (s : State) (e : Eye) (k : AnomalyKind) (r : Option RecNo) :
    (s.recordAnomaly e k r).pending = s.pending := by
  simp [State.recordAnomaly]

/-- Recording an anomaly replaces the record of that trackpoint and nothing else of the trackpoints (R66). -/
@[simp] theorem State.recordAnomaly_eyes (s : State) (e : Eye) (k : AnomalyKind) (r : Option RecNo) :
    (s.recordAnomaly e k r).eyes = s.eyes.set e { s.eyes.get e with anomaly := ⟨k, r, true⟩ } := by
  simp [State.recordAnomaly]

@[simp] theorem State.record_recordAnomaly (s : State) (e : Eye) (k : AnomalyKind) (r : Option RecNo) (m : RecNo) :
    (s.recordAnomaly e k r).record m = s.record m := State.record_congr (by simp) m

@[simp] theorem State.recordAnomalies_slots (s : State) (e : Eye) (as : List (AnomalyKind × Option RecNo)) :
    (s.recordAnomalies e as).slots = s.slots := by
  unfold State.recordAnomalies
  induction as generalizing s with
  | nil => rfl
  | cons a as ih => simp [ih]

@[simp] theorem State.recordAnomalies_lanes (s : State) (e : Eye) (as : List (AnomalyKind × Option RecNo)) :
    (s.recordAnomalies e as).lanes = s.lanes := by
  unfold State.recordAnomalies
  induction as generalizing s with
  | nil => rfl
  | cons a as ih => simp [ih]

@[simp] theorem State.recordAnomalies_estop (s : State) (e : Eye) (as : List (AnomalyKind × Option RecNo)) :
    (s.recordAnomalies e as).estop = s.estop := by
  unfold State.recordAnomalies
  induction as generalizing s with
  | nil => rfl
  | cons a as ih => simp [ih]

@[simp] theorem State.recordAnomalies_tunnel (s : State) (e : Eye) (as : List (AnomalyKind × Option RecNo)) :
    (s.recordAnomalies e as).tunnel = s.tunnel := by
  unfold State.recordAnomalies
  induction as generalizing s with
  | nil => rfl
  | cons a as ih => simp [ih]

@[simp] theorem State.recordAnomalies_heat (s : State) (e : Eye) (as : List (AnomalyKind × Option RecNo)) :
    (s.recordAnomalies e as).heat = s.heat := by
  unfold State.recordAnomalies
  induction as generalizing s with
  | nil => rfl
  | cons a as ih => simp [ih]

@[simp] theorem State.recordAnomalies_unload (s : State) (e : Eye) (as : List (AnomalyKind × Option RecNo)) :
    (s.recordAnomalies e as).unload = s.unload := by
  unfold State.recordAnomalies
  induction as generalizing s with
  | nil => rfl
  | cons a as ih => simp [ih]

@[simp] theorem State.recordAnomalies_merge (s : State) (e : Eye) (as : List (AnomalyKind × Option RecNo)) :
    (s.recordAnomalies e as).merge = s.merge := by
  unfold State.recordAnomalies
  induction as generalizing s with
  | nil => rfl
  | cons a as ih => simp [ih]

@[simp] theorem State.recordAnomalies_dispatch (s : State) (e : Eye) (as : List (AnomalyKind × Option RecNo)) :
    (s.recordAnomalies e as).dispatch = s.dispatch := by
  unfold State.recordAnomalies
  induction as generalizing s with
  | nil => rfl
  | cons a as ih => simp [ih]

@[simp] theorem State.recordAnomalies_executor (s : State) (e : Eye) (as : List (AnomalyKind × Option RecNo)) :
    (s.recordAnomalies e as).executor = s.executor := by
  unfold State.recordAnomalies
  induction as generalizing s with
  | nil => rfl
  | cons a as ih => simp [ih]

@[simp] theorem State.recordAnomalies_stored (s : State) (e : Eye) (as : List (AnomalyKind × Option RecNo)) :
    (s.recordAnomalies e as).stored = s.stored := by
  unfold State.recordAnomalies
  induction as generalizing s with
  | nil => rfl
  | cons a as ih => simp [ih]

@[simp] theorem State.recordAnomalies_working (s : State) (e : Eye) (as : List (AnomalyKind × Option RecNo)) :
    (s.recordAnomalies e as).working = s.working := by
  unfold State.recordAnomalies
  induction as generalizing s with
  | nil => rfl
  | cons a as ih => simp [ih]

@[simp] theorem State.recordAnomalies_single (s : State) (e : Eye) (as : List (AnomalyKind × Option RecNo)) :
    (s.recordAnomalies e as).single = s.single := by
  unfold State.recordAnomalies
  induction as generalizing s with
  | nil => rfl
  | cons a as ih => simp [ih]

@[simp] theorem State.recordAnomalies_answer (s : State) (e : Eye) (as : List (AnomalyKind × Option RecNo)) :
    (s.recordAnomalies e as).answer = s.answer := by
  unfold State.recordAnomalies
  induction as generalizing s with
  | nil => rfl
  | cons a as ih => simp [ih]

@[simp] theorem State.recordAnomalies_draws (s : State) (e : Eye) (as : List (AnomalyKind × Option RecNo)) :
    (s.recordAnomalies e as).draws = s.draws := by
  unfold State.recordAnomalies
  induction as generalizing s with
  | nil => rfl
  | cons a as ih => simp [ih]

@[simp] theorem State.recordAnomalies_pending (s : State) (e : Eye) (as : List (AnomalyKind × Option RecNo)) :
    (s.recordAnomalies e as).pending = s.pending := by
  unfold State.recordAnomalies
  induction as generalizing s with
  | nil => rfl
  | cons a as ih => simp [ih]

@[simp] theorem State.record_recordAnomalies (s : State) (e : Eye) (as : List (AnomalyKind × Option RecNo))
    (m : RecNo) : (s.recordAnomalies e as).record m = s.record m := State.record_congr (by simp) m

/-- After the anomalies of one event the anomaly record holds the last of them (R43, R66). -/
theorem State.recordAnomalies_concat (s : State) (e : Eye) (as : List (AnomalyKind × Option RecNo))
    (a : AnomalyKind × Option RecNo) :
    s.recordAnomalies e (as ++ [a]) = (s.recordAnomalies e as).recordAnomaly e a.1 a.2 := by
  simp [State.recordAnomalies]

end Sys2Proof.Machine
end

