-- ==== Sys2Proof/Laws/Control.lean ====
section
/-! SUPPORT. What the Loop Executor and the owners of permissions can do, said once: they leave the racks, the inputs, the
settings and the line as they are (`Controlled`), but for the settings and cells that a COMMIT applies (`Settled`). -/

namespace Sys2Proof.Machine

/-- `t` is `s` but for the executor, the permissions, some attention marks raised and the free choices drawn. -/
structure State.Controlled (s t : State) : Prop where
  slots : t.slots = s.slots
  lanes : t.lanes = s.lanes
  eyes : t.eyes = s.eyes
  estop : t.estop = s.estop
  heat : t.heat = s.heat
  pitch : t.tunnel.pitch = s.tunnel.pitch
  admission : t.tunnel.admissionUsed = s.tunnel.admissionUsed
  diverter : t.unload.diverter = s.unload.diverter
  stored : t.stored = s.stored
  working : t.working = s.working
  single : t.single = s.single
  answer : t.answer = s.answer
  pending : t.pending = s.pending
  marks : s.OnlyMarks t

namespace State.Controlled

theorem refl (s : State) : s.Controlled s :=
  ⟨rfl, rfl, rfl, rfl, rfl, rfl, rfl, rfl, rfl, rfl, rfl, rfl, rfl, .refl s⟩

theorem trans {s t u : State} (h : s.Controlled t) (k : t.Controlled u) : s.Controlled u :=
  ⟨k.slots.trans h.slots, k.lanes.trans h.lanes, k.eyes.trans h.eyes, k.estop.trans h.estop, k.heat.trans h.heat,
    k.pitch.trans h.pitch, k.admission.trans h.admission, k.diverter.trans h.diverter, k.stored.trans h.stored,
    k.working.trans h.working, k.single.trans h.single, k.answer.trans h.answer, k.pending.trans h.pending,
    h.marks.trans k.marks⟩

theorem record {s t : State} (h : s.Controlled t) (m : RecNo) : t.record m = s.record m :=
  State.record_congr h.slots m

theorem present {s t : State} (h : s.Controlled t) (n : Node) : t.present n = s.present n := h.marks.present n

/-- A state that differs in the executor, the permissions and the draws alone is `Controlled`. -/
theorem of_line {s t : State} (a : t.slots = s.slots) (b : t.lanes = s.lanes) (c : t.eyes = s.eyes)
    (d : t.estop = s.estop) (e : t.heat = s.heat) (f : t.tunnel.pitch = s.tunnel.pitch)
    (g : t.tunnel.admissionUsed = s.tunnel.admissionUsed) (h : t.unload.diverter = s.unload.diverter)
    (i : t.stored = s.stored) (j : t.working = s.working) (k : t.single = s.single) (l : t.answer = s.answer)
    (m : t.pending = s.pending) (n : t.line = s.line) : s.Controlled t :=
  ⟨a, b, c, d, e, f, g, h, i, j, k, l, m,
    ⟨by rw [n], fun x => by simp [State.attention, n], fun x _ => by simp [State.attention, n],
      fun x y => by simpa [State.attention, n] using y⟩⟩

end State.Controlled

/-! ## The permissions -/

theorem State.raiseMark_controlled (s : State) (n : Node) : s.Controlled (s.raiseMark n) := by
  constructor <;> simp [s.raiseMark_onlyMarks n]

theorem State.withExecutor_controlled (s : State) (x : Executor) : s.Controlled (s.withExecutor x) := by
  apply State.Controlled.of_line <;> rfl

theorem State.draw_controlled (s : State) : s.Controlled s.draw := by
  apply State.Controlled.of_line <;> rfl

theorem State.withdrawPermissions_controlled (s : State) : s.Controlled s.withdrawPermissions := by
  apply State.Controlled.of_line <;> rfl

theorem State.refreshPermit_controlled (s : State) : s.Controlled s.refreshPermit := by
  apply State.Controlled.of_line <;> rfl

theorem State.decideRelease_controlled (s : State) : s.Controlled s.decideRelease := by
  unfold State.decideRelease
  repeat' split
  all_goals first
    | exact .refl _
    | (apply State.Controlled.of_line <;> rfl)

theorem State.decideMerge_controlled (s : State) : s.Controlled s.decideMerge := by
  unfold State.decideMerge
  repeat' split
  all_goals first
    | exact .refl _
    | (apply State.Controlled.of_line <;> rfl)

theorem State.decideDispatch_controlled (s : State) : s.Controlled s.decideDispatch := by
  unfold State.decideDispatch
  repeat' split
  all_goals first
    | exact .refl _
    | (apply State.Controlled.of_line <;> rfl)

theorem State.decideAll_controlled (s : State) : s.Controlled s.decideAll :=
  ((s.decideRelease_controlled.trans (State.decideMerge_controlled _)).trans (State.decideDispatch_controlled _))

theorem State.decideAfter_controlled (s before : State) : s.Controlled (s.decideAfter before) := by
  unfold State.decideAfter
  have h := s.decideRelease_controlled
  have k : s.Controlled (if mergeDue before s then s.decideRelease.decideMerge else s.decideRelease) := by
    split
    · exact h.trans (State.decideMerge_controlled _)
    · exact h
  dsimp only
  split
  · exact k.trans (State.decideDispatch_controlled _)
  · exact k

/-! ## The executor -/

theorem State.writeOutcome_controlled (s : State) (c : LineCommand) (k : OutcomeKind) (i : Issuer)
    (e : Option CommitFailure) : s.Controlled (s.writeOutcome c k i e) :=
  (s.withExecutor_controlled _).trans (State.raiseMark_controlled _ _)

theorem State.enterLoop_controlled (s : State) (l : LoopState) : s.Controlled (s.enterLoop l) := by
  unfold State.enterLoop
  dsimp only
  split
  · exact (s.withExecutor_controlled _).trans (State.withdrawPermissions_controlled _)
  · exact s.withExecutor_controlled _

theorem State.completeDrain_controlled (s : State) (i : Issuer) : s.Controlled (s.completeDrain i) :=
  ((s.withExecutor_controlled _).trans (State.enterLoop_controlled _ _)).trans (State.writeOutcome_controlled _ _ _ _ _)

theorem State.drainTest_controlled (s : State) : s.Controlled s.drainTest := by
  unfold State.drainTest
  split
  · split
    · exact s.completeDrain_controlled _
    · exact .refl s
  · exact .refl s

/-- The drain test beside other reactions: whatever the other reactions do, and the free choice. -/
theorem State.reacting_controlled (s : State) (f : State → State) (h : ∀ t, s.Controlled t → t.Controlled (f t)) :
    s.Controlled (s.reacting f) := by
  unfold State.reacting
  split
  · split
    · have k := s.draw_controlled.trans (State.drainTest_controlled _)
      exact k.trans (h _ k)
    · have k := s.draw_controlled
      exact (k.trans (h _ k)).trans (State.drainTest_controlled _)
  · exact h s (.refl s)

theorem State.enterRun_controlled (s : State) (i : Issuer) : s.Controlled (s.enterRun i) :=
  (((s.withExecutor_controlled _).trans (State.writeOutcome_controlled _ _ _ _ _)).trans
    (State.refreshPermit_controlled _)).trans (State.reacting_controlled _ _ fun t _ => t.decideAll_controlled)

theorem State.startingTest_controlled (s : State) : s.Controlled s.startingTest := by
  unfold State.startingTest
  split
  · split
    · exact s.enterRun_controlled _
    · exact .refl s
  all_goals exact .refl s

theorem State.endHolding_controlled (s : State) (i : Issuer) : s.Controlled (s.endHolding i) :=
  ((s.withExecutor_controlled _).trans (State.writeOutcome_controlled _ _ _ _ _)).trans (State.drainTest_controlled _)

theorem State.holdingTest_controlled (s : State) : s.Controlled s.holdingTest := by
  unfold State.holdingTest
  split
  · split
    · exact .refl s
    · exact s.endHolding_controlled _
  all_goals exact .refl s

theorem State.clearDrain_controlled (s : State) : s.Controlled s.clearDrain := by
  unfold State.clearDrain
  dsimp only
  split
  · exact (s.withExecutor_controlled _).trans (State.writeOutcome_controlled _ _ _ _ _)
  · exact s.withExecutor_controlled _

theorem State.takeStop_controlled (s : State) (i : Issuer) : s.Controlled (s.takeStop i) := by
  unfold State.takeStop
  split
  · exact s.clearDrain_controlled.trans (State.writeOutcome_controlled _ _ _ _ _)
  · exact s.clearDrain_controlled.trans (State.writeOutcome_controlled _ _ _ _ _)
  · exact ((s.enterLoop_controlled _).trans (State.clearDrain_controlled _)).trans
      (State.writeOutcome_controlled _ _ _ _ _)
  · exact ((s.enterLoop_controlled _).trans (State.clearDrain_controlled _)).trans
      (State.writeOutcome_controlled _ _ _ _ _)
  · exact ((s.enterLoop_controlled _).trans (State.clearDrain_controlled _)).trans
      (State.writeOutcome_controlled _ _ _ _ _)
  all_goals
    exact (((s.withExecutor_controlled _).trans (State.writeOutcome_controlled _ _ _ _ _)).trans
      (State.clearDrain_controlled _)).trans (State.writeOutcome_controlled _ _ _ _ _)

theorem State.takeClear_controlled (s : State) (i : Issuer) : s.Controlled (s.takeClear i) := by
  unfold State.takeClear
  split
  · split
    · exact (s.withExecutor_controlled _).trans (State.writeOutcome_controlled _ _ _ _ _)
    · exact s.writeOutcome_controlled _ _ _ _
  all_goals first
    | exact s.writeOutcome_controlled _ _ _ _
    | exact .refl s

theorem State.takeSetup_controlled (s : State) (i : Issuer) : s.Controlled (s.takeSetup i) := by
  unfold State.takeSetup
  split
  · refine (s.clearDrain_controlled.trans (t := s.clearDrain) ?_).trans (State.writeOutcome_controlled _ _ _ _ _)
    apply State.Controlled.of_line <;> rfl
  all_goals first
    | exact s.writeOutcome_controlled _ _ _ _
    | exact .refl s

theorem State.takeHold_controlled (s : State) (i : Issuer) : s.Controlled (s.takeHold i) := by
  unfold State.takeHold
  split
  all_goals first
    | exact s.writeOutcome_controlled _ _ _ _
    | exact ((((s.withExecutor_controlled _).trans (State.writeOutcome_controlled _ _ _ _ _)).trans
        (State.writeOutcome_controlled _ _ _ _ _)).trans (State.drainTest_controlled _))
    | exact (((s.enterLoop_controlled _).trans (State.withExecutor_controlled _ _)).trans
        (State.writeOutcome_controlled _ _ _ _ _)).trans (State.holdingTest_controlled _)

theorem State.takeDrain_controlled (s : State) (i : Issuer) : s.Controlled (s.takeDrain i) := by
  unfold State.takeDrain
  split
  all_goals first
    | exact s.writeOutcome_controlled _ _ _ _
    | exact .refl s
    | (split
       · exact s.completeDrain_controlled _
       · exact (s.withExecutor_controlled _).trans (State.writeOutcome_controlled _ _ _ _ _))

theorem State.beginStarting_controlled (s : State) (o : Origin) (i : Issuer) : s.Controlled (s.beginStarting o i) :=
  ((s.withExecutor_controlled _).trans (State.writeOutcome_controlled _ _ _ _ _)).trans
    (State.startingTest_controlled _)

theorem State.takeRun_controlled (s : State) (i : Issuer) : s.Controlled (s.takeRun i) := by
  unfold State.takeRun
  split
  all_goals first
    | exact s.writeOutcome_controlled _ _ _ _
    | exact .refl s
    | (split
       · exact s.writeOutcome_controlled _ _ _ _
       · exact s.beginStarting_controlled _ _)

theorem State.setBit_controlled (s : State) (c : LineCommand) (i : Issuer) : s.Controlled (s.setBit c i) := by
  unfold State.setBit
  split
  · exact .refl s
  · exact s.withExecutor_controlled _

theorem State.clearBit_controlled (s : State) (c : LineCommand) : s.Controlled (s.clearBit c) :=
  s.withExecutor_controlled _

theorem State.cancelBit_controlled (s : State) (c : LineCommand) : s.Controlled (s.cancelBit c) := by
  unfold State.cancelBit
  split
  · exact (s.clearBit_controlled _).trans (State.writeOutcome_controlled _ _ _ _ _)
  · exact .refl s

theorem State.cancelBits_controlled (s : State) (cs : List LineCommand) :
    s.Controlled (cs.foldl State.cancelBit s) := by
  induction cs generalizing s with
  | nil => exact .refl s
  | cons c cs ih => exact (s.cancelBit_controlled c).trans (ih _)

/-! ## COMMIT -/

/-- `t` follows from `s` by what the executor can do: nothing but control, or a COMMIT that passed its checks and control
(R173, R174). -/
def State.Settled (s t : State) : Prop :=
  s.Controlled t ∨ (s.commitFailure = none ∧ s.applySettings.Controlled t)

theorem State.Controlled.commitFailure {s t : State} (h : s.Controlled t) : t.commitFailure = s.commitFailure := by
  have a : t.laneFills = s.laneFills := by simp only [State.laneFills, h.lanes, h.stored]
  have b : t.allocationCount = s.allocationCount := by simp only [State.allocationCount, h.record]
  unfold State.commitFailure
  rw [a, b, h.stored, h.lanes, h.single]

theorem State.Controlled.applySettings {s t : State} (h : s.Controlled t) :
    s.applySettings.Controlled t.applySettings := by
  obtain ⟨a, b, c, d, e, f, g, i, j, k, l, m, n, o⟩ := h
  refine ⟨a, by simp [State.applySettings, b, j], c, d, e, f, g, i, j, by simp [State.applySettings, j], l, m, n, ?_⟩
  exact ⟨o.line, o.node, o.absent, o.raised⟩

theorem resizeCells_length (cells : List (Option RecNo)) (n : Nat) : (resizeCells cells n).length = n := by
  simp [resizeCells]

theorem resizeCells_resizeCells (cells : List (Option RecNo)) (n : Nat) :
    resizeCells (resizeCells cells n) n = resizeCells cells n := by
  have h := resizeCells_length cells n
  generalize resizeCells cells n = c at h ⊢
  subst h
  simp [resizeCells]

theorem State.applySettings_applySettings (s : State) : s.applySettings.applySettings = s.applySettings := by
  simp [State.applySettings, resizeCells_resizeCells]

theorem State.Settled.of_controlled {s t : State} (h : s.Controlled t) : s.Settled t := .inl h

theorem State.Settled.refl (s : State) : s.Settled s := .inl (.refl s)

theorem State.Settled.trans {s t u : State} (h : s.Settled t) (k : t.Settled u) : s.Settled u := by
  rcases h with h | ⟨hc, h⟩
  · rcases k with k | ⟨kc, k⟩
    · exact .inl (h.trans k)
    · exact .inr ⟨by rw [← h.commitFailure, kc], h.applySettings.trans k⟩
  · rcases k with k | ⟨kc, k⟩
    · exact .inr ⟨hc, h.trans k⟩
    · refine .inr ⟨hc, ?_⟩
      have := h.applySettings
      rw [State.applySettings_applySettings] at this
      exact this.trans k

theorem State.takeCommit_settled (s : State) (i : Issuer) : s.Settled (s.takeCommit i) := by
  unfold State.takeCommit
  split
  · split
    · exact .inl (s.writeOutcome_controlled _ _ _ _)
    · rename_i h
      exact .inr ⟨h, ((State.enterLoop_controlled _ _).trans (State.refreshPermit_controlled _)).trans
        (State.writeOutcome_controlled _ _ _ _ _)⟩
  all_goals first
    | exact .inl (s.writeOutcome_controlled _ _ _ _)
    | exact .refl s

theorem State.applyCommand_settled (s : State) (c : LineCommand) (i : Issuer) : s.Settled (s.applyCommand c i) := by
  cases c with
  | stop => exact .inl (s.takeStop_controlled i)
  | clear => exact .inl (s.takeClear_controlled i)
  | setup => exact .inl (s.takeSetup_controlled i)
  | commit => exact s.takeCommit_settled i
  | hold => exact .inl (s.takeHold_controlled i)
  | drain => exact .inl (s.takeDrain_controlled i)
  | run => exact .inl (s.takeRun_controlled i)

theorem State.take_settled (s : State) (c : LineCommand) (i : Issuer) : s.Settled (s.take c i) :=
  (State.Settled.of_controlled ((s.clearBit_controlled c).trans (State.cancelBits_controlled _ _))).trans
    (State.applyCommand_settled _ _ _)

theorem State.takeUpTo_settled (k : Nat) (s : State) : s.Settled (State.takeUpTo k s) := by
  induction k generalizing s with
  | zero => exact .refl s
  | succ k ih =>
    unfold State.takeUpTo
    split
    · split
      · exact (s.take_settled _ _).trans (ih _)
      · exact .refl s
    · exact .refl s

/-- The taking of the pending commands (R163) is control, or a COMMIT that passed and control. -/
theorem State.takeCommands_settled (s : State) : s.Settled s.takeCommands := State.takeUpTo_settled 7 s

theorem State.raiseHold_settled (s : State) (c : HoldCause) : s.Settled (s.raiseHold c) :=
  (State.Settled.of_controlled (((s.withExecutor_controlled _).trans (State.raiseMark_controlled _ _)).trans
    (State.setBit_controlled _ _ _))).trans (State.takeCommands_settled _)

theorem State.raiseStop_settled (s : State) (c : StopCause) : s.Settled (s.raiseStop c) :=
  (State.Settled.of_controlled (((s.withExecutor_controlled _).trans (State.raiseMark_controlled _ _)).trans
    (State.setBit_controlled _ _ _))).trans (State.takeCommands_settled _)

theorem State.raise_settled (s : State) (c : Option Cause) : s.Settled (s.raise c) := by
  unfold State.raise
  split
  · exact s.raiseHold_settled _
  · exact s.raiseStop_settled _
  · exact .refl s

theorem State.reacting_settled (s : State) (f : State → State) (h : ∀ t, s.Controlled t → t.Settled (f t)) :
    s.Settled (s.reacting f) := by
  unfold State.reacting
  split
  · split
    · have k := s.draw_controlled.trans (State.drainTest_controlled _)
      exact (State.Settled.of_controlled k).trans (h _ k)
    · have k := s.draw_controlled
      exact ((State.Settled.of_controlled k).trans (h _ k)).trans (.of_controlled (State.drainTest_controlled _))
  · exact h s (.refl s)

/-- What every block does at a change of the lanes or the records (R14, R44): after the new head of UNL, control or a
COMMIT and control. -/
theorem State.observe_settled (s before : State) (cause : Option Cause) :
    (s.takeNewHead before).Settled (s.observe before cause) :=
  (State.Settled.of_controlled (State.refreshPermit_controlled _)).trans
    (State.reacting_settled _ _ fun t _ =>
      (State.Settled.of_controlled (t.decideAfter_controlled before)).trans (State.raise_settled _ _))

/-- With no cause to raise there is no COMMIT. -/
theorem State.observe_controlled (s before : State) :
    (s.takeNewHead before).Controlled (s.observe before) :=
  (State.refreshPermit_controlled _).trans
    (State.reacting_controlled _ _ fun t _ => t.decideAfter_controlled before)

end Sys2Proof.Machine
end

