-- ==== Sys2Proof/Laws/Commands.lean ====
section
/-! SUPPORT. The command vector: applying a command leaves it alone, and what the taking of the pending commands comes to
when none or one is pending. -/

namespace Sys2Proof.Machine

/-! ## Applying a command leaves the vector alone -/

@[simp] theorem State.withdrawPermissions_vector (s : State) :
    s.withdrawPermissions.executor.vector = s.executor.vector := rfl

@[simp] theorem State.writeOutcome_vector (s : State) (c : LineCommand) (k : OutcomeKind) (i : Issuer)
    (f : Option CommitFailure) : (s.writeOutcome c k i f).executor.vector = s.executor.vector := by
  simp

@[simp] theorem State.enterLoop_vector (s : State) (l : LoopState) :
    (s.enterLoop l).executor.vector = s.executor.vector := by
  unfold State.enterLoop
  dsimp only
  split <;> rfl

@[simp] theorem State.refreshPermit_executor (s : State) : s.refreshPermit.executor = s.executor := rfl

@[simp] theorem State.decideRelease_executor (s : State) : s.decideRelease.executor = s.executor := by
  unfold State.decideRelease
  repeat' split
  all_goals rfl

@[simp] theorem State.decideMerge_executor (s : State) : s.decideMerge.executor = s.executor := by
  unfold State.decideMerge
  repeat' split
  all_goals rfl

@[simp] theorem State.decideDispatch_executor (s : State) : s.decideDispatch.executor = s.executor := by
  unfold State.decideDispatch
  repeat' split
  all_goals rfl

@[simp] theorem State.decideAll_executor (s : State) : s.decideAll.executor = s.executor := by
  simp [State.decideAll]

@[simp] theorem State.completeDrain_vector (s : State) (i : Issuer) :
    (s.completeDrain i).executor.vector = s.executor.vector := by
  simp [State.completeDrain]

@[simp] theorem State.drainTest_vector (s : State) : s.drainTest.executor.vector = s.executor.vector := by
  unfold State.drainTest
  repeat' split
  all_goals simp

theorem State.reacting_vector (s : State) (f : State → State) (h : ∀ t, (f t).executor.vector = t.executor.vector) :
    (s.reacting f).executor.vector = s.executor.vector := by
  unfold State.reacting
  repeat' split
  all_goals simp [h]

@[simp] theorem State.enterRun_vector (s : State) (i : Issuer) :
    (s.enterRun i).executor.vector = s.executor.vector := by
  unfold State.enterRun
  dsimp only
  rw [State.reacting_vector _ _ (by simp)]
  simp

@[simp] theorem State.startingTest_vector (s : State) : s.startingTest.executor.vector = s.executor.vector := by
  unfold State.startingTest
  repeat' split
  all_goals simp

@[simp] theorem State.endHolding_vector (s : State) (i : Issuer) :
    (s.endHolding i).executor.vector = s.executor.vector := by
  simp [State.endHolding]

@[simp] theorem State.holdingTest_vector (s : State) : s.holdingTest.executor.vector = s.executor.vector := by
  unfold State.holdingTest
  repeat' split
  all_goals simp

@[simp] theorem State.clearDrain_vector (s : State) : s.clearDrain.executor.vector = s.executor.vector := by
  unfold State.clearDrain
  dsimp only
  split <;> simp

@[simp] theorem State.beginStarting_vector (s : State) (o : Origin) (i : Issuer) :
    (s.beginStarting o i).executor.vector = s.executor.vector := by
  simp [State.beginStarting]

/-- A command applied to the loop state (R165) neither sets nor clears a pending bit. -/
@[simp] theorem State.applyCommand_vector (s : State) (c : LineCommand) (i : Issuer) :
    (s.applyCommand c i).executor.vector = s.executor.vector := by
  cases c
  case stop =>
    show (s.takeStop i).executor.vector = _
    unfold State.takeStop
    split <;> simp
  case clear =>
    show (s.takeClear i).executor.vector = _
    unfold State.takeClear
    repeat' split
    all_goals simp
  case setup =>
    show (s.takeSetup i).executor.vector = _
    unfold State.takeSetup
    split <;> simp
  case commit =>
    show (s.takeCommit i).executor.vector = _
    unfold State.takeCommit
    repeat' split
    all_goals simp [State.applySettings]
  case hold =>
    show (s.takeHold i).executor.vector = _
    unfold State.takeHold
    split <;> simp
  case drain =>
    show (s.takeDrain i).executor.vector = _
    unfold State.takeDrain
    repeat' split
    all_goals simp
  case run =>
    show (s.takeRun i).executor.vector = _
    unfold State.takeRun
    repeat' split
    all_goals simp

/-! ## Taking the pending commands (R163) -/

theorem State.nextCommand_none {s : State} (h : s.executor.vector = PerCommand.const none) : s.nextCommand = none := by
  simp [State.nextCommand, h]

/-- With no command pending, none is taken. -/
theorem State.takeUpTo_none {s : State} (k : Nat) (h : s.executor.vector = PerCommand.const none) :
    State.takeUpTo k s = s := by
  cases k with
  | zero => rfl
  | succ k => simp [State.takeUpTo, State.nextCommand_none h]

theorem State.takeCommands_none {s : State} (h : s.executor.vector = PerCommand.const none) : s.takeCommands = s :=
  State.takeUpTo_none 7 h

theorem PerCommand.get_single {α : Type} (c d : LineCommand) (x : α) :
    ((PerCommand.const (none : Option α)).set c (some x)).get d = if d = c then some x else none := by
  cases c <;> cases d <;> rfl

theorem PerCommand.clear_single {α : Type} (c : LineCommand) (x : α) :
    ((PerCommand.const (none : Option α)).set c (some x)).set c none = PerCommand.const none := by
  cases c <;> rfl

/-- With one command pending that may be taken, it is the next one. -/
theorem State.nextCommand_single {s : State} {c : LineCommand} {i : Issuer}
    (h : s.executor.vector = (PerCommand.const none).set c (some i))
    (may : s.executor.loop.isBusy = false ∨ c = .stop ∨ c = .hold) : s.nextCommand = some c := by
  have key (d : LineCommand) : (s.executor.vector.get d).isSome = decide (d = c) := by
    rw [h, PerCommand.get_single]
    split <;> simp [*]
  simp only [State.nextCommand, key]
  rcases may with k | rfl | rfl
  · cases c <;> simp [LineCommand.all, k, List.find?]
  · simp [LineCommand.all]
  · simp [LineCommand.all, List.find?]

/-- The cancelled bits of a command, where none of them is pending. -/
theorem State.cancelBits_none (s : State) (cs : List LineCommand)
    (h : s.executor.vector = PerCommand.const none) : cs.foldl State.cancelBit s = s := by
  induction cs with
  | nil => rfl
  | cons c cs ih =>
    have k : s.cancelBit c = s := by simp [State.cancelBit, h]
    rw [List.foldl_cons, k, ih]

/-- With one command pending that may be taken, the taking comes to applying it, its bit cleared. -/
theorem State.takeCommands_single {s : State} {c : LineCommand} {i : Issuer}
    (h : s.executor.vector = (PerCommand.const none).set c (some i))
    (may : s.executor.loop.isBusy = false ∨ c = .stop ∨ c = .hold) :
    s.takeCommands = (s.clearBit c).applyCommand c i := by
  have k : (s.clearBit c).executor.vector = PerCommand.const none := by
    simp [State.clearBit, h, PerCommand.clear_single]
  have t : s.take c i = (s.clearBit c).applyCommand c i := by
    simp [State.take, State.cancelBits_none _ _ k]
  show State.takeUpTo 7 s = _
  unfold State.takeUpTo
  rw [State.nextCommand_single h may]
  simp only [h, PerCommand.get_single, if_true]
  rw [t]
  exact State.takeUpTo_none 6 (by rw [State.applyCommand_vector, k])

/-- A command set on an empty vector and taken: what a line command, or an internal cause, comes to. -/
theorem State.setBit_takeCommands {s : State} (c : LineCommand) (i : Issuer)
    (h : s.executor.vector = PerCommand.const none)
    (may : s.executor.loop.isBusy = false ∨ c = .stop ∨ c = .hold) :
    (s.setBit c i).takeCommands = s.applyCommand c i := by
  have e : s.setBit c i =
      s.withExecutor { s.executor with vector := (PerCommand.const none).set c (some i) } := by
    simp [State.setBit, h]
  have v : (s.setBit c i).executor.vector = (PerCommand.const none).set c (some i) := by rw [e]; rfl
  have l : (s.setBit c i).executor.loop.isBusy = s.executor.loop.isBusy := by rw [e]; rfl
  rw [State.takeCommands_single v (by rw [l]; exact may)]
  congr 1
  rw [e]
  simp only [State.clearBit, State.withExecutor, PerCommand.clear_single]
  rw [← h]

/-- A command that may not be taken yet stays pending (R161, R163). -/
theorem State.setBit_waits {s : State} (c : LineCommand) (i : Issuer)
    (h : s.executor.vector = PerCommand.const none) (busy : s.executor.loop.isBusy = true) (a : c ≠ .stop)
    (b : c ≠ .hold) : (s.setBit c i).takeCommands = s.setBit c i := by
  have e : s.setBit c i =
      s.withExecutor { s.executor with vector := (PerCommand.const none).set c (some i) } := by
    simp [State.setBit, h]
  have n : (s.setBit c i).nextCommand = none := by
    rw [e]
    cases c <;> first | exact absurd rfl a | exact absurd rfl b | simp [State.nextCommand, LineCommand.all, List.find?,
      busy, PerCommand.get, PerCommand.set, PerCommand.const]
  show State.takeUpTo 7 _ = _
  unfold State.takeUpTo
  rw [n]

/-- An internal hold cause with no command pending (R162): its set, the panel node's mark, HOLD taken. -/
theorem State.raiseHold_eq {s : State} (c : HoldCause) (h : s.executor.vector = PerCommand.const none) :
    s.raiseHold c =
      ((s.withExecutor { s.executor with holdCauses := s.executor.holdCauses.add c }).raiseMark .panel).takeHold
        .internal := by
  unfold State.raiseHold
  exact State.setBit_takeCommands .hold .internal (by simpa using h) (.inr (.inr rfl))

/-- An internal stop cause with no command pending (R162). -/
theorem State.raiseStop_eq {s : State} (c : StopCause) (h : s.executor.vector = PerCommand.const none) :
    s.raiseStop c =
      ((s.withExecutor { s.executor with stopCauses := s.executor.stopCauses.add c }).raiseMark .panel).takeStop
        .internal := by
  unfold State.raiseStop
  exact State.setBit_takeCommands .stop .internal (by simpa using h) (.inr (.inl rfl))

end Sys2Proof.Machine
end

