-- ==== Sys2Proof/Laws/Frames.lean ====
section
/-! SUPPORT. What the racks' movements, the requests and the executor leave alone, said once (`Kept`): the inputs but for
anomaly records, the settings but for a COMMIT, the line but for marks raised, the queue and the last answer. -/

namespace Sys2Proof.Machine

/-- `t` is `s` but for the racks, the places, the permissions, the entry admission, the executor, anomaly records, marks
raised, the free choices drawn, and the working settings a COMMIT applies. -/
structure State.Kept (s t : State) : Prop where
  estop : t.estop = s.estop
  heat : t.heat = s.heat
  pitch : t.tunnel.pitch = s.tunnel.pitch
  stored : t.stored = s.stored
  single : t.single = s.single
  answer : t.answer = s.answer
  pending : t.pending = s.pending
  working : t.working = s.working ∨ t.working = s.stored
  eyes : ∀ e, t.eyes.get e = { s.eyes.get e with anomaly := (t.eyes.get e).anomaly }
  marks : s.OnlyMarks t

namespace State.Kept

theorem refl (s : State) : s.Kept s :=
  ⟨rfl, rfl, rfl, rfl, rfl, rfl, rfl, .inl rfl, fun _ => rfl, .refl s⟩

theorem trans {s t u : State} (h : s.Kept t) (k : t.Kept u) : s.Kept u where
  estop := k.estop.trans h.estop
  heat := k.heat.trans h.heat
  pitch := k.pitch.trans h.pitch
  stored := k.stored.trans h.stored
  single := k.single.trans h.single
  answer := k.answer.trans h.answer
  pending := k.pending.trans h.pending
  working := by
    rcases k.working with e | e
    · rcases h.working with f | f
      · exact .inl (e.trans f)
      · exact .inr (e.trans f)
    · exact .inr (e.trans h.stored)
  eyes e := by
    have a := k.eyes e
    rw [h.eyes e] at a
    exact a
  marks := h.marks.trans k.marks

theorem of_controlled {s t : State} (h : s.Controlled t) : s.Kept t :=
  ⟨h.estop, h.heat, h.pitch, h.stored, h.single, h.answer, h.pending, .inl h.working,
    fun e => by rw [h.eyes], h.marks⟩

theorem of_settled {s t : State} (h : s.Settled t) : s.Kept t := by
  rcases h with h | ⟨_, h⟩
  · exact of_controlled h
  · have k := of_controlled h
    exact ⟨k.estop, k.heat, k.pitch, k.stored, k.single, k.answer, k.pending, by
      rcases k.working with e | e
      · exact .inr e
      · exact .inr e, k.eyes, ⟨k.marks.line, k.marks.node, k.marks.absent, k.marks.raised⟩⟩

/-- A state that differs in the racks, the places, the permissions and the entry admission alone. -/
theorem of_rest {s t : State} (a : t.estop = s.estop) (b : t.heat = s.heat) (c : t.tunnel.pitch = s.tunnel.pitch)
    (d : t.stored = s.stored) (e : t.single = s.single) (f : t.answer = s.answer) (g : t.pending = s.pending)
    (h : t.working = s.working) (i : t.eyes = s.eyes) (j : t.line = s.line) : s.Kept t :=
  ⟨a, b, c, d, e, f, g, .inl h, fun x => by rw [i],
    ⟨by rw [j], fun x => by simp [State.attention, j], fun x _ => by simp [State.attention, j],
      fun x y => by simpa [State.attention, j] using y⟩⟩

end State.Kept

/-! ## The operations over records, places and anomalies -/

theorem State.withLanes_kept (s : State) (l : Lanes) : s.Kept (s.withLanes l) := by
  apply State.Kept.of_rest <;> rfl

theorem State.setSlot_kept (s : State) (n : RecNo) (r : Option Record) : s.Kept (s.setSlot n r) := by
  apply State.Kept.of_rest <;> rfl

theorem State.updateRecord_kept (s : State) (n : RecNo) (f : Record → Record) : s.Kept (s.updateRecord n f) := by
  apply State.Kept.of_rest <;> simp

theorem State.raiseMark_kept (s : State) (n : Node) : s.Kept (s.raiseMark n) :=
  .of_controlled (s.raiseMark_controlled n)

theorem State.recordAnomaly_kept (s : State) (e : Eye) (k : AnomalyKind) (r : Option RecNo) :
    s.Kept (s.recordAnomaly e k r) := by
  unfold State.recordAnomaly
  refine State.Kept.trans ?_ (State.raiseMark_kept _ _)
  refine ⟨rfl, rfl, rfl, rfl, rfl, rfl, rfl, .inl rfl, fun d => ?_, ⟨rfl, fun _ => rfl, fun _ _ => rfl, fun _ h => h⟩⟩
  by_cases h : d = e
  · subst h
    simp
  · simp [h]

theorem State.recordAnomalies_kept (s : State) (e : Eye) (as : List (AnomalyKind × Option RecNo)) :
    s.Kept (s.recordAnomalies e as) := by
  induction as generalizing s with
  | nil => exact .refl s
  | cons a as ih => exact (s.recordAnomaly_kept e a.1 a.2).trans (ih _)

theorem State.setDiverter_kept (s : State) : s.Kept s.setDiverter := by
  unfold State.setDiverter
  repeat' split
  all_goals apply State.Kept.of_rest <;> rfl

theorem State.takeNewHead_kept (s before : State) : s.Kept (s.takeNewHead before) := by
  unfold State.takeNewHead
  repeat' split
  · exact .refl s
  · exact ((s.updateRecord_kept _ _).trans (State.setDiverter_kept _)).trans (State.raiseMark_kept _ _)
  · exact .refl s

/-- What every block does at a change of the lanes or the records leaves the inputs, the line and the stored settings. -/
theorem State.observe_kept (s before : State) (cause : Option Cause) : s.Kept (s.observe before cause) :=
  (s.takeNewHead_kept before).trans (.of_settled (s.observe_settled before cause))

/-! ## Passages (R36 to R43) -/

theorem State.endPermission_kept (s : State) (e : Eye) : s.Kept (s.endPermission e) := by
  unfold State.endPermission
  repeat' split
  all_goals apply State.Kept.of_rest <;> rfl

theorem State.land_kept (s : State) (e : Eye) (n : RecNo) (p : Option Place) : s.Kept (s.land e n p).state := by
  unfold State.land
  split
  · exact s.withLanes_kept _
  · split
    · split <;> exact s.withLanes_kept _
    · dsimp only
      split
      · split
        · exact (s.withLanes_kept _).trans (State.raiseMark_kept _ _)
        · exact s.withLanes_kept _
      · exact s.withLanes_kept _

theorem State.reconcile_kept (s : State) (e : Eye) : s.Kept (s.reconcile e).state := by
  unfold State.reconcile
  split
  · exact (((s.endPermission_kept e).trans (State.withLanes_kept _ _)).trans (State.updateRecord_kept _ _ _)).trans
      (State.land_kept _ _ _ _)
  · unfold State.phantomPassage
    dsimp only
    split
    · exact s.endPermission_kept e
    · split
      · exact ((s.endPermission_kept e).trans (State.setSlot_kept _ _ _)).trans (State.land_kept _ _ _ _)
      · exact s.endPermission_kept e

/-- A passage leaves the inputs, the line and the stored settings (R44). -/
theorem State.passage_kept (s : State) (e : Eye) : s.Kept (s.passage e) :=
  ((s.reconcile_kept e).trans (State.recordAnomalies_kept _ _ _)).trans (State.observe_kept _ _ _)

/-! ## The events of the tunnel and of the arbiters -/

theorem State.exitMissing_kept (s : State) (n : RecNo) : s.Kept (s.exitMissing n) := by
  unfold State.exitMissing
  split
  · exact ((s.withLanes_kept _).trans (State.recordAnomaly_kept _ _ _ _)).trans (State.observe_kept _ _ _)
  · exact .refl s

theorem State.tunnelStall_kept (s : State) : s.Kept s.tunnelStall := by
  unfold State.tunnelStall
  split
  · refine State.Kept.trans ?_ (.of_settled (State.raiseHold_settled _ _))
    apply State.Kept.of_rest <;> rfl
  · exact .refl s

theorem State.markMerge_kept (s : State) (src : MergeSource) : s.Kept (s.markMerge src) := by
  apply State.Kept.of_rest <;> rfl

theorem State.markDispatch_kept (s : State) (r : DispatchRound) : s.Kept (s.markDispatch r) := by
  apply State.Kept.of_rest <;> rfl

theorem State.mergeTimeout_kept (s : State) : s.Kept s.mergeTimeout := by
  unfold State.mergeTimeout
  repeat' split
  · refine State.Kept.trans (State.Kept.trans (State.Kept.trans ?_ (State.recordAnomaly_kept _ _ _ _))
      (.of_controlled (State.decideMerge_controlled _))) (State.markMerge_kept _ _)
    apply State.Kept.of_rest <;> rfl
  all_goals exact .refl s

theorem State.dispatchTimeout_kept (s : State) : s.Kept s.dispatchTimeout := by
  unfold State.dispatchTimeout
  repeat' split
  · refine State.Kept.trans (State.Kept.trans (State.Kept.trans ?_ (State.recordAnomaly_kept _ _ _ _))
      (.of_controlled (State.decideDispatch_controlled _))) (State.markDispatch_kept _ _)
    apply State.Kept.of_rest <;> rfl
  all_goals exact .refl s

/-! ## Blocked events at the arbiters (R143, R147, R153, R157) -/

/-- All that a *blocked* event does at the Merge Arbiter. -/
theorem State.mergeBlocked_cases (s : State) (e : Eye) :
    ((∀ g ∈ s.merge, g.source.eye ≠ e) ∧ s.mergeBlocked e = s)
      ∨ (∃ g, s.merge = some g ∧ g.source.eye = e ∧ g.reopened = true
          ∧ s.mergeBlocked e = ({ s with merge := none }).decideMerge)
      ∨ (∃ g, s.merge = some g ∧ g.source.eye = e ∧ g.reopened = false
          ∧ s.mergeBlocked e = { s with merge := some { g with window := g.window.onBlocked } }) := by
  unfold State.mergeBlocked
  cases h : s.merge with
  | none => exact .inl ⟨fun g k => by simp at k, rfl⟩
  | some g =>
    by_cases k : g.source.eye = e
    · cases r : g.reopened with
      | true => exact .inr (.inl ⟨g, rfl, k, r, by simp [k, r]⟩)
      | false => exact .inr (.inr ⟨g, rfl, k, r, by simp [k, r]⟩)
    · exact .inl ⟨fun f hf => by simp at hf; exact hf ▸ k, by simp [k]⟩

/-- All that a *blocked* event does at the Dispatch Arbiter. -/
theorem State.dispatchBlocked_cases (s : State) :
    (s.dispatch.grant = none ∧ s.dispatchBlocked = s)
      ∨ (∃ g r, s.dispatch.grant = some g ∧ g.reopened = some r
          ∧ s.dispatchBlocked = { s with dispatch := ⟨r.deferred, none, r.lastTarget⟩ })
      ∨ (∃ g, s.dispatch.grant = some g ∧ g.reopened = none
          ∧ s.dispatchBlocked =
            { s with dispatch := { s.dispatch with grant := some { g with window := g.window.onBlocked } } }) := by
  unfold State.dispatchBlocked
  cases h : s.dispatch.grant with
  | none => exact .inl ⟨rfl, rfl⟩
  | some g =>
    cases r : g.reopened with
    | none => exact .inr (.inr ⟨g, rfl, r, by simp [r]⟩)
    | some v => exact .inr (.inl ⟨g, v, rfl, r, by simp [r]⟩)

/-! ## Accepted requests (R198 to R200) -/

theorem State.allocate_kept (s : State) (m : RecNo) (p : Place) : s.Kept (s.allocate m p) :=
  ((s.setSlot_kept _ _).trans (State.withLanes_kept _ _)).trans (State.observe_kept _ _ _)

theorem State.applyLoad_kept (s : State) (m : RecNo) (replace finish : Bool) (es : List LoadEntry) :
    s.Kept (s.applyLoad m replace finish es) := by
  unfold State.applyLoad
  have h := s.updateRecord_kept m fun r => r.loaded replace es (s.lanes.stationOf m).isSome
  dsimp only
  refine State.Kept.trans (h.trans ?_) (State.observe_kept _ _ _)
  split
  · exact (State.updateRecord_kept _ _ _).trans (State.withLanes_kept _ _)
  · exact .refl _

theorem State.retire_kept (s : State) (m : RecNo) : s.Kept (s.retire m) := by
  refine State.Kept.trans ?_ (State.observe_kept _ _ _)
  apply State.Kept.of_rest <;> rfl

theorem State.placeRack_kept (s : State) (m : RecNo) (p : Place) : s.Kept (s.placeRack m p) :=
  ((s.updateRecord_kept _ _).trans (State.withLanes_kept _ _)).trans (State.observe_kept _ _ _)

theorem State.purge_kept (s : State) : s.Kept s.purge := by
  refine State.Kept.trans ?_ (State.observe_kept _ _ _)
  apply State.Kept.of_rest <;> rfl

theorem State.treatHead_kept (s : State) (m : RecNo) (f : Record → Record) : s.Kept (s.treatHead m f) := by
  refine State.Kept.trans (State.Kept.trans (State.Kept.trans ?_ (State.updateRecord_kept _ m f))
    (State.setDiverter_kept _)) (State.observe_kept _ _ _)
  apply State.Kept.of_rest <;> rfl

/-- A request that names a line command leaves the inputs, the line and the stored settings. -/
theorem State.serveCommand_kept (s : State) (n : Node) (c : LineCommand) : s.Kept (s.serveCommand n c).state := by
  unfold State.serveCommand
  repeat' split
  · exact .refl s
  · exact .refl s
  · exact (State.Kept.of_controlled (s.setBit_controlled _ _)).trans (.of_settled (State.takeCommands_settled _))

end Sys2Proof.Machine
end

