-- ==== Sys2Proof/Laws/Lanes.lean ====
section
/-! SUPPORT. The Rack Table and the places: the lowest free slot, how often the places hold a record after each movement,
and a new head of UNL. -/

namespace Sys2Proof.Machine

/-! ## The Rack Table (R1, R2) -/

theorem mem_allRecNos (n : RecNo) : n ∈ allRecNos := List.mem_finRange n

/-- The lowest free slot is free, and every slot below it is allocated (R2). -/
theorem State.lowestFree_some {s : State} {n : RecNo} (h : s.lowestFree = some n) :
    s.record n = none ∧ ∀ k < n, s.record k ≠ none := by
  obtain ⟨a, as, bs, e, f⟩ := List.find?_eq_some_iff_append.1 h
  refine ⟨by simpa using a, fun k hk => ?_⟩
  have sorted : allRecNos.Pairwise (· < ·) := List.pairwise_lt_finRange 64
  have mem : k ∈ as ++ n :: bs := e ▸ mem_allRecNos k
  rw [e] at sorted
  obtain ⟨_, hb, _⟩ := List.pairwise_append.1 sorted
  rcases List.mem_append.1 mem with m | m
  · have := f k m
    intro c
    simp [c] at this
  · rcases List.mem_cons.1 m with rfl | m
    · exact absurd hk (lt_irrefl _)
    · exact absurd (lt_trans hk ((List.pairwise_cons.1 hb).1 k m)) (lt_irrefl _)

/-- No slot is free exactly when every slot is allocated (R2). -/
theorem State.lowestFree_none {s : State} : s.lowestFree = none ↔ ∀ n, s.record n ≠ none := by
  constructor
  · intro h n c
    have := List.find?_eq_none.1 h n (mem_allRecNos n)
    simp [c] at this
  · intro h
    refine List.find?_eq_none.2 fun n _ => ?_
    have := h n
    cases k : s.record n <;> simp_all

/-- The allocation count is 64 exactly when every slot is allocated (R1). -/
theorem State.allocationCount_full {s : State} : s.allocationCount = 64 ↔ ∀ n, s.record n ≠ none := by
  have len : allRecNos.length = 64 := List.length_finRange
  unfold State.allocationCount
  rw [← len, List.countP_eq_length]
  constructor
  · intro h n c
    have := h n (mem_allRecNos n)
    simp [c] at this
  · intro h n _
    have := h n
    cases k : s.record n <;> simp_all

theorem State.allocationCount_le (s : State) : s.allocationCount ≤ 64 := by
  have len : allRecNos.length = 64 := List.length_finRange
  exact len ▸ List.countP_le_length

/-! ## How often the places hold a record (R29) -/

/-- What a place adds to the holdings when it is joined. -/
theorem Lanes.holdings_eq (l : Lanes) (n : RecNo) :
    l.holdings n =
      (l.lp.a.toList.count n + l.lp.b.toList.count n + l.lp.c.toList.count n + l.lp.d.toList.count n)
        + (l.outfeed.a.count n + l.outfeed.b.count n + l.outfeed.c.count n + l.outfeed.d.count n)
        + l.spur.count n + l.acc.count n + (l.cells.filterMap id).count n + (l.xt.map (·.rack)).count n
        + l.unl.count n + l.ret.count n + (l.off.map (·.rack)).count n := by
  simp only [Lanes.holdings, Place.holding, List.map_cons, List.map_nil, List.sum_cons, List.sum_nil, Lanes.contents,
    PerStation.get]
  omega

/-- One record on its own. -/
theorem count_one (n m : RecNo) : ([n] : List RecNo).count m = if m = n then 1 else 0 := by
  by_cases h : m = n
  · subst h
    simp
  · rw [if_neg h, List.count_eq_zero]
    simpa using h

theorem held_some (n : RecNo) (cells : List (Option RecNo)) :
    (some n :: cells).filterMap id = n :: cells.filterMap id := rfl

theorem held_none (cells : List (Option RecNo)) : (none :: cells).filterMap id = cells.filterMap id := rfl

/-- A record sent to OFF is held once more (R34). -/
theorem Lanes.holdings_sendOff (l : Lanes) (n m : RecNo) (r : OffReason) :
    (l.sendOff n r).holdings m = l.holdings m + if m = n then 1 else 0 := by
  simp only [Lanes.holdings_eq, Lanes.sendOff, List.map_append, List.count_append, List.map_cons, List.map_nil,
    count_one]
  omega

/-- A record that joins SPUR, ACC, UNL or RET is held once more (R30). -/
theorem Lanes.holdings_join_fifo (l : Lanes) (p : Place) (n m : RecNo)
    (hp : p = .spur ∨ p = .acc ∨ p = .unl ∨ p = .ret) :
    (l.join p n).holdings m = l.holdings m + if m = n then 1 else 0 := by
  have one := count_one n m
  rcases hp with rfl | rfl | rfl | rfl <;>
    simp only [Lanes.holdings_eq, Lanes.join, List.count_append, one] <;> omega

/-- A record that fills an empty loading position is held once more (R31). -/
theorem Lanes.holdings_join_lp (l : Lanes) (x : Station) (n m : RecNo) (h : l.lp.get x = none) :
    (l.join (.lp x) n).holdings m = l.holdings m + if m = n then 1 else 0 := by
  have one : (some n).toList.count m = if m = n then 1 else 0 := count_one n m
  cases x <;> simp only [PerStation.get] at h <;>
    simp only [Lanes.holdings_eq, Lanes.join, PerStation.set, h, one, Option.toList_none, List.count_nil] <;> omega

/-- A record that enters an empty cell 0 is held once more (R32). -/
theorem Lanes.holdings_join_tun (l : Lanes) (n m : RecNo) (h : l.cellZeroEmpty = true) :
    (l.join .tun n).holdings m = l.holdings m + if m = n then 1 else 0 := by
  have one := count_one n m
  cases e : l.cells with
  | nil => simp [Lanes.cellZeroEmpty, e] at h
  | cons c rest =>
    have hc : c = none := by simpa [Lanes.cellZeroEmpty, e] using h
    subst hc
    have k : (n :: rest.filterMap id).count m = (rest.filterMap id).count m + if m = n then 1 else 0 := by
      rw [← count_one n m, ← List.singleton_append, List.count_append, Nat.add_comm]
    simp only [Lanes.holdings_eq, Lanes.join, e, List.set_cons_zero, held_some, held_none, k]
    omega

/-- The shift of the cells with an empty last cell holds what it held (R75). -/
theorem Lanes.holdings_shifted_empty (l : Lanes) (m : RecNo) (h : l.lastCell = none) :
    l.shifted.holdings m = l.holdings m := by
  have k : (l.cells.dropLast.filterMap id) = l.cells.filterMap id := by
    rcases List.eq_nil_or_concat l.cells with e | ⟨cs, c, e⟩
    · simp [e]
    · have hc : c = none := by simpa [Lanes.lastCell, e] using h
      simp [e, hc]
  rw [Lanes.holdings_eq, Lanes.holdings_eq]
  show _ + ((none :: l.cells.dropLast).filterMap id).count m + _ + _ + _ + _ = _
  rw [List.filterMap_cons_none rfl, k]
  rfl

/-- The shift of the cells drops the record of the last cell (R75). -/
theorem Lanes.holdings_shifted (l : Lanes) (n m : RecNo) (h : l.lastCell = some n) :
    l.shifted.holdings m + (if m = n then 1 else 0) = l.holdings m := by
  have one := count_one n m
  rcases List.eq_nil_or_concat l.cells with e | ⟨cs, c, e⟩
  · simp [Lanes.lastCell, e] at h
  · have hc : c = some n := by simpa [Lanes.lastCell, e] using h
    subst hc
    simp only [Lanes.holdings_eq, Lanes.shifted, e, List.concat_eq_append, List.dropLast_concat, held_some,
      held_none, List.filterMap_append, List.filterMap_nil, List.count_append, one]
    omega

/-- A record taken out of every place is held by none, the others as often as before (R47). -/
theorem Lanes.holdings_remove (l : Lanes) (n m : RecNo) :
    (l.remove n).holdings m = if m = n then 0 else l.holdings m := by
  have close (q : List RecNo) : (q.filter (· ≠ n)).count m = if m = n then 0 else q.count m := by
    by_cases h : m = n
    · subst h
      simp [List.count_eq_zero]
    · rw [List.count_filter (by simpa using h)]
      simp [h]
  have gone (o : Option RecNo) :
      (if o = some n then none else o).toList.count m = if m = n then 0 else o.toList.count m := by
    rcases o with _ | k
    · simp
    · rw [Option.toList_some, count_one]
      by_cases e : k = n
      · subst e
        by_cases h : m = k <;> simp [h]
      · rw [if_neg (by simpa using e), Option.toList_some, count_one]
        by_cases h : m = n
        · subst h
          rw [if_pos rfl, if_neg fun c : m = k => e c.symm]
        · simp [h]
  have cells : ((l.cells.map fun o => if o = some n then none else o).filterMap id) =
      (l.cells.filterMap id).filter (· ≠ n) := by
    induction l.cells with
    | nil => rfl
    | cons c cs ih =>
      rcases c with _ | k
      · simpa only [List.map_cons, List.filterMap_cons, id, reduceCtorEq, if_false] using ih
      · by_cases e : k = n
        · rw [List.map_cons, if_pos (by rw [e]), List.filterMap_cons_none rfl, ih]
          show _ = (k :: cs.filterMap id).filter _
          rw [List.filter_cons_of_neg (by simpa using e)]
        · rw [List.map_cons, if_neg (by simpa using e)]
          show k :: List.filterMap id _ = (k :: cs.filterMap id).filter _
          rw [ih, List.filter_cons_of_pos (by simpa using e)]
  have xt : ((l.xt.filter (·.rack ≠ n)).map (·.rack)) = (l.xt.map (·.rack)).filter (· ≠ n) := by
    rw [List.filter_map]
    rfl
  have off : ((l.off.filter (·.rack ≠ n)).map (·.rack)) = (l.off.map (·.rack)).filter (· ≠ n) := by
    rw [List.filter_map]
    rfl
  simp only [Lanes.holdings_eq, Lanes.remove, close, gone, cells, xt, off]
  by_cases h : m = n <;> simp [h]

/-! ## A new head of UNL (R124, R125) -/

theorem State.setDiverter_slots (s : State) : s.setDiverter.slots = s.slots := by
  unfold State.setDiverter
  repeat' split
  all_goals rfl

theorem State.setDiverter_lanes (s : State) : s.setDiverter.lanes = s.lanes := by
  unfold State.setDiverter
  repeat' split
  all_goals rfl

@[simp] theorem State.takeNewHead_lanes (s before : State) : (s.takeNewHead before).lanes = s.lanes := by
  unfold State.takeNewHead
  repeat' split
  all_goals simp [State.setDiverter_lanes]

/-- The records after a new head has been taken: the head's rejection check, and no other record. -/
theorem State.record_takeNewHead (s before : State) (n : RecNo) :
    (s.takeNewHead before).record n =
      if s.lanes.unl.head? = some n ∧ before.lanes.unl.head? ≠ some n then
        (s.record n).map fun r => r.rejectedAt s.working.rewashLimit
      else s.record n := by
  unfold State.takeNewHead
  split
  · rename_i m hm
    split
    · rename_i hb
      rw [if_neg]
      rintro ⟨h, k⟩
      rw [hm] at h
      cases h
      exact k hb
    · rename_i hb
      rw [State.record_raiseMark, State.record_congr (State.setDiverter_slots _), State.record_updateRecord]
      by_cases e : n = m
      · subst e
        simp [hm, hb]
      · have : ¬(s.lanes.unl.head? = some n ∧ before.lanes.unl.head? ≠ some n) := by
          rintro ⟨h, _⟩
          rw [hm] at h
          cases h
          exact e rfl
        rw [if_neg this]
        simp [e]
  · rename_i hm
    rw [if_neg]
    rintro ⟨h, _⟩
    rw [hm] at h
    cases h

end Sys2Proof.Machine
end

