-- ==== Sys2Proof/Tests/Slice0.lean ====
section
/-! SUPPORT. Tests: the smoke test of `WellFormed`, requests written out octet by octet from R191, single commands against
the worked examples and the tables of the spec, and for every statement with hypotheses a state that meets them. -/

namespace Sys2Proof.Tests

open Sys2Proof Sys2Proof.Machine

set_option maxRecDepth 20000

/-! ## States -/

/-- The part after a command; no command faults or is refused. -/
def after (c : Instr) (s : State) : State :=
  match exec c s with
  | .next t => t
  | .fault f => nomatch f
  | .refused _ => s

/-- The part with its places changed. -/
def lanesAs (s : State) (f : Lanes → Lanes) : State := { s with lanes := f s.lanes }

/-- The part in a loop state. -/
def loopAs (s : State) (l : LoopState) : State := { s with executor := { s.executor with loop := l } }

/-- The part with a record in a slot. -/
def rackAs (s : State) (n : RecNo) (r : Record) : State := s.setSlot n (some r)

/-- The part with the drain flag set by the panel node. -/
def draining (s : State) : State := { s with executor := { s.executor with drain := some (.node .panel) } }

/-- The part with a command pending from the panel node. -/
def pendingAs (s : State) (c : LineCommand) : State := s.setBit c (.node .panel)

/-- The part with a blockage of length `l` in progress at `e`. -/
def blockedAt (s : State) (e : Eye) (l : Nat) : State :=
  s.setEye e { s.eyes.get e with blocked := true, start := false, blockage := some ⟨l, false, false⟩, jamTimer := some 9 }

/-- After reset. -/
def base : State := State.reset

/-- In RUN, every node present, the tunnel node READY and the drive node RUNNING. -/
def running : State :=
  { base with
    executor := { base.executor with loop := .run }
    tunnel := { base.tunnel with permit := true, stall := some 30000 }
    line :=
      { base.line with
        tunnelCode := .ready, driveCode := .running
        nodes := PerNode.const { NodeLine.reset with present := true } } }

/-- A soiled rack finished at station A. -/
def soiled : Record :=
  { Record.registered with state := .loaded, origin := some .a, load := [⟨4, 1, 12⟩], ceiling := 1 }

/-- A rack in the tunnel. -/
def inTunnel : Record := { soiled with state := .inWash, fixed := true }

/-- A clean rack with ware. -/
def clean : Record := { inTunnel with state := .clean, credit := 8760, rinseMin := some 165, rinseSamples := 200 }

/-- A short rack. -/
def short : Record := { inTunnel with state := .short, reasons := ⟨true, false, false, false, false⟩ }

/-- Rack 9 in ACC, with a soiled record. -/
def rackInAcc (s : State) : State := lanesAs (rackAs s 9 soiled) fun l => { l with acc := [9] }

/-- Rack 9 at the head of UNL. -/
def rackAtHead (s : State) (r : Record) : State := lanesAs (rackAs s 9 r) fun l => { l with unl := [9] }

/-- Rack 9 at loading position C. -/
def rackAtC (s : State) (r : Record) : State := lanesAs (rackAs s 9 r) fun l => { l with lp := l.lp.set .c (some 9) }

/-- The six entries of rack 9 in the worked example of section 1.4. -/
def nine : Record :=
  { Record.registered with
    state := .loading, ceiling := 2
    load := [⟨4, 1, 12⟩, ⟨4, 1, 10⟩, ⟨7, 2, 6⟩, ⟨2, 0, 15⟩, ⟨4, 1, 8⟩, ⟨9, 1, 3⟩] }

/-- Racks 22 and 23 in outfeed B. -/
def racksInB (s : State) : State :=
  lanesAs (rackAs (rackAs s 22 soiled) 23 soiled) fun l =>
    { l with outfeed := l.outfeed.set .b [22, 23], finishOrder := [22, 23] }

/-- Rack 63 at the head of UNL. -/
def rackAsLast : State := lanesAs (rackAs base 63 clean) fun l => { l with unl := [63] }

/-- A record in every slot. -/
def tableFull (s : State) : State := { s with slots := Vector.replicate 64 (some Record.registered) }

/-! ## WellFormed refuses what is ill formed -/

theorem test_wf_readRack : (Instr.readRack .panel 0x40).wellFormed = false := by decide
theorem test_wf_unloaded : (Instr.unloaded .unload 0xFF).wellFormed = false := by decide
theorem test_wf_rewash : (Instr.rewash .unload 0x40).wellFormed = false := by decide
theorem test_wf_retire : (Instr.retire .panel 0x80).wellFormed = false := by decide
theorem test_wf_readLane : (Instr.readLane .panel 0x10 0).wellFormed = false := by decide
theorem test_wf_register : (Instr.register .panel 0x08).wellFormed = false := by decide
theorem test_wf_place_number : (Instr.place .panel 0x40 0x0D).wellFormed = false := by decide
theorem test_wf_place_target : (Instr.place .panel 0x00 0x09).wellFormed = false := by decide
theorem test_wf_load_number : (Instr.load .panel 0x40 false false []).wellFormed = false := by decide
theorem test_wf_load_length :
    (Instr.load .panel 0x00 false false (List.replicate 15 ⟨1, 1, 1⟩)).wellFormed = false := by decide
theorem test_wf_load_kind : (Instr.load .panel 0x00 false false [⟨0, 1, 1⟩]).wellFormed = false := by decide
theorem test_wf_load_count : (Instr.load .panel 0x00 false false [⟨1, 1, 16⟩]).wellFormed = false := by decide
theorem test_wf_set : (Instr.set .panel 0x20 0x00 0).wellFormed = false := by decide
theorem test_wf_get : (Instr.get .panel 0x0A 0x09).wellFormed = false := by decide
theorem test_wf_frameEnd_slots : (Instr.frameEnd (List.replicate 31 0) []).wellFormed = false := by decide
theorem test_wf_frameEnd_order : (Instr.frameEnd [] [.pumpMap, .pumpMap]).wellFormed = false := by decide
theorem test_wf_eyeSample_eyes : (Instr.eyeSample [.ds, .ds] false []).wellFormed = false := by decide
theorem test_wf_eyeSample_order : (Instr.eyeSample [] false [.estop, .estop]).wellFormed = false := by decide

/-! ## Requests written out from R191 -/

/-- LOAD of rack 9 with finish and two entries: kind 05h, number, flags, count, then kind and class, count. -/
theorem test_decode_load :
    decodeRequest [0b00000101, 0b00001001, 0b00000010, 0b00000010, 0b00100001, 0b00001100, 0b01001011, 0b00001111]
      = some (.load 0x09 false true [⟨4, 1, 12⟩, ⟨9, 3, 15⟩]) := by decide
theorem test_decode_set : decodeRequest [0x0C, 0x10, 0x00, 0x13, 0x88] = some (.set 0x10 0x00 5000) := by decide
theorem test_decode_place : decodeRequest [0x09, 0x0B, 0x08] = some (.place 0x0B 0x08) := by decide
theorem test_decode_command : decodeRequest [0x0B, 0x05] = some (.command 0x05) := by decide
theorem test_decode_unknown_kind : decodeRequest [0x0E] = none := by decide
theorem test_decode_wrong_length : decodeRequest [0x02] = none := by decide
theorem test_decode_load_length : decodeRequest [0x05, 0x09, 0x00, 0x02, 0x21, 0x0C] = none := by decide
theorem test_table_has_no_words : decodeTableWord 8 0 = none := rfl

/-! ## Reset -/

theorem test_reset_broadcast : State.reset.downSlots = resetDown := by decide
theorem test_reset_command : after .hardwareReset (tableFull running) = State.reset := by decide

/-! ## Requests -/

/-- R195, R179: RUN with every node present. -/
theorem test_status_head :
    ((after (.status .drive) running).answer.map fun a => a.octets.take 6) =
      some [0x01, 0x00, 0x03, 0x00, 0xFF, 0x00] := by decide

/-- R195: LP-C occupied is bit 1 of octet 6, and ESTOP bit 4 of octet 19 (notes/assumptions/29.md). -/
theorem test_status_bit_order :
    ((after (.status .panel) (after .estopActive (rackAtC running nine))).answer.map
      fun a => (a.octets[6]?, a.octets[19]?)) = some (some 0x02, some 0x10) := by decide
theorem test_readRack_free : (after (.readRack .drive 0x05) base).answer = some ⟨.drive, [0x02, 0x14]⟩ := by decide
theorem test_readLane_spur :
    (after (.readLane .unload 0x09 0x00) (rackInAcc base)).answer =
      some ⟨.unload, [0x03, 0x00, 0x09, 0x01, 0x00, 0x01, 0x09, 0x02]⟩ := by decide
theorem test_register_lowest :
    (after (.register .panel 0x0D) (rackAs base 0 soiled)).lanes.ret = [1] := by decide

/-- Worked example "keeping the last eight entries", the first request. -/
theorem test_load_keeps_last_eight :
    (after (.load (.station .c) 0x09 false false [⟨11, 0, 15⟩, ⟨3, 3, 2⟩, ⟨4, 1, 9⟩, ⟨9, 1, 4⟩])
      (rackAtC base nine)).record 9 = some { nine with
        ceiling := 3
        load := [⟨7, 2, 6⟩, ⟨2, 0, 15⟩, ⟨4, 1, 8⟩, ⟨9, 1, 3⟩, ⟨11, 0, 15⟩, ⟨3, 3, 2⟩, ⟨4, 1, 9⟩, ⟨9, 1, 4⟩] } := by
  decide

/-- The same example, the third request. -/
theorem test_load_finish :
    (after (.load .panel 0x09 false true []) (rackAtC base nine)).lanes.finishOrder = [9] := by decide
theorem test_unloaded : ((after (.unloaded .unload 0x09) (rackAtHead running clean)).record 9) =
    some Record.registered := by decide
theorem test_rewash : ((after (.rewash .unload 0x09) (rackAtHead running clean)).record 9).map (·.reasons) =
    some ⟨false, false, false, false, true⟩ := by decide
theorem test_retire : (after (.retire .panel 0x16) (racksInB base)).lanes.finishOrder = [23] := by decide
theorem test_place :
    ((after (.place .panel 0x09 0x08)
      (lanesAs (rackAs base 9 inTunnel) fun l => { l with off := [⟨9, .entryDouble⟩] })).record 9).map (·.state) =
      some .loaded := by decide
theorem test_purge : (after (.purge .panel) (tableFull base)).allocationCount = 0 := by decide
theorem test_set_clamps :
    (after (.set .panel 0x10 0x00 0xFFFF) base).answer = some ⟨.panel, [0x0C, 0x03, 0xEA, 0x60]⟩ := by decide
theorem test_get_default :
    (after (.get .panel 0x10 0x00) base).answer = some ⟨.panel, [0x0D, 0x00, 0x13, 0x88, 0x13, 0x88]⟩ := by decide

/-! ## Line commands and the executor -/

theorem test_stop : (after (.stop .drive) running).executor.loop = .stopped := by decide
theorem test_clear : (after (.clear .panel) (loopAs running .stopped)).executor.loop = .ready := by decide
theorem test_setup : (after (.setup .panel) (loopAs base .ready)).executor.loop = .idle := by decide
theorem test_commit : (after (.commit .panel) base).executor.loop = .ready := by decide
theorem test_hold : (after (.hold (.station .b)) running).executor.loop = .holding (.node (.station .b)) := by decide
theorem test_drain : (after (.drain .panel) (rackInAcc running)).executor.drain = some (.node .panel) := by decide
theorem test_run_waits :
    (after (.run .panel) (loopAs base .ready)).executor.loop = .starting .ready (.node .panel) := by decide
theorem test_run_at_once : (after (.run .panel) (loopAs running .ready)).executor.loop = .run := by decide
theorem test_startingComplete :
    (after .startingComplete (loopAs running (.starting .hold (.node .panel)))).executor.loop = .run := by decide
theorem test_holdingEnd :
    (after .holdingEnd { loopAs running (.holding .internal) with
      line := { running.line with driveCode := .ready } }).executor.loop = .hold := by decide
theorem test_heatTimerExpiry :
    (after .heatTimerExpiry { base with executor := { base.executor with
      loop := .starting .hold (.node .panel), heatTimer := some 1 } }).executor.outcomes.run =
      ⟨.failed, some (.node .panel), none⟩ := by decide
theorem test_settleTimerExpiry :
    (after .settleTimerExpiry { running with executor := { running.executor with
      loop := .holding .internal, settleTimer := some 1 } }).executor.loop = .hold := by decide
theorem test_drainComplete :
    (after .drainComplete (draining (rackAtHead running clean))).executor.loop = .ready := by decide

/-! ## Trackpoints -/

theorem test_blockedEdge :
    (after (.blockedEdge .sp) base).eyes.sp.blockage = some ⟨0, true, false⟩ := by decide

/-- Worked example "two racks at the gate", the second passage. -/
theorem test_entry_double :
    (after (.clearEdge .en) (blockedAt (lanesAs (rackAs (rackAs running 7 inTunnel) 11 soiled) fun l =>
      { l with acc := [11], cells := l.cells.set 0 (some 7) }) .en 9000)).lanes.off = [⟨11, .entryDouble⟩] := by decide

/-- Worked example "classifications": 901 ms at OC is DOUBLE. -/
theorem test_classify_double : Blockage.classify ⟨901, false, false⟩ 300 900 = .double := by decide
theorem test_jam :
    (after (.jam .ds) (blockedAt running .ds 4000)).executor.holdCauses.jam.ds = true := by decide
theorem test_estopActive : (after .estopActive running).executor.stopCauses.estop = true := by decide
theorem test_estopReleased :
    (after .estopReleased { base with estop := ⟨true, 0⟩ }).estop = ⟨false, 0⟩ := by decide

/-- Worked example "filtering a flicker", sample 7. -/
theorem test_eyeSample_edge :
    ((after (.eyeSample [.outfeed .b] false [])
      (base.setEye (.outfeed .b) ⟨false, 4, false, none, none, ⟨.none, none, false⟩⟩)).eyes.ob.blockage) =
      some ⟨0, false, false⟩ := by decide

/-! ## The tunnel and the heat credit -/

theorem test_encoderCount : (after .encoderCount base).tunnel.pitch = 599 := by decide

/-- Worked example "verdicts at the exit", rack 9. -/
theorem test_verdict_cold :
    ({ inTunnel with ceiling := 6, credit := 9800, rinseSamples := 150, rinseMin := some 163 } : Record).verdictReasons
      Settings.default = ⟨false, false, true, false, false⟩ := by decide

/-- Worked example "hand jogging in a hold", the second step. -/
theorem test_step_overflow :
    (after .step (lanesAs (rackAs base 9 inTunnel) fun l =>
      { l with cells := List.replicate 15 none ++ [some 9], xt := [⟨3, .timing 2100⟩, ⟨5, .timing 5000⟩] })).lanes.xt =
      [⟨5, .timing 5000⟩, ⟨9, .timing 5000⟩] := by decide
theorem test_exitMissing :
    (after (.exitMissing 5) (lanesAs running fun l => { l with xt := [⟨5, .timing 0⟩] })).lanes.off =
      [⟨5, .exitMissing⟩] := by decide

/-- Section 4.5, second example: racks 5 and 9 run out of their windows in one millisecond, and each goes to OFF. -/
theorem test_exitMissing_both :
    (after (.exitMissing 9) (after (.exitMissing 5)
      (lanesAs running fun l => { l with xt := [⟨5, .timing 0⟩, ⟨9, .timing 0⟩] }))).lanes.off =
      [⟨5, .exitMissing⟩, ⟨9, .exitMissing⟩] := by decide
theorem test_tunnelStall : (after .tunnelStall running).executor.holdCauses.tunnelStall = true := by decide

/-- R105: the table of D and q. -/
theorem test_filter_rounds :
    [filterStep 100 102, filterStep 100 106, filterStep 100 98, filterStep 100 93, filterStep 2400 2240]
      = [101, 102, 99, 98, 2360] := by decide

/-- Worked example "a faulty rinse sensor", sample 4. -/
theorem test_creditSample :
    ((after .creditSample { lanesAs (rackAs base 31 { inTunnel with
        credit := 2910, rinseMin := some 168, rinseSamples := 1, sensorFault := true }) fun l =>
          { l with cells := l.cells.set 11 (some 31) } with
      heat := { base.heat with zones := base.heat.zones.set .finalRinse ⟨some 160, true, false, 2688, 168⟩ } }).record
        31).map (fun r => (r.credit, r.rinseMin, r.rinseSamples)) = some (2918, some 166, 2) := by decide

/-- Worked example "speed code over a few steps", the second row. -/
theorem test_speedCode :
    (lanesAs (rackAs (rackAs (rackAs base 22 { inTunnel with ceiling := 1 }) 17 { inTunnel with ceiling := 2 }) 6
      { inTunnel with ceiling := 7 }) fun l =>
        { l with cells := ((l.cells.set 5 (some 22)).set 11 (some 17)).set 13 (some 6) }).speedCode = 1 := by decide

/-! ## Permissions -/

theorem test_release : (after .unloadReleaseOpen (rackAtHead running short)).unload.release =
    some ⟨9, .toSpur⟩ := by decide
theorem test_mergeGrant : (after .mergeGrantOpen (racksInB running)).merge =
    some ⟨.station .b, .timing 6000, false⟩ := by decide
theorem test_dispatchGrant :
    (after .dispatchGrantOpen { lanesAs (rackAs running 9 Record.registered) fun l => { l with ret := [9] } with
      line := { running.line with stationCode := ⟨.want, .want, .idle, .idle⟩ }
      dispatch := ⟨⟨true, false, false, false⟩, none, some .a⟩ }).dispatch =
      ⟨⟨true, true, false, false⟩, some ⟨.b, .timing 6000, none⟩, some .b⟩ := by decide
theorem test_mergeTimeout :
    (after .mergeTimeout { racksInB running with merge := some ⟨.station .b, .timing 1, false⟩ }).eyes.ob.anomaly =
      ⟨.mergeTimeout, some 22, true⟩ := by decide
theorem test_dispatchTimeout :
    (after .dispatchTimeout { running with
      dispatch := ⟨PerStation.const false, some ⟨.a, .timing 1, none⟩, some .a⟩ }).eyes.ds.anomaly =
      ⟨.dispatchTimeout, none, true⟩ := by decide

/-- The first row of R147, expiry first: the passage that begins in the same millisecond is not granted. -/
theorem test_expiry_then_blocked :
    (after (.blockedEdge (.outfeed .b)) (after .mergeTimeout
      { racksInB running with merge := some ⟨.station .b, .timing 0, false⟩ })).merge = none := by decide

/-! ## The line -/

theorem test_frameEnd_number : (after (.frameEnd [] []) base).line.frame = 1 := by decide

/-- R181: the panel node shows 00h in two frames and is present. -/
theorem test_frameEnd_present :
    (after (.frameEnd [0x00] []) (after (.frameEnd [0x00] []) base)).present .panel = true := by decide
theorem test_requestTimeout :
    ((after (.requestTimeout .panel) (running.setChannel .panel { Channel.reset with
      state := .receiving, request := [0x05], frames := 63 })).channel .panel).state = .discarding := by decide
theorem test_responseDrop :
    ((after (.responseDrop .panel) (running.setChannel .panel { Channel.reset with
      state := .sending, response := [0x05, 0x10], frames := 63 })).channel .panel).state = .idle := by decide
theorem test_nodeAbsent : (after (.nodeAbsent .drive) running).executor.stopCauses.driveAbsent = true := by decide
theorem test_tick : (match step running with
    | .next t => t.tunnel.stall
    | _ => none) = some 29999 := by decide

/-! ## A state for the hypotheses of every statement -/

/-- Every timer of the part runs, with two milliseconds left, and `k` on the credit timer. -/
def timersRun (k : Nat) : State :=
  { lanesAs running fun l => { l with xt := [⟨5, .timing 2⟩] } with
    eyes := base.eyes.map fun t => { t with jamTimer := some 2 }
    tunnel := ⟨600, false, true, some 2⟩
    heat := { base.heat with sampleTimer := k }
    merge := some ⟨.spur, .timing 2, false⟩
    dispatch := ⟨PerStation.const false, some ⟨.a, .timing 2, none⟩, some .a⟩
    executor := { running.executor with heatTimer := some 2, settleTimer := some 2 } }

theorem witness_StepRunsFrontCommand :
    ({ base with pending := [.step, .creditSample] } : State).pending = .step :: [.creditSample] := rfl

theorem witness_IdleStepIsOneMillisecond (k : Nat) (hk : k = 1 ∨ k = 2) :
    let s := timersRun k
    s.pending = [] ∧ (∀ e ∈ Eye.all, ∀ k ∈ (s.eyes.get e).jamTimer, 2 ≤ k) ∧ (∀ k ∈ s.tunnel.stall, 2 ≤ k)
      ∧ (∀ x ∈ s.lanes.xt, x.window.outlasts) ∧ (∀ g ∈ s.merge, g.window.outlasts)
      ∧ (∀ g ∈ s.dispatch.grant, g.window.outlasts) ∧ (∀ k ∈ s.executor.heatTimer, 2 ≤ k)
      ∧ (∀ k ∈ s.executor.settleTimer, 2 ≤ k) ∧ (s.heat.sampleTimer ≤ 1 ∨ 2 ≤ s.heat.sampleTimer) := by
  rcases hk with rfl | rfl <;> decide

theorem witness_RequestOctetsDecodeBack :
    (Request.load 0x3F true true (List.replicate 14 ⟨31, 7, 255⟩)).encodable = true := by decide

theorem witness_RequestRowIsItsMessage :
    (Instr.load .panel 0x09 true false [⟨31, 7, 15⟩]).request = some (.panel, .load 0x09 true false [⟨31, 7, 15⟩])
      ∧ (Request.load 0x09 true false [⟨31, 7, 15⟩]).encodable = true := by decide
/-- Refused, ALREADY_PENDING, and carried out. -/
theorem witness_RefusedRequest :
    (after (.purge .tunnel) base).answer = some ⟨.tunnel, [0x0A, 0x10]⟩
      ∧ (after (.run .panel) (pendingAs base .run)).answer = some ⟨.panel, [0x0B, 0x02]⟩
      ∧ (after (.purge .panel) base).answer = some ⟨.panel, [0x0A, 0x00]⟩ := by decide

theorem witness_RolesAreChecked :
    Node.tunnel ≠ .panel ∧ Node.tunnel ≠ .unload ∧ registerPlace 0x01 = some (.lp .b) ∧ Place.lp .b ≠ .lp .a
      ∧ ([] : List LoadEntry).length ≤ 14 := by decide
theorem witness_ArgumentsAreChecked :
    64 ≤ (0x40 : Octet).toNat ∧ 16 ≤ (0x10 : Octet).toNat ∧ 4 ≤ (0x04 : Octet).toNat ∧ (0x04 : Octet) ≠ 0x08
      ∧ (0x04 : Octet) ≠ 0x0D ∧ Param.ofCode 0x20 0x00 = none ∧ Param.ofCode 0x0A 0x09 = none := by decide

theorem witness_Status :
    (9 : RecNo) ∈ (rackAtHead base clean).lanes.unl.head? ∧ clean ∈ (rackAtHead base clean).record 9
      ∧ base.lanes.unl = [] := by decide

theorem witness_Read :
    recNoOf 0x3F = some 63 ∧ base.record 63 = none ∧ (rackAsLast).record 63 = some clean
      ∧ rackAsLast.lanes.placeOf 63 = some .unl ∧ Place.ofCode 0x0F = some .finishOrder
      ∧ Place.ofCode 0x0A = some .tun := by decide

theorem witness_Set :
    Param.ofCode 0x17 0x4F = some (.zoneWeight .dryer 15) ∧ Param.ofCode 0x01 0x00 = some .rackLimit
      ∧ Param.ofCode 0x02 0x00 = some .unknownClass ∧ Param.ofCode 0x03 0x00 = some .fixPoint
      ∧ Param.ofCode 0x1F 0x00 = some .framePeriod ∧ base.executor.loop = .idle ∧ running.executor.loop ≠ .idle
      ∧ Param.fixPoint.admits 1 = true ∧ Param.framePeriod.admits 3 = false := by decide

theorem witness_Register :
    registerPlace 0x0D = some .ret ∧ registerPlace 0x02 = some (.lp .c)
      ∧ base.allocationCount < base.single.rackLimit ∧ base.isFull .ret = false ∧ base.isFull (.lp .c) = false := by
  decide
/-- SPUR and RET are empty, with no grant open. -/
theorem witness_becomes_nonempty :
    running.lanes.spur = [] ∧ running.lanes.ret = [] ∧ running.merge = none ∧ running.dispatch.grant = none
      ∧ running.executor.drain = none := by decide
theorem witness_Register_refused :
    (tableFull base).allocationCount = 64 ∧ (rackAtC base nine).isFull (.lp .c) = true
      ∧ ({ base with single := ⟨0, 7, .entry⟩ } : State).single.rackLimit ≤ base.allocationCount := by decide

theorem witness_LoadDeclares :
    let s := rackAtC base nine
    let t := rackInAcc base
    s.record 9 = some nine ∧ nine.fixed = false ∧ s.lanes.placeOf 9 = some (.lp .c)
      ∧ t.record 9 = some soiled ∧ soiled.fixed = false ∧ t.lanes.placeOf 9 = some .acc ∧ soiled.origin = some .a
      ∧ (List.replicate 14 (⟨31, 7, 15⟩ : LoadEntry)).length ≤ 14
      ∧ ∀ e ∈ List.replicate 14 (⟨31, 7, 15⟩ : LoadEntry), e.kind ≠ 0 ∧ e.count.val ≠ 0 ∧ e.count.val ≤ 15 := by decide
theorem witness_LoadFinishes :
    let s := rackAtC base nine
    s.record 9 = some nine ∧ nine.fixed = false ∧ s.lanes.placeOf 9 = some (.lp .c) ∧ s.executor.drain = none
      ∧ (s.lanes.outfeed.get .c).length < s.working.outfeedCap := by decide
/-- The finish-order list is empty, and station C wants a rack once its position is empty. -/
theorem witness_LoadFinishes_decides :
    let s := { rackAtC running nine with line := { running.line with stationCode := PerStation.const .want } }
    s.record 9 = some nine ∧ nine.fixed = false ∧ s.lanes.placeOf 9 = some (.lp .c) ∧ s.executor.drain = none
      ∧ (s.lanes.outfeed.get .c).length < s.working.outfeedCap ∧ s.lanes.finishOrder = []
      ∧ s.present (.station .c) = true ∧ s.line.stationCode.get .c = .want ∧ s.merge = none
      ∧ s.dispatch.grant = none := by decide

theorem witness_LoadRefusals :
    (∃ e ∈ [(⟨0, 1, 1⟩ : LoadEntry)], e.kind = 0) ∧ (∃ e ∈ [(⟨1, 1, 16⟩ : LoadEntry)], 15 < e.count.val)
      ∧ base.record 9 = none
      ∧ ((rackInAcc base).lanes.placeOf 9 ≠ some (.lp .b) ∧ soiled.origin ≠ some .b)
      ∧ (rackAtHead base clean).lanes.placeOf 9 = some .unl ∧ ({ clean with fixed := false } : Record).fixed = false
      ∧ (rackInAcc base).lanes.placeOf 9 = some .acc ∧ (draining (rackAtC base nine)).executor.drain ≠ none
      ∧ (let s := lanesAs (rackAtC base nine) fun l => { l with outfeed := l.outfeed.set .c [1, 2, 3] }
        s.lanes.placeOf 9 = some (.lp .c) ∧ s.working.outfeedCap ≤ (s.lanes.outfeed.get .c).length) := by decide

theorem witness_Retire :
    base.record 22 = none ∧ (racksInB base).record 22 ≠ none ∧ (racksInB base).inRun = false
      ∧ (racksInB running).inRun = true := by decide
/-- In RUN the rack retired is the head of the granted source, or of RET under a dispatch grant. -/
theorem witness_Retire_withdraws :
    let s := { racksInB running with merge := some ⟨.station .b, .timing 6000, false⟩ }
    let t := { lanesAs (rackAs running 9 Record.registered) fun l => { l with ret := [9] } with
      dispatch := ⟨PerStation.const false, some ⟨.c, .timing 6000, none⟩, some .c⟩ }
    s.record 22 ≠ none ∧ s.inRun = true ∧ s.executor.drain = none
      ∧ (∃ g ∈ s.merge, s.lanes.sourceHeadOf g.source = some 22)
      ∧ (∃ g ∈ s.merge, s.lanes.sourceHeadOf g.source ≠ some 23)
      ∧ t.record 9 ≠ none ∧ t.inRun = true ∧ t.executor.drain = none ∧ t.dispatch.grant ≠ none
      ∧ t.lanes.ret.head? = some 9 := by decide
/-- Without a grant: the rack retired is the head of the finish-order list, in ACC, or at the position of a station that
wants one. -/
theorem witness_Retire_decides :
    let s := { rackAtC running nine with line := { running.line with stationCode := PerStation.const .want } }
    (racksInB running).lanes.finishOrder.head? = some 22 ∧ (racksInB running).merge = none
      ∧ 9 ∈ (rackInAcc running).lanes.acc ∧ s.lanes.lp.get .c = some 9 ∧ s.present (.station .c) = true
      ∧ s.line.stationCode.get .c = .want ∧ s.dispatch.grant = none ∧ s.executor.drain = none := by decide

theorem witness_Place :
    let s := lanesAs (rackAs base 9 inTunnel) fun l => { l with off := [⟨9, .entryDouble⟩] }
    placeTarget 0x02 = some (.lp .c) ∧ placeTarget 0x08 = some .spur ∧ placeTarget 0x0D = some .ret
      ∧ s.record 9 = some inTunnel ∧ (∃ x ∈ s.lanes.off, x.rack = 9) ∧ s.isFull (.lp .c) = false
      ∧ s.isFull .spur = false ∧ s.isFull .ret = false ∧ base.record 9 = none
      ∧ (∀ x ∈ (rackInAcc base).lanes.off, x.rack ≠ 9)
      ∧ (lanesAs s fun l => { l with spur := [1, 2, 3] }).isFull .spur = true := by decide

theorem witness_Purge : base.executor.loop = .idle ∧ running.executor.loop ≠ .idle ∧ Node.unload ≠ .panel := by decide

theorem witness_HeadOfUnload :
    (rackAtHead running clean).lanes.unl.head? = some 9 ∧ (rackAtHead running clean).record 9 = some clean
      ∧ clean.state = .clean ∧ clean.load ≠ [] ∧ (rackAtHead running short).record 9 = some short
      ∧ short.state = .short ∧ (rackAtHead running { short with state := .rejected }).record 9 =
        some { short with state := .rejected }
      ∧ (rackAtHead running Record.registered).record 9 = some Record.registered
      ∧ base.lanes.unl.head? ≠ some 9 := by decide

theorem witness_CommandsPend :
    (pendingAs base .drain).executor.vector.get .drain = some (.node .panel)
      ∧ (loopAs base (.holding .internal)).nonePending
      ∧ (loopAs base (.holding .internal)).executor.loop.isBusy = true := by decide
/-- RUN arrives with DRAIN and COMMIT waiting. -/
theorem witness_CommandsPend_several :
    let s := pendingAs (pendingAs (loopAs base (.holding .internal)) .drain) .commit
    s.executor.vector.get .run = none ∧ s.executor.vector.stop = none ∧ s.executor.vector.hold = none
      ∧ s.executor.loop.isBusy = true := by decide

theorem witness_Stop : running.nonePending ∧ (loopAs running (.starting .hold .internal)).nonePending := by decide
theorem witness_StopCancels :
    let s := pendingAs (pendingAs (loopAs running (.starting .hold .internal)) .commit) .drain
    s.executor.vector.stop = none ∧ s.executor.vector.clear = none ∧ s.executor.vector.setup = none
      ∧ s.executor.vector.commit = some (.node .panel) ∧ s.executor.vector.get .drain = some (.node .panel) := by decide

theorem witness_ClearAndSetup :
    let s := loopAs running .stopped
    s.nonePending ∧ s.executor.loop.isBusy = false ∧ s.estop.active = false ∧ s.present .drive = true
      ∧ s.line.driveCode ≠ .fault ∧ s.line.driveCode ≠ .estop ∧ (loopAs base .ready).nonePending
      ∧ (loopAs base .ready).executor.loop = .ready := by decide

theorem witness_CommitApplies :
    base.nonePending ∧ base.executor.loop = .idle ∧ base.commitPasses ∧ (loopAs base .hold).nonePending := by decide
/-- One failing check after the other, each with the checks before it passed. -/
theorem witness_CommitFails :
    ({ base with stored := { Settings.default with tunnelCells := 15 } } : State).commitFailure = some ⟨.zoneLayout, 0⟩
    ∧ ({ base with stored := { Settings.default with jamLimit := Settings.default.jamLimit.set .ds 900 } } :
        State).commitFailure = some ⟨.eyeOrder, 8⟩
    ∧ (lanesAs base fun l => { l with ret := List.replicate 17 1 }).commitFailure = some ⟨.laneFill, 7⟩
    ∧ ({ lanesAs base fun l => { l with cells := l.cells.set 15 (some 1) } with
          stored := { Settings.default with tunnelCells := 8, zoneLen := ⟨2, 2, 1, 2, 1⟩ } } : State).commitFailure
        = some ⟨.cellRange, 15⟩
    ∧ (tableFull base).commitFailure = some ⟨.rackCount, 0⟩ := by decide

theorem witness_Hold :
    Node.panel ≠ .tunnel ∧ Node.panel ≠ .drive ∧ running.nonePending ∧ running.executor.drain = none
      ∧ running.line.driveCode = .running ∧ (loopAs running (.starting .ready .internal)).nonePending := by decide
theorem witness_HoldCancelsPendingRun :
    let s := pendingAs (loopAs running (.holding .internal)) .run
    let t := pendingAs (loopAs running (.starting .ready .internal)) .run
    s.executor.vector.hold = none ∧ s.executor.vector.stop = none ∧ s.executor.vector.run = some (.node .panel)
      ∧ t.executor.drain = none
      ∧ t.executor.vector = { PerCommand.const none with run := t.executor.vector.run } := by decide
theorem witness_Drain :
    running.nonePending ∧ running.executor.loop.isBusy = false ∧ running.drained ∧ ¬(rackInAcc running).drained
      ∧ (loopAs base .stopped).nonePending := by decide
theorem witness_Run :
    let s := loopAs running .ready
    s.nonePending ∧ s.executor.loop.isBusy = false ∧ s.executor.drain = none ∧ s.mayRun ∧ s.estop.active = false
      ∧ (∀ e ∈ Eye.all, ∀ b ∈ (s.eyes.get e).blockage, b.jamDeclared = false)
      ∧ ¬(loopAs base .hold).mayRun ∧ ({ s with estop := ⟨true, 0⟩ } : State).estop.active = true := by decide

theorem witness_BusyStatesEnd :
    let s := loopAs running (.starting .hold .internal)
    let t := loopAs running (.holding .internal)
    s.nonePending ∧ s.executor.drain = none ∧ s.mayRun
      ∧ ({ s with executor := { s.executor with heatTimer := some 1 } } : State).executor.heatTimer ≠ none
      ∧ t.nonePending ∧ ({ t with line := { t.line with driveCode := .ready } } : State).line.driveCode ≠ .running
      ∧ ({ t with executor := { t.executor with settleTimer := some 1 } } : State).executor.settleTimer ≠ none := by
  decide
/-- HOLDING ends with DRAIN and RUN pending, and with SETUP before them; STARTING from READY with SETUP and COMMIT. -/
theorem witness_PendingTakenAsBusyEnds :
    let h := loopAs running (.holding .internal)
    let s := pendingAs (pendingAs { h with executor := { h.executor with settleTimer := some 1 } } .drain) .run
    let g := loopAs base (.starting .ready .internal)
    let t := pendingAs (pendingAs { g with executor := { g.executor with heatTimer := some 1 } } .setup) .commit
    s.executor.loop = .holding .internal ∧ s.executor.settleTimer ≠ none ∧ s.executor.drain = none
      ∧ s.executor.vector.stop = none ∧ s.executor.vector.hold = none ∧ s.executor.vector.setup = none
      ∧ s.drained ∧ s.mayRun ∧ (pendingAs s .setup).executor.vector.setup = some (.node .panel)
      ∧ t.executor.loop = .starting .ready .internal ∧ t.executor.heatTimer ≠ none ∧ t.executor.drain = none
      ∧ t.executor.vector.stop = none ∧ t.executor.vector.hold = none
      ∧ t.executor.vector.setup = some (.node .panel) ∧ t.executor.vector.commit = some (.node .panel)
      ∧ t.commitPasses := by decide

theorem witness_DrainCompletes :
    (draining running).executor.drain = some (.node .panel) ∧ (draining running).executor.loop = .run
      ∧ (draining running).drained ∧ ¬(draining (rackInAcc running)).drained := by decide
theorem witness_DrainMeetsAnInternalHold :
    let s := draining (lanesAs (rackAs running 5 clean) fun l => { l with xt := [⟨5, .timing 0⟩] })
    s.nonePending ∧ s.executor.drain = some (.node .panel) ∧ s.executor.loop = .run ∧ s.line.driveCode = .running
      ∧ s.tunnel.permit = true ∧ s.lanes.xt = [⟨5, .timing 0⟩]
      ∧ ∀ n, ∀ r ∈ s.record n, r.state ≠ .loaded ∧ r.state ≠ .inWash ∧ r.state ≠ .short := by decide

theorem witness_BlockedEdge : (base.eyes.get .ex).blocked = false := by decide
/-- An expired window whose arbiter has opened the grant again. -/
def reopenedGrants : State :=
  { racksInB running with
    merge := some ⟨.station .b, .timing 6000, true⟩
    dispatch := ⟨PerStation.const true, some ⟨.a, .timing 6000, some ⟨PerStation.const false, some .b⟩⟩, some .a⟩ }
theorem witness_BlockedEdge_reopened :
    (reopenedGrants.eyes.get (.outfeed .b)).blocked = false ∧ (reopenedGrants.eyes.get .ds).blocked = false
      ∧ (∃ g ∈ reopenedGrants.merge, g.source.eye = .outfeed .b ∧ g.reopened = true)
      ∧ ∃ g ∈ reopenedGrants.dispatch.grant, g.reopened ≠ none := by decide
/-- A length one short of RACK_MIN is debris, RACK_MIN and RACK_MAX one passage, one more a double. -/
theorem witness_lengths :
    (blockedAt base .sp 298).endsAsDebris .sp ∧ (blockedAt base .sp 299).endsAsRack .sp
      ∧ (blockedAt base .sp 899).endsAsRack .sp ∧ (blockedAt base .sp 900).endsAsDouble .sp := by
  refine ⟨⟨by decide, _, rfl, by decide⟩, ⟨by decide, _, rfl, by decide⟩, ⟨by decide, _, rfl, by decide⟩,
    ⟨by decide, _, rfl, by decide⟩⟩

theorem witness_EntryPassage :
    let s := blockedAt (rackInAcc running) .en 9000
    let t := lanesAs s fun l => { l with cells := l.cells.set 0 (some 7) }
    s.endsAsRack .en ∧ s.lanes.acc.head? = some 9 ∧ s.record 9 = some soiled ∧ s.lanes.cells.head? = some none
      ∧ s.executor.loop = .run ∧ s.tunnel.admissionUsed = false
      ∧ t.lanes.cells.head? = some (some 7) ∧ t.nonePending ∧ t.executor.drain = none := by
  refine ⟨⟨by decide, _, rfl, by decide⟩, by decide⟩

theorem witness_MergePassage :
    let s := blockedAt (racksInB running) (.outfeed .b) 600
    let t := lanesAs s fun l => { l with acc := List.replicate 12 1 }
    s.endsAsRack (.outfeed .b) ∧ s.lanes.sourceHeadOf (.station .b) = some 22 ∧ s.record 22 = some soiled
      ∧ s.lanes.acc.length < s.working.accumCap ∧ t.working.accumCap ≤ t.lanes.acc.length ∧ t.nonePending
      ∧ t.executor.drain = none
      ∧ ({ s with merge := some ⟨.station .b, .arriving, false⟩ } : State).merge =
          some ⟨.station .b, .arriving, false⟩ := by
  refine ⟨⟨by decide, _, rfl, by decide⟩, by decide⟩

theorem witness_ExitPassage :
    let s := blockedAt (lanesAs (rackAs running 9 short) fun l => { l with xt := [⟨9, .arriving⟩] }) .ex 9000
    let t := lanesAs s fun l => { l with unl := [1, 2, 3, 4, 5, 6] }
    s.endsAsRack .ex ∧ s.lanes.xt = ⟨9, .arriving⟩ :: [] ∧ s.lanes.unl.length < s.working.unloadCap
      ∧ s.lanes.unl = [] ∧ t.working.unloadCap ≤ t.lanes.unl.length ∧ t.lanes.unl ≠ [] ∧ t.nonePending
      ∧ t.executor.drain = none := by
  refine ⟨⟨by decide, _, rfl, by decide⟩, by decide⟩

theorem witness_UnloadPassage :
    let s := blockedAt (lanesAs (rackAtHead running clean) fun l => { l with unl := [9, 12] }) .ul 600
    let t := lanesAs s fun l => { l with ret := List.replicate 16 1 }
    s.endsAsRack .ul ∧ s.lanes.unl = 9 :: [12] ∧ s.record 9 = some clean ∧ s.unload.diverter = .toReturn
      ∧ ¬s.working.returnCap ≤ s.lanes.ret.length ∧ t.working.returnCap ≤ t.lanes.ret.length ∧ t.nonePending
      ∧ t.executor.drain = none := by
  refine ⟨⟨by decide, _, rfl, by decide⟩, by decide⟩

theorem witness_DispatchPassage :
    let s := blockedAt (lanesAs (rackAs running 9 Record.registered) fun l => { l with ret := [9] }) .ds 600
    let t : State := { s with dispatch := ⟨PerStation.const false, some ⟨.c, .arriving, none⟩, some .c⟩ }
    s.endsAsRack .ds ∧ s.lanes.ret = 9 :: [] ∧ s.dispatch.grant = none ∧ s.dispatch.lastTarget = none
      ∧ t.dispatch.grant = some ⟨.c, .arriving, none⟩ ∧ t.lanes.lp.get .c = none
      ∧ (lanesAs t fun l => { l with lp := l.lp.set .c (some 1) }).lanes.lp.get .c ≠ none ∧ t.nonePending
      ∧ t.executor.drain = none := by
  refine ⟨⟨by decide, _, rfl, by decide⟩, by decide⟩

theorem witness_PhantomPassage :
    let s := blockedAt running .ex 9000
    let t := lanesAs s fun l => { l with unl := [1, 2, 3, 4, 5, 6] }
    s.endsAsRack .ex ∧ s.lanes.sourceHead .ex = none ∧ s.allocationCount < 64 ∧ s.isFull .unl = false
      ∧ t.isFull .unl = true ∧ t.nonePending ∧ t.executor.drain = none ∧ (tableFull s).allocationCount = 64
      ∧ (tableFull s).nonePending := by
  refine ⟨⟨by decide, _, rfl, by decide⟩, by decide⟩
theorem witness_PhantomPassage_ds :
    (blockedAt running .ds 600).endsAsRack .ds ∧ (blockedAt running .ds 600).lanes.sourceHead .ds = none := by
  refine ⟨⟨by decide, _, rfl, by decide⟩, by decide⟩

theorem witness_DoubleIsTwoPassages :
    let s := blockedAt (racksInB running) (.outfeed .b) 1200
    s.endsAsDouble (.outfeed .b) ∧ (22 : RecNo) ≠ 23 ∧ s.lanes.outfeed.get .b = 22 :: 23 :: []
      ∧ s.lanes.acc.length + 2 ≤ s.working.accumCap := by
  refine ⟨⟨by decide, _, rfl, by decide⟩, by decide⟩
theorem witness_Double_en_ex :
    let s := blockedAt (lanesAs (rackAs (rackAs running 9 soiled) 12 soiled) fun l => { l with acc := [9, 12] }) .en
      20000
    let t := blockedAt (lanesAs running fun l => { l with xt := [⟨9, .arriving⟩, ⟨12, .timing 400⟩] }) .ex 20000
    s.endsAsDouble .en ∧ s.lanes.acc = [9, 12] ∧ s.lanes.cells.head? = some none ∧ s.record 9 = some soiled
      ∧ s.record 12 = some soiled ∧ s.nonePending ∧ s.executor.drain = none
      ∧ t.endsAsDouble .ex ∧ t.lanes.xt = ⟨9, .arriving⟩ :: ⟨12, .timing 400⟩ :: []
      ∧ t.lanes.unl.length + 2 ≤ t.working.unloadCap := by
  refine ⟨⟨by decide, _, rfl, by decide⟩, by decide, by decide, by decide, by decide, by decide, by decide,
    ⟨by decide, _, rfl, by decide⟩, by decide⟩
theorem witness_Double_ul_ds :
    let s := blockedAt (lanesAs (rackAs (rackAtHead running clean) 12 short) fun l => { l with unl := [9, 12] }) .ul
      1200
    let t := blockedAt { lanesAs running fun l => { l with ret := [9, 12] } with
      dispatch := ⟨PerStation.const false, some ⟨.c, .arriving, none⟩, some .c⟩ } .ds 1200
    s.endsAsDouble .ul ∧ s.lanes.unl = [9, 12] ∧ s.record 9 = some clean ∧ s.record 12 = some short
      ∧ s.lanes.ret.length + 2 ≤ s.working.returnCap ∧ s.lanes.spur.length + 2 ≤ s.working.spurCap
      ∧ short.state ∈ [RackState.empty, .clean, .short, .rejected]
      ∧ t.endsAsDouble .ds ∧ t.lanes.ret = [9, 12] ∧ t.lanes.lp.get .c = none ∧ t.dispatch.lastTarget = some .c
      ∧ (∀ g ∈ t.dispatch.grant, g.target = .c) ∧ t.nonePending ∧ t.executor.drain = none := by
  refine ⟨⟨by decide, _, rfl, by decide⟩, by decide, by decide, by decide, by decide, by decide, by decide,
    ⟨by decide, _, rfl, by decide⟩, by decide⟩
/-- One rack at the source, and slot 0 free. -/
theorem witness_Double_empty_source :
    let s := blockedAt (lanesAs (rackAs running 9 soiled) fun l => { l with spur := [9] }) .sp 1200
    let t := blockedAt (lanesAs (rackAs running 9 clean) fun l => { l with xt := [⟨9, .arriving⟩] }) .ex 20000
    let u := blockedAt (rackInAcc running) .en 20000
    s.record 0 = none ∧ (∀ k < (0 : RecNo), s.record k ≠ none) ∧ s.endsAsDouble .sp ∧ s.lanes.spur = [9]
      ∧ s.lanes.acc.length + 2 ≤ s.working.accumCap ∧ t.record 0 = none ∧ t.endsAsDouble .ex
      ∧ t.lanes.xt.map (·.rack) = [9] ∧ t.lanes.unl.length + 2 ≤ t.working.unloadCap
      ∧ t.lanes.unl.head? ≠ some 0 ∧ u.record 0 = none ∧ u.endsAsDouble .en ∧ u.lanes.acc = [9]
      ∧ u.lanes.cells.head? = some none ∧ u.nonePending ∧ u.executor.drain = none := by
  refine ⟨by decide, by decide, ⟨by decide, _, rfl, by decide⟩, by decide, by decide, by decide,
    ⟨by decide, _, rfl, by decide⟩, by decide, by decide, by decide, by decide, ⟨by decide, _, rfl, by decide⟩,
    by decide⟩
theorem witness_Double_ul_one_rack :
    let s := blockedAt (rackAtHead running clean) .ul 1200
    s.record 0 = none ∧ (∀ k < (0 : RecNo), s.record k ≠ none) ∧ s.endsAsDouble .ul ∧ s.lanes.unl = [9]
      ∧ s.lanes.ret.length + 2 ≤ s.working.returnCap ∧ s.lanes.spur.length + 2 ≤ s.working.spurCap
      ∧ s.unload.diverter = .toReturn
      ∧ ({ s with unload := ⟨.toSpur, none⟩ } : State).unload.diverter = .toSpur := by
  refine ⟨by decide, by decide, ⟨by decide, _, rfl, by decide⟩, by decide⟩

theorem witness_Jam :
    let s := blockedAt running .ul 4000
    (s.eyes.get .ul).blockage = some ⟨4000, false, false⟩ ∧ (s.eyes.get .ul).jamTimer ≠ none ∧ s.nonePending
      ∧ s.executor.drain = none ∧ (running.eyes.get .ul).blockage = none := by decide
theorem witness_Estop :
    running.nonePending ∧ running.estop.active = false
      ∧ ({ running with estop := ⟨true, 0⟩ } : State).estop.active = true
      ∧ ∀ o i, running.executor.loop ≠ .starting o i := by
  refine ⟨by decide, by decide, by decide, fun o i h => ?_⟩
  cases h
theorem witness_EyeSample : running.nonePending := by decide
/-- UL turns BLOCKED and no other input, and ESTOP turns active and no trackpoint. -/
theorem witness_EyeSample_one_flip :
    let s := running.setEye .ul { running.eyes.get .ul with runCount := 4 }
    s.nonePending ∧ Eye.ul ∈ [Eye.ul] ∧ (s.eyes.get .ul).blocked = false
      ∧ s.working.eyeCheck.get .ul ≤ (s.eyes.get .ul).runCount + 1
      ∧ (∀ d ∈ Eye.all, d ≠ .ul → d ∉ [Eye.ul] ∧ (s.eyes.get d).blocked = false)
      ∧ (after (.eyeSample [.ul] false []) s).estop.active = s.estop.active
      ∧ (after (.eyeSample [] true []) { running with estop := ⟨false, 4⟩ }).estop.active = true := by decide

theorem witness_CountsAndSteps :
    2 ≤ base.tunnel.pitch ∧ ({ base with tunnel := { base.tunnel with pitch := 1 } } : State).tunnel.pitch = 1
      ∧ base.lanes.cells ≠ [] ∧ base.lanes.lastCell = none
      ∧ (lanesAs base fun l => { l with cells := List.replicate 15 none ++ [some 9], xt := [⟨3, .arriving⟩] }).lanes.lastCell
          = some 9 := by decide
theorem witness_TunnelHolds :
    let s := lanesAs running fun l =>
      { l with cells := List.replicate 15 none ++ [some 9], xt := [⟨3, .timing 0⟩, ⟨5, .arriving⟩] }
    s.lanes.lastCell = some 9 ∧ s.lanes.xt = [⟨3, .timing 0⟩, ⟨5, .arriving⟩] ∧ s.nonePending
      ∧ s.executor.drain = none ∧ (∃ x ∈ s.lanes.xt, x.rack = 3 ∧ x.window ≠ .arriving) ∧ s.tunnel.permit = true
      ∧ (∀ x ∈ s.lanes.xt, x.rack = 5 → x.window = .arriving) ∧ s.tunnel.stall ≠ none ∧ base.tunnel.stall = none := by
  decide
theorem witness_TunnelHolds_both :
    let s := lanesAs running fun l => { l with xt := [⟨5, .timing 1⟩, ⟨9, .timing 1⟩] }
    s.pending = [] ∧ s.tunnel.permit = true ∧ (5 : RecNo) ≠ 9 ∧ s.lanes.xt = [⟨5, .timing 1⟩, ⟨9, .timing 1⟩] := by
  decide

theorem witness_CreditSample :
    let s := lanesAs (rackAs base 31 inTunnel) fun l => { l with cells := l.cells.set 11 (some 31) }
    s.lanes.cells[11]? = some (some 31) ∧ s.lanes.cells.count (some 31) = 1
      ∧ zoneOfCell s.working.zoneLen 11 = some .finalRinse ∧ s.record 31 = some inTunnel
      ∧ some 30 ∉ s.lanes.cells := by decide
theorem witness_SpeedCode :
    let s := lanesAs (rackAs base 31 inTunnel) fun l => { l with cells := l.cells.set 12 (some 31) }
    s.lanes.cells[12]? = some (some 31) ∧ zoneOfCell s.working.zoneLen 12 = some .finalRinse := by decide

theorem witness_DecisionsInRun :
    let s := rackAtHead running { clean with load := [] }
    let d : State := { lanesAs (rackAs running 9 Record.registered) fun l => { l with ret := [9] } with
      line := { running.line with stationCode := ⟨.want, .want, .idle, .idle⟩ }
      dispatch := ⟨⟨true, false, false, false⟩, none, some .a⟩ }
    s.unload.release = none ∧ s.executor.loop = .run ∧ (s.eyes.get .ul).blockage = none
      ∧ s.lanes.unl.head? = some 9 ∧ s.record 9 = some { clean with load := [] } ∧ running.lanes.unl = []
      ∧ (racksInB running).merge = none ∧ (racksInB running).lanes.acc.length < running.working.accumCap
      ∧ (racksInB running).lanes.spur = [] ∧ (racksInB running).lanes.finishOrder.head? = some 22
      ∧ 22 ∈ (racksInB running).lanes.outfeed.get .b
      ∧ d.dispatch.grant = none ∧ d.lanes.ret ≠ [] ∧ (d.eyes.get .ds).blockage = none
      ∧ d.present (.station .b) = true ∧ d.line.stationCode.get .b = .want ∧ d.lanes.lp.get .b = none
      ∧ d.dispatch.deferred.get .b = false ∧ d.dispatch.deferred.get .a = true := by decide
theorem witness_WindowsRunOut :
    (timersRun 1).merge = some ⟨.spur, .timing 2, false⟩ ∧ (timersRun 1).dispatch.grant = some ⟨.a, .timing 2, none⟩
      ∧ running.merge = none ∧ ((timersRun 1).eyes.get .sp).blocked = false
      ∧ ((timersRun 1).eyes.get .ds).blocked = false := by decide

/-- A frame with the tunnel node's READY, a second one of which makes it present. -/
theorem witness_FrameEndAccepts :
    let slots : List Octet := [0xFF, 0xFF, 0xFF, 0x02]
    let s := after (.frameEnd slots []) base
    s.present .tunnel = false ∧ (∃ b ∈ s.line.previous, codeSlot b .tunnel = codeSlot slots .tunnel)
      ∧ (s.line.nodes.get .tunnel).acceptedCode ≠ some (codeSlot slots .tunnel)
      ∧ (after (.frameEnd slots []) s).present .tunnel = true
      ∧ (after (.frameEnd slots []) s).line.tunnelCode = .ready := by decide
/-- Up slots of one frame: FFh but for those named. -/
def slotsAs (named : List (Nat × Octet)) : List Octet :=
  (List.range 31).map fun k => (named.lookup k).getD 0xFF
/-- In RUN, every slot accepted as FFh, and `slots` the frame before. -/
def settled (slots : List Octet) : State :=
  { running with line := { running.line with
      previous := some slots
      acceptedTemperature := ⟨some 0xFF, some 0xFF, some 0xFF, some 0xFF, some 0xFF⟩, acceptedPump := some 0xFF
      nodes := PerNode.const { NodeLine.reset with
        present := true, acceptedCode := some 0xFF, acceptedPair := some (0xFF, 0xFF) } } }
theorem witness_FrameEnd_tunnel_and_drive :
    let t := slotsAs [(3, 0x00)]
    let d := slotsAs [(6, 0x00)]
    let f := slotsAs [(6, 0x03)]
    (settled t).nonePending ∧ (settled t).executor.drain = none ∧ (settled t).noRequestAt t
      ∧ (settled t).inRun = true ∧ (settled t).codeQuiet t .drive ∧ (settled t).codeAccepted t .tunnel
      ∧ (settled t).present .tunnel = true ∧ (settled t).line.tunnelCode = .ready ∧ codeSlot t .tunnel = 0x00
      ∧ (settled d).noRequestAt d ∧ (settled d).codeQuiet d .tunnel ∧ (settled d).codeAccepted d .drive
      ∧ (settled d).line.driveCode = .running ∧ codeSlot d .drive = 0x00
      ∧ (settled f).noRequestAt f ∧ (settled f).codeQuiet f .tunnel ∧ (settled f).codeAccepted f .drive
      ∧ codeSlot f .drive = 0x03 := by
  and_intros <;> decide
theorem witness_FrameEnd_claimant :
    let a := slotsAs [(12, 0x01)]
    let s := lanesAs (rackAs (settled a) 9 Record.registered) fun l => { l with ret := [9] }
    s.nonePending ∧ s.executor.drain = none ∧ s.noRequestAt a ∧ s.inRun = true ∧ s.codeQuiet a .tunnel
      ∧ s.codeQuiet a .drive ∧ s.dispatch.grant = none ∧ s.lanes.ret ≠ [] ∧ (s.eyes.get .ds).blockage = none
      ∧ s.codeAccepted a (.station .a) ∧ codeSlot a (.station .a) = 0x01 ∧ s.lanes.lp.get .a = none
      ∧ s.line.stationCode.get .a ≠ .want
      ∧ ∀ y ∈ Station.all, y ≠ .a → ¬s.codeAccepted a (.station y) ∧ s.line.stationCode.get y ≠ .want := by
  and_intros <;> decide
theorem witness_FrameEndShowsTheState :
    ((running.setChannel .panel { Channel.reset with state := .sending, response := [0x01, 0x00] }).channel .panel).state
      = .sending := by decide

theorem witness_ChannelFollowsTheToggles :
    let c : Channel := { Channel.reset with state := .receiving, request := List.replicate 31 1, gap := false }
    let d : Channel := { Channel.reset with state := .sending, response := [0x01, 0x00], refTK := false }
    controlV 0x40 = true ∧ controlS 0x40 ≠ c.refS ∧ c.request.length < 32 ∧ controlE 0x40 = false
      ∧ controlE 0x60 = true ∧ controlV 0x80 = false ∧ controlTK 0x10 ≠ d.refTK
      ∧ 32 ≤ ({ c with request := List.replicate 32 1 } : Channel).request.length
      ∧ ((running.setChannel .panel c).channel .panel) = c ∧ ((running.setChannel .panel d).channel .panel) = d := by
  decide
/-- A frame end that accepts the panel node's pair alone, and one that accepts none. -/
theorem witness_Channel_frameEnd :
    let up := slotsAs [(1, 0x01), (2, 0x40)]
    let t := (settled (slotsAs [])).setChannel .panel { Channel.reset with
      state := .receiving, request := [0x05], frames := 63 }
    (settled up).present .panel = true ∧ (settled up).pairAccepted up .panel ∧ (settled up).onlyPairAt up .panel
      ∧ ((settled up).channel .panel).frames < 63 ∧ ((settled up).channel .panel).moved = false
      ∧ t.present .panel = true ∧ t.idleBelowLimit up .panel ∧ ¬t.pairAccepted up .panel
      ∧ (t.channel .panel).moved = false ∧ (t.channel .panel).state = .receiving
      ∧ 63 ≤ (t.channel .panel).frames := by decide

theorem witness_ChannelTimeouts :
    ((running.setChannel .panel { Channel.reset with state := .receiving, request := [0x05] }).channel .panel).state
        = .receiving
      ∧ ((running.setChannel .panel { Channel.reset with state := .sending, response := [0x05, 0x10] }).channel
          .panel).state = .sending := by decide

theorem witness_NodeAbsence :
    running.nonePending ∧ running.executor.drain = none ∧ running.present .tunnel = true
      ∧ running.present .drive = true ∧ base.present .tunnel = false := by decide

theorem witness_OnlySetAndCommit :
    exec (.commit .panel) base = .next (after (.commit .panel) base) ∧ Instr.commit .panel ≠ .hardwareReset := by
  refine ⟨rfl, by decide⟩
theorem witness_RacksStay :
    exec .estopActive running = .next (after .estopActive running) ∧ running.executor.vector.commit = none := by
  refine ⟨rfl, by decide⟩
theorem witness_RacksStay_frameEnd :
    let s := settled (slotsAs [])
    s.noRequestAt [] ∧ s.executor.vector.commit = none ∧ s.codeQuiet [] .tunnel ∧ s.codeQuiet [] .drive
      ∧ ∀ x ∈ Station.all, s.codeQuiet [] (.station x) := by
  and_intros <;> decide

/-- A loop with racks in several places that meets every invariant. -/
def sound : State := lanesAs (rackAs (rackAs (racksInB running) 9 clean) 14 inTunnel) fun l =>
  { l with unl := [9], cells := l.cells.set 15 (some 14) }

theorem witness_placed : sound.placed ∧ sound.lanes.finishOrdered ∧ sound.lanes.within sound.working := by decide
theorem witness_states : sound.statesMatchPlaces := by decide
theorem witness_records : sound.recordsSound ∧ sound.heatInRange := by
  refine ⟨?_, by decide⟩
  have h : ∀ n : RecNo, ∀ r ∈ sound.record n, r = soiled ∨ r = clean ∨ r = inTunnel := by decide
  intro n r hr
  rcases h n r hr with rfl | rfl | rfl <;> decide
theorem witness_permissions : sound.permissionsOnlyInRun ∧ sound.permitFollows ∧ sound.runIsSafe := by decide
theorem witness_line :
    sound.absentQuiet ∧ (∀ e ∈ Eye.all, (sound.eyes.get e).sound) ∧ (∀ n ∈ Node.all, (sound.channel n).sound) := by
  decide
theorem witness_settings : sound.settingsInRange := by
  intro p
  cases p <;> first
    | decide
    | (rename_i e; revert e; rintro (⟨_ | _ | _ | _⟩ | _ | _ | _ | _ | _) <;> decide)
    | (rename_i c; revert c; decide)
    | (rename_i z b; revert b; cases z <;> decide)
theorem witness_step : ∃ t, step { sound with pending := [.step] } = .next t := ⟨_, rfl⟩

/-- The last cell holds a rack with the credit and the rinse of its class; the step makes it CLEAN. -/
theorem witness_CleanOnlyByTheVerdict :
    let s : State := { rackAs sound 14 { inTunnel with credit := 4500, rinseSamples := 1, rinseMin := some 164 } with
      pending := [.step] }
    step s = .next (after .step { s with pending := [] })
      ∧ ((after .step { s with pending := [] }).record 14).map (·.state) = some .clean
      ∧ (s.record 14).map (·.state) = some .inWash := by
  refine ⟨rfl, by decide⟩

theorem witness_CleanOnlyByTheVerdict_sound :
    (rackAs sound 14 { inTunnel with credit := 4500, rinseSamples := 1, rinseMin := some 164 }).recordsSound := by
  have h : ∀ n : RecNo, ∀ r ∈ (rackAs sound 14 { inTunnel with
      credit := 4500, rinseSamples := 1, rinseMin := some 164 }).record n,
      r = soiled ∨ r = clean ∨ r = { inTunnel with credit := 4500, rinseSamples := 1, rinseMin := some 164 } := by
    decide
  intro n r hr
  rcases h n r hr with rfl | rfl | rfl <;> decide

end Sys2Proof.Tests
end

section
/-! What a step can do to the racks, said once. Every command is a succession of rack moves (`State.RackMoves`): the
movements of chapters 1 and 2, each one event, with nothing but control between them. An invariant of the Rack Table and
the places is proved for the moves and holds of every step. -/

namespace Sys2Proof.Machine

/-- One event at the records and the places. `ok` is what is known of the zone inputs by which records are credited. -/
inductive State.RackMove (ok : ZoneInput → Prop) : State → State → Prop
  /-- No record and no place changes. -/
  | same {s t : State} : t.slots = s.slots → t.lanes = s.lanes → RackMove ok s t
  /-- The windows of XT change, its records do not (R85, R86). -/
  | windows {s t : State} : t.slots = s.slots → t.lanes = { s.lanes with xt := t.lanes.xt } →
      t.lanes.xt.map (·.rack) = s.lanes.xt.map (·.rack) → RackMove ok s t
  /-- A COMMIT that passed its checks applies the settings (R174, R96). -/
  | commit (s : State) : s.commitFailure = none → RackMove ok s s.applySettings
  /-- Every slot is freed and every place emptied: PURGE (R49) and the hardware reset (R177). -/
  | cleared {s t : State} : (∀ n, t.record n = none) → (∀ p ∈ Place.holding, t.lanes.contents p = []) → RackMove ok s t
  /-- The head of UNL is seen there (R124, R125). -/
  | newHead (s before : State) : RackMove ok s (s.takeNewHead before)
  /-- REGISTER (R22, R46). -/
  | register (s : State) (m : RecNo) (p : Place) : s.record m = none → (p = .ret ∨ ∃ x, p = .lp x) →
      s.isFull p = false →
      RackMove ok s ((s.setSlot m (some Record.registered)).withLanes (s.lanes.join p m))
  /-- LOAD (R16, R17). -/
  | load (s : State) (m : RecNo) (replace : Bool) (es : List LoadEntry) :
      (s.lanes.placeOf m).any takesLoad = true → es.all LoadEntry.wellFormed = true →
      RackMove ok s (s.updateRecord m fun r => r.loaded replace es (s.lanes.stationOf m).isSome)
  /-- The finish of a LOAD (R18, R45). -/
  | finish (s : State) (m : RecNo) (x : Station) : s.lanes.stationOf m = some x → RackMove ok s (s.finish m x)
  /-- RETIRE (R3, R47). -/
  | retire (s : State) (m : RecNo) : RackMove ok s ((s.withLanes (s.lanes.remove m)).setSlot m none)
  /-- PLACE (R24, R48). -/
  | place (s : State) (m : RecNo) (p : Place) : s.lanes.onOff m = true →
      (p = .ret ∨ p = .spur ∨ ∃ x, p = .lp x) → s.isFull p = false →
      RackMove ok s ((s.updateRecord m (·.placed p)).withLanes
        (({ s.lanes with off := s.lanes.off.filter (·.rack ≠ m) } : Lanes).join p m))
  /-- UNLOADED (R130). -/
  | unloaded (s : State) (m : RecNo) (v : Record) : s.unloadHead = some (m, v) →
      RackMove ok s (s.updateRecord m Record.emptied)
  /-- REWASH (R132). -/
  | rewash (s : State) (m : RecNo) (v : Record) : s.unloadHead = some (m, v) →
      RackMove ok s (s.updateRecord m Record.rewashed)
  /-- A passage is reconciled (R36 to R43). -/
  | reconcile (s : State) (e : Eye) : RackMove ok s (s.reconcile e).state
  /-- The last cell's record leaves and the cells shift (R75, R76). -/
  | shift (s : State) : RackMove ok s (s.leaveTunnel.1.withLanes s.leaveTunnel.1.lanes.shifted)
  /-- A record of XT is missing at the exit (R87). -/
  | exitMissing (s : State) (n : RecNo) : s.lanes.exitTiming n = true →
      RackMove ok s (s.withLanes
        { s.lanes.sendOff n .exitMissing with xt := s.lanes.xt.filter (·.rack ≠ n) })
  /-- A record is credited (R111 to R113). -/
  | credit (s : State) (n : RecNo) (t : Settings) (z : Zone) (i : ZoneInput) : ok i →
      RackMove ok s (s.updateRecord n fun r => r.credited t z i)

/-- A succession of rack moves. -/
abbrev State.RackMoves (ok : ZoneInput → Prop) : State → State → Prop := Relation.ReflTransGen (State.RackMove ok)

namespace State.RackMoves

variable {ok : ZoneInput → Prop} {s t u : State}

theorem refl (s : State) : s.RackMoves ok s := Relation.ReflTransGen.refl

theorem trans (h : s.RackMoves ok t) (k : t.RackMoves ok u) : s.RackMoves ok u := Relation.ReflTransGen.trans h k

theorem one (h : s.RackMove ok t) : s.RackMoves ok t := Relation.ReflTransGen.single h

theorem of_same (h : t.slots = s.slots) (k : t.lanes = s.lanes) : s.RackMoves ok t := one (.same h k)

/-- What is written before a succession of rack moves, beside the racks, is no matter. -/
theorem after (h : t.RackMoves ok u) (a : t.slots = s.slots) (b : t.lanes = s.lanes) : s.RackMoves ok u :=
  (of_same a b).trans h

theorem of_controlled (h : s.Controlled t) : s.RackMoves ok t := of_same h.slots h.lanes

theorem of_settled (h : s.Settled t) : s.RackMoves ok t := by
  rcases h with h | ⟨hc, h⟩
  · exact of_controlled h
  · exact (one (.commit s hc)).trans (of_controlled h)

/-- A property that every rack move keeps is kept by a succession of them. -/
theorem keeps {P : State → Prop} (keep : ∀ s t, s.RackMove ok t → P s → P t) (h : s.RackMoves ok t) (p : P s) :
    P t := by
  induction h with
  | refl => exact p
  | tail _ m ih => exact keep _ _ m ih

/-- A fold of operations, each a succession of rack moves, is one. -/
theorem foldl {α : Type} {f : State → α → State} (h : ∀ (s : State) (a : α), s.RackMoves ok (f s a)) (as : List α)
    (s : State) :
    s.RackMoves ok (as.foldl f s) := by
  induction as generalizing s with
  | nil => exact refl s
  | cons a as ih => exact (h s a).trans (ih _)

end State.RackMoves

/-! ## The operations as rack moves -/

section
variable {ok : ZoneInput → Prop}

theorem State.observe_rackMoves (s before : State) (cause : Option Cause) :
    s.RackMoves ok (s.observe before cause) :=
  (State.RackMoves.one (.newHead s before)).trans (.of_settled (s.observe_settled before cause))

theorem State.recordAnomaly_rackMoves (s : State) (e : Eye) (k : AnomalyKind) (r : Option RecNo) :
    s.RackMoves ok (s.recordAnomaly e k r) := .of_same (by simp) (by simp)

theorem State.recordAnomalies_rackMoves (s : State) (e : Eye) (as : List (AnomalyKind × Option RecNo)) :
    s.RackMoves ok (s.recordAnomalies e as) := .of_same (by simp) (by simp)

theorem State.passage_rackMoves (s : State) (e : Eye) : s.RackMoves ok (s.passage e) :=
  ((State.RackMoves.one (.reconcile s e)).trans (State.recordAnomalies_rackMoves _ _ _)).trans
    (State.observe_rackMoves _ _ _)

/-! Requests (R198 to R200). -/

theorem State.serveRegister_rackMoves (s : State) (n : Node) (o : Octet) :
    s.RackMoves ok (s.serveRegister n o).state := by
  unfold State.serveRegister
  split
  · exact .refl s
  split
  · exact .refl s
  rename_i p hp
  split
  · exact .refl s
  split
  · exact .refl s
  rename_i hroom
  split
  · exact .refl s
  rename_i m hm
  have place : p = .ret ∨ ∃ x, p = .lp x := by
    unfold registerPlace at hp
    split at hp
    · exact .inr ⟨_, (Option.some.inj hp).symm⟩
    · exact .inl (Option.some.inj hp).symm
    · cases hp
  have room : s.isFull p = false := by
    cases h : s.isFull p
    · rfl
    · exact absurd (.inr h) hroom
  exact (State.RackMoves.one (.register s m p (State.lowestFree_some hm).1 place room)).trans
    (State.observe_rackMoves _ _ _)

theorem State.applyLoad_rackMoves (s : State) (m : RecNo) (replace finish : Bool) (es : List LoadEntry)
    (there : (s.lanes.placeOf m).any takesLoad = true) (wf : es.all LoadEntry.wellFormed = true) :
    s.RackMoves ok (s.applyLoad m replace finish es) := by
  have load := State.RackMoves.one (State.RackMove.load (ok := ok) s m replace es there wf)
  unfold State.applyLoad
  dsimp only
  refine State.RackMoves.trans ?_ (State.observe_rackMoves _ _ _)
  split
  · rename_i x hx
    exact load.trans (.one (.finish _ m x (by simpa using hx)))
  · exact load

theorem State.loadRefusal_none {s : State} {n : Node} {m : RecNo} {r : Record} {finish : Bool}
    (h : s.loadRefusal n m r finish = none) : (s.lanes.placeOf m).any takesLoad = true := by
  by_contra k
  revert h
  unfold State.loadRefusal
  dsimp only
  simp only [Bool.not_eq_true] at k
  rw [k]
  repeat' split
  all_goals simp_all

theorem State.serveLoad_rackMoves (s : State) (n : Node) (r : Octet) (replace finish : Bool) (es : List LoadEntry) :
    s.RackMoves ok (s.serveLoad n r replace finish es).state := by
  unfold State.serveLoad
  split
  · exact .refl s
  split
  · exact .refl s
  split
  · exact .refl s
  split
  · exact .refl s
  rename_i wf
  split
  · exact .refl s
  split
  · exact .refl s
  rename_i accepted
  exact s.applyLoad_rackMoves _ _ _ _ (State.loadRefusal_none accepted) (by simpa using wf)

theorem State.retire_rackMoves (s : State) (m : RecNo) : s.RackMoves ok (s.retire m) :=
  ((State.RackMoves.of_same (s := s) (t := s.withdrawFor m) rfl rfl).trans (.one (.retire _ m))).trans
    (State.observe_rackMoves _ _ _)

theorem State.serveRetire_rackMoves (s : State) (n : Node) (r : Octet) : s.RackMoves ok (s.serveRetire n r).state := by
  unfold State.serveRetire
  repeat' split
  all_goals first
    | exact .refl s
    | exact s.retire_rackMoves _

theorem placeTarget_cases {o : Octet} {p : Place} (h : placeTarget o = some p) :
    p = .ret ∨ p = .spur ∨ ∃ x, p = .lp x := by
  unfold placeTarget at h
  split at h
  · exact .inr (.inr ⟨_, (Option.some.inj h).symm⟩)
  · exact .inr (.inl (Option.some.inj h).symm)
  · exact .inl (Option.some.inj h).symm
  · cases h

theorem State.servePlace_rackMoves (s : State) (n : Node) (r o : Octet) : s.RackMoves ok (s.servePlace n r o).state := by
  unfold State.servePlace
  split
  · exact .refl s
  split
  · rename_i m p _ hp
    split
    · exact .refl s
    split
    · exact .refl s
    rename_i off
    split
    · exact .refl s
    rename_i room
    exact (State.RackMoves.one (.place s m p (by simpa using off) (placeTarget_cases hp) (by simpa using room))).trans
      (State.observe_rackMoves _ _ _)
  · exact .refl s

theorem State.servePurge_rackMoves (s : State) (n : Node) : s.RackMoves ok (s.servePurge n).state := by
  unfold State.servePurge
  repeat' split
  · exact .refl s
  · exact .refl s
  · refine State.RackMoves.trans (.one (.cleared (t := ({ s with
      slots := Vector.replicate 64 Option.none, lanes := s.lanes.purged } : State).withdrawPermissions) ?_ ?_))
      (State.observe_rackMoves _ _ _)
    · intro m
      simp [State.record, Vector.get_eq_getElem]
    · intro p hp
      fin_cases hp <;> simp [Lanes.contents, Lanes.purged, Lanes.reset, PerStation.const, PerStation.get]

theorem State.treatHead_rackMoves {s : State} {m : RecNo} {f : Record → Record}
    (h : ∀ t : State, t.slots = s.slots → t.lanes = s.lanes → t.RackMove ok (t.updateRecord m f)) :
    s.RackMoves ok (s.treatHead m f) := by
  refine State.RackMoves.trans ?_ (State.observe_rackMoves _ _ _)
  have withdrawn := State.RackMoves.of_same (ok := ok) (s := s)
    (t := { s with unload := { s.unload with release := none } }) rfl rfl
  exact (withdrawn.trans (.one (h _ rfl rfl))).trans
    (.of_same (State.setDiverter_slots _) (State.setDiverter_lanes _))

theorem State.unloadHead_congr {s t : State} (h : t.slots = s.slots) (k : t.lanes = s.lanes) :
    t.unloadHead = s.unloadHead := by
  simp only [State.unloadHead, State.record, h, k]

theorem State.serveUnloaded_rackMoves (s : State) (n : Node) (r : Octet) :
    s.RackMoves ok (s.serveUnloaded n r).state := by
  unfold State.serveUnloaded
  split
  · exact .refl s
  split
  · exact .refl s
  split
  · exact .refl s
  rename_i k v head
  split
  · exact .refl s
  rename_i same
  simp only [ne_eq, not_not] at same
  subst same
  split
  · exact .refl s
  · exact State.treatHead_rackMoves fun t a b => .unloaded t k v (by rw [State.unloadHead_congr a b, head])

theorem State.serveRewash_rackMoves (s : State) (n : Node) (r : Octet) :
    s.RackMoves ok (s.serveRewash n r).state := by
  unfold State.serveRewash
  split
  · exact .refl s
  split
  · exact .refl s
  split
  · exact .refl s
  rename_i k v head
  split
  · exact .refl s
  rename_i same
  simp only [ne_eq, not_not] at same
  subst same
  split
  · exact .refl s
  · exact State.treatHead_rackMoves fun t a b => .rewash t k v (by rw [State.unloadHead_congr a b, head])

theorem State.serveStatus_rackMoves (s : State) (n : Node) : s.RackMoves ok (s.serveStatus n).state := by
  unfold State.serveStatus
  dsimp only
  split <;> exact .of_same rfl rfl

theorem State.serveCommand_rackMoves (s : State) (n : Node) (c : LineCommand) :
    s.RackMoves ok (s.serveCommand n c).state := by
  unfold State.serveCommand
  repeat' split
  · exact .refl s
  · exact .refl s
  · exact (State.RackMoves.of_controlled (s.setBit_controlled _ _)).trans (.of_settled (State.takeCommands_settled _))

theorem State.serveSet_rackMoves (s : State) (n : Node) (p i : Octet) (v : BitVec 16) :
    s.RackMoves ok (s.serveSet n p i v).state := by
  have stored (q : Param) (k : Nat) : s.RackMoves ok (s.store q k) := by
    cases q <;> exact .of_same rfl rfl
  unfold State.serveSet
  repeat' split
  all_goals first
    | exact .refl s
    | exact stored _ _

/-- Every request is a succession of rack moves (R193). -/
theorem State.serve_rackMoves (s : State) (n : Node) (q : Request) : s.RackMoves ok (s.serve n q).state := by
  cases q with
  | status => exact s.serveStatus_rackMoves n
  | readRack r =>
    simp only [State.serve, State.serveReadRack]
    repeat' split
    all_goals exact .refl s
  | readLane p i =>
    simp only [State.serve, State.serveReadLane]
    split <;> exact .refl s
  | register p => exact s.serveRegister_rackMoves n p
  | load r replace finish es => exact s.serveLoad_rackMoves n r replace finish es
  | unloaded r => exact s.serveUnloaded_rackMoves n r
  | rewash r => exact s.serveRewash_rackMoves n r
  | retire r => exact s.serveRetire_rackMoves n r
  | place r p => exact s.servePlace_rackMoves n r p
  | purge => exact s.servePurge_rackMoves n
  | command c =>
    simp only [State.serve]
    split
    · exact s.serveCommand_rackMoves n _
    · exact .refl s
  | set p i v => exact s.serveSet_rackMoves n p i v
  | get p i =>
    simp only [State.serve, State.serveGet]
    repeat' split
    all_goals exact .refl s

theorem State.serveMessage_rackMoves (s : State) (n : Node) (message : List Octet) :
    s.RackMoves ok (s.serveMessage n message).state := by
  unfold State.serveMessage
  split
  · exact s.serve_rackMoves n _
  · unfold State.refuseMessage
    repeat' split
    all_goals exact .refl s

/-! The line (R180 to R187). -/

theorem State.startingTest_rackMoves (s : State) : s.RackMoves ok s.startingTest :=
  .of_controlled s.startingTest_controlled

theorem State.takeCommands_rackMoves (s : State) : s.RackMoves ok s.takeCommands :=
  .of_settled s.takeCommands_settled

theorem State.raiseHold_rackMoves (s : State) (c : HoldCause) : s.RackMoves ok (s.raiseHold c) :=
  .of_settled (s.raiseHold_settled c)

theorem State.raiseStop_rackMoves (s : State) (c : StopCause) : s.RackMoves ok (s.raiseStop c) :=
  .of_settled (s.raiseStop_settled c)

theorem State.tunnelChanged_rackMoves (s : State) : s.RackMoves ok s.tunnelChanged := by
  refine State.RackMoves.trans ?_ ((State.startingTest_rackMoves _).trans (State.takeCommands_rackMoves _))
  split
  · exact s.raiseHold_rackMoves _
  · exact .refl s

theorem State.driveChanged_rackMoves (s : State) : s.RackMoves ok s.driveChanged := by
  refine State.RackMoves.trans ?_ (((State.startingTest_rackMoves _).trans
    (.of_controlled (State.holdingTest_controlled _))).trans (State.takeCommands_rackMoves _))
  repeat' split
  · exact s.raiseStop_rackMoves _
  · exact s.raiseHold_rackMoves _
  · exact .refl s

theorem State.stationChanged_rackMoves (s before : State) (x : Station) : s.RackMoves ok (s.stationChanged before x) := by
  unfold State.stationChanged
  split
  · exact .of_controlled s.decideDispatch_controlled
  · exact .refl s

theorem State.handTemperature_rackMoves (s : State) (z : Zone) (v : Octet) : s.RackMoves ok (s.handTemperature z v) :=
  .of_same rfl rfl

theorem State.handAccepted_rackMoves (s : State) : s.RackMoves ok s.handAccepted := by
  unfold State.handAccepted
  have handed := State.RackMoves.foldl (ok := ok)
    (f := fun u z => match s.line.acceptedTemperature.get z with
      | some v => u.handTemperature z v
      | none => u)
    (fun t z => by
      split
      · exact t.handTemperature_rackMoves _ _
      · exact .refl t) Zone.all s
  dsimp only
  split
  · exact handed.trans (.of_same rfl rfl)
  · exact handed

theorem State.setNode_rackMoves (s : State) (n : Node) (v : NodeLine) : s.RackMoves ok (s.setNode n v) :=
  .of_same rfl rfl

theorem State.takeOctet_rackMoves (s : State) (n : Node) (o w : Octet) : s.RackMoves ok (s.takeOctet n o w) := by
  unfold State.takeOctet
  dsimp only
  split
  · exact ((s.setNode_rackMoves n _).trans (State.serveMessage_rackMoves _ n _)).trans (.of_same rfl rfl)
  · exact s.setNode_rackMoves n _

theorem State.acceptPair_rackMoves (s : State) (n : Node) (p : Octet × Octet) : s.RackMoves ok (s.acceptPair n p) := by
  unfold State.acceptPair
  dsimp only
  repeat' split
  all_goals first
    | exact .refl s
    | exact s.takeOctet_rackMoves n _ _
    | exact s.setNode_rackMoves n _

theorem State.acceptCode_rackMoves (s : State) (n : Node) (v : Octet) : s.RackMoves ok (s.acceptCode n v) := by
  unfold State.acceptCode
  split
  · exact .refl s
  · exact .refl s
  · split
    · split
      · exact .refl s
      · exact (State.tunnelChanged_rackMoves _).after rfl rfl
    · exact .refl s
  · split
    · split
      · exact .refl s
      · exact (State.driveChanged_rackMoves _).after rfl rfl
    · exact .refl s
  · split
    · exact (State.stationChanged_rackMoves _ _ _).after rfl rfl
    · exact .refl s

theorem State.presentWith_rackMoves (s : State) (n : Node) (v : Octet) : s.RackMoves ok (s.presentWith n v) := by
  unfold State.presentWith
  split
  · exact s.setNode_rackMoves _ _
  · exact s.setNode_rackMoves _ _
  · exact ((State.tunnelChanged_rackMoves _).trans (State.handAccepted_rackMoves _)).after rfl rfl
  · exact (State.driveChanged_rackMoves _).after rfl rfl
  · exact (State.stationChanged_rackMoves _ _ _).after rfl rfl

theorem State.becomePresent_rackMoves (s : State) (n : Node) (v : Octet) : s.RackMoves ok (s.becomePresent n v) := by
  unfold State.becomePresent
  dsimp only
  split
  · exact (s.presentWith_rackMoves n v).trans (State.acceptPair_rackMoves _ _ _)
  · exact s.presentWith_rackMoves n v

theorem State.absenceHandedOn_rackMoves (s : State) (n : Node) : s.RackMoves ok (s.absenceHandedOn n) := by
  unfold State.absenceHandedOn
  split
  · exact .refl s
  · exact .refl s
  · exact .refl s
  · dsimp only
    split
    · exact (State.raiseHold_rackMoves _ _).after rfl rfl
    · exact (State.raiseHold_rackMoves _ _).after rfl rfl
    all_goals exact .of_same rfl rfl
  · exact s.raiseStop_rackMoves _

theorem State.firstCode_slots (s : State) (n : Node) : (s.firstCode n).slots = s.slots := by
  cases n <;> rfl

theorem State.firstCode_lanes (s : State) (n : Node) : (s.firstCode n).lanes = s.lanes := by
  cases n <;> rfl

theorem State.becomeAbsent_rackMoves (s : State) (n : Node) : s.RackMoves ok (s.becomeAbsent n) := by
  unfold State.becomeAbsent
  refine (State.absenceHandedOn_rackMoves _ n).after ?_ ?_
  · exact State.firstCode_slots _ n
  · exact State.firstCode_lanes _ n

theorem State.frameEvent_rackMoves (s : State) (before : Option (List Octet)) (now : List Octet) (e : FrameEvent) :
    s.RackMoves ok (s.frameEvent before now e) := by
  cases e with
  | code n =>
    simp only [State.frameEvent]
    repeat' split
    · exact (s.setNode_rackMoves n _).trans (State.acceptCode_rackMoves _ n _)
    · exact s.setNode_rackMoves n _
    · exact (s.setNode_rackMoves n _).trans (State.becomePresent_rackMoves _ n _)
    · exact .refl s
  | absent n =>
    simp only [State.frameEvent]
    split
    · exact s.becomeAbsent_rackMoves n
    · exact .refl s
  | message n =>
    simp only [State.frameEvent]
    repeat' split
    · exact (s.setNode_rackMoves n _).trans (State.acceptPair_rackMoves _ n _)
    · exact s.setNode_rackMoves n _
    · exact .refl s
  | temperature z =>
    simp only [State.frameEvent]
    repeat' split
    all_goals exact .of_same rfl rfl
  | pumpMap =>
    simp only [State.frameEvent]
    repeat' split
    all_goals exact .of_same rfl rfl
  | count n => exact s.setNode_rackMoves n _

theorem State.frameEnd_rackMoves (s : State) (slots : List Octet) (order : List FrameEvent) :
    s.RackMoves ok (s.frameEnd slots order) := by
  have events := State.RackMoves.foldl (ok := ok)
    (fun (t : State) e => t.frameEvent_rackMoves s.line.previous (frameSlots slots) e) (inOrder order frameEvents)
    (s.countIdleFrames (frameSlots slots))
  exact (events.after (s := s) rfl rfl).trans (.of_same rfl rfl)

/-! Trackpoints and the ESTOP input (R53 to R72). -/

theorem Lanes.mapHeadWindow_racks (l : Lanes) (f : Window → Window) :
    l.mapHeadWindow f = { l with xt := (l.mapHeadWindow f).xt }
      ∧ (l.mapHeadWindow f).xt.map (·.rack) = l.xt.map (·.rack) := by
  obtain ⟨_, _, _, _, _, xt, _, _, _, _⟩ := l
  cases xt <;> exact ⟨rfl, rfl⟩

theorem State.mapHeadWindow_rackMoves (s : State) (f : Window → Window) :
    s.RackMoves ok (s.withLanes (s.lanes.mapHeadWindow f)) :=
  .one (.windows rfl (s.lanes.mapHeadWindow_racks f).1 (s.lanes.mapHeadWindow_racks f).2)

theorem State.mergeBlocked_rackMoves (s : State) (e : Eye) : s.RackMoves ok (s.mergeBlocked e) := by
  rcases s.mergeBlocked_cases e with ⟨_, h⟩ | ⟨_, _, _, _, h⟩ | ⟨_, _, _, _, h⟩
  · rw [h]
  · rw [h]
    exact (State.RackMoves.of_controlled (State.decideMerge_controlled _)).after rfl rfl
  · rw [h]
    exact .of_same rfl rfl

theorem State.dispatchBlocked_rackMoves (s : State) : s.RackMoves ok s.dispatchBlocked := by
  rcases s.dispatchBlocked_cases with ⟨_, h⟩ | ⟨_, _, _, _, h⟩ | ⟨_, _, _, h⟩
  · rw [h]
  · rw [h]
    exact .of_same rfl rfl
  · rw [h]
    exact .of_same rfl rfl

theorem State.handBlocked_rackMoves (s : State) (e : Eye) : s.RackMoves ok (s.handBlocked e) := by
  unfold State.handBlocked
  split
  · exact s.mergeBlocked_rackMoves _
  · exact s.mergeBlocked_rackMoves _
  · exact s.mapHeadWindow_rackMoves _
  · exact s.dispatchBlocked_rackMoves
  · exact .refl s
  · exact .refl s

theorem State.mapMergeWindow_rackMoves (s : State) (e : Eye) (f : Window → Window) :
    s.RackMoves ok (s.mapMergeWindow e f) := by
  unfold State.mapMergeWindow
  repeat' split
  all_goals exact .of_same rfl rfl

theorem State.handDebris_rackMoves (s : State) (e : Eye) : s.RackMoves ok (s.handDebris e) := by
  unfold State.handDebris
  split
  · exact s.mapMergeWindow_rackMoves _ _
  · exact s.mapMergeWindow_rackMoves _ _
  · exact s.mapHeadWindow_rackMoves _
  · exact .of_same rfl rfl
  · exact .refl s
  · exact .refl s

theorem State.setEye_rackMoves (s : State) (e : Eye) (t : Trackpoint) : s.RackMoves ok (s.setEye e t) :=
  .of_same rfl rfl

theorem State.blockedEdge_rackMoves (s : State) (e : Eye) : s.RackMoves ok (s.blockedEdge e) :=
  (s.setEye_rackMoves e _).trans (State.handBlocked_rackMoves _ e)

theorem State.handOn_rackMoves (s : State) (e : Eye) (c : Classification) : s.RackMoves ok (s.handOn e c) := by
  cases c with
  | one => exact s.passage_rackMoves e
  | debris => exact (s.recordAnomaly_rackMoves _ _ _).trans (State.handDebris_rackMoves _ e)
  | double =>
    exact ((s.recordAnomaly_rackMoves _ _ _).trans (State.passage_rackMoves _ e)).trans (State.passage_rackMoves _ e)

theorem State.endBlockage_rackMoves (s : State) (e : Eye) : s.RackMoves ok (s.endBlockage e) := by
  refine (s.setEye_rackMoves e { s.eyes.get e with blockage := none }).trans ?_
  unfold State.endBlockage
  dsimp only
  split
  · exact .of_controlled (State.decideMerge_controlled _)
  · exact .of_controlled (State.decideMerge_controlled _)
  · exact .of_controlled (State.decideRelease_controlled _)
  · exact .of_controlled (State.decideDispatch_controlled _)
  · exact .refl _
  · exact .refl _

theorem State.clearEdge_rackMoves (s : State) (e : Eye) : s.RackMoves ok (s.clearEdge e) := by
  unfold State.clearEdge
  dsimp only
  split
  · exact ((s.setEye_rackMoves e _).trans (State.handOn_rackMoves _ e _)).trans (State.endBlockage_rackMoves _ e)
  · exact s.setEye_rackMoves e _

theorem State.declareJam_rackMoves (s : State) (e : Eye) : s.RackMoves ok (s.declareJam e) := by
  unfold State.declareJam
  dsimp only
  split
  · exact ((s.setEye_rackMoves e _).trans (State.recordAnomaly_rackMoves _ _ _ _)).trans
      (State.raiseHold_rackMoves _ _)
  · exact .refl s

theorem State.sampleEye_rackMoves (s : State) (e : Eye) (raw : Bool) : s.RackMoves ok (s.sampleEye e raw) := by
  unfold State.sampleEye
  dsimp only
  repeat' split
  · exact s.setEye_rackMoves e _
  · exact s.setEye_rackMoves e _
  · exact s.blockedEdge_rackMoves e
  · exact s.clearEdge_rackMoves e

theorem State.estopOn_rackMoves (s : State) : s.RackMoves ok s.estopOn :=
  (State.raiseStop_rackMoves _ _).after rfl rfl

theorem State.estopOff_rackMoves (s : State) : s.RackMoves ok s.estopOff :=
  ((State.startingTest_rackMoves _).trans (State.takeCommands_rackMoves _)).after rfl rfl

theorem State.sampleEstop_rackMoves (s : State) (low : Bool) : s.RackMoves ok (s.sampleEstop low) := by
  unfold State.sampleEstop
  repeat' split
  · exact .of_same rfl rfl
  · exact .of_same rfl rfl
  · exact s.estopOn_rackMoves
  · exact s.estopOff_rackMoves

theorem State.sampleAll_rackMoves (s : State) (blocked : List Eye) (low : Bool) (order : List SampleInput) :
    s.RackMoves ok (s.sampleAll blocked low order) := by
  refine State.RackMoves.trans (State.RackMoves.foldl (fun t i => ?_) (inOrder order sampleInputs) s) (.of_same rfl rfl)
  split
  · exact t.sampleEye_rackMoves _ _
  · exact t.sampleEstop_rackMoves _

/-! The tunnel, the heat credit and the timers (chapters 4, 5 and 7). -/

theorem State.stepTunnel_rackMoves (s : State) : s.RackMoves ok s.stepTunnel :=
  (State.RackMoves.one (.shift s)).trans ((State.observe_rackMoves _ _ _).after rfl rfl)

theorem State.countEncoder_rackMoves (s : State) : s.RackMoves ok s.countEncoder := by
  unfold State.countEncoder
  split
  · exact s.stepTunnel_rackMoves
  · exact .of_same rfl rfl

theorem State.exitMissing_rackMoves (s : State) (n : RecNo) : s.RackMoves ok (s.exitMissing n) := by
  unfold State.exitMissing
  split
  · rename_i h
    exact ((State.RackMoves.one (.exitMissing s n h)).trans (State.recordAnomaly_rackMoves _ _ _ _)).trans
      (State.observe_rackMoves _ _ _)
  · exact .refl s

theorem State.tunnelStall_rackMoves (s : State) : s.RackMoves ok s.tunnelStall := by
  unfold State.tunnelStall
  split
  · exact (State.raiseHold_rackMoves _ _).after rfl rfl
  · exact .refl s

/-- A credit sample credits the records of the tunnel cells by the zone inputs as it samples them (R102). -/
theorem State.creditSample_rackMoves (s : State) (h : ∀ z, ok (s.heat.zones.get z).sampled) :
    s.RackMoves ok s.creditSample := by
  unfold State.creditSample
  dsimp only
  refine State.RackMoves.after (State.RackMoves.foldl (fun t p => .one ?_) s.rackZones _) rfl rfl
  exact .credit t p.1 _ p.2 _ (by simpa using h p.2)

theorem State.mergeTimeout_rackMoves (s : State) : s.RackMoves ok s.mergeTimeout := by
  unfold State.mergeTimeout
  repeat' split
  · refine State.RackMoves.trans (State.RackMoves.after (State.RackMoves.trans (State.recordAnomaly_rackMoves _ _ _ _)
      (.of_controlled (State.decideMerge_controlled _))) ?_ ?_) (.of_same rfl rfl) <;> rfl
  all_goals exact .refl s

theorem State.dispatchTimeout_rackMoves (s : State) : s.RackMoves ok s.dispatchTimeout := by
  unfold State.dispatchTimeout
  repeat' split
  · refine State.RackMoves.trans (State.RackMoves.after (State.RackMoves.trans (State.recordAnomaly_rackMoves _ _ _ _)
      (.of_controlled (State.decideDispatch_controlled _))) ?_ ?_) (.of_same rfl rfl) <;> rfl
  all_goals exact .refl s

theorem State.heatTimerExpiry_rackMoves (s : State) : s.RackMoves ok s.heatTimerExpiry := by
  unfold State.heatTimerExpiry
  repeat' split
  · exact (State.RackMoves.of_controlled ((s.withExecutor_controlled _).trans
      (State.writeOutcome_controlled _ _ _ _ _))).trans (State.takeCommands_rackMoves _)
  · exact (State.RackMoves.of_controlled (((s.withExecutor_controlled _).trans
      (State.writeOutcome_controlled _ _ _ _ _)).trans (State.drainTest_controlled _))).trans
      (State.takeCommands_rackMoves _)
  · exact .refl s

theorem State.settleTimerExpiry_rackMoves (s : State) : s.RackMoves ok s.settleTimerExpiry := by
  unfold State.settleTimerExpiry
  split
  · exact (State.RackMoves.of_controlled (s.endHolding_controlled _)).trans (State.takeCommands_rackMoves _)
  · exact .refl s

theorem State.when_rackMoves (s : State) (due : Bool) {f : State → State}
    (h : ∀ t : State, t.RackMoves ok (f t)) : s.RackMoves ok (s.when due f) := by
  unfold State.when
  split
  · exact h s
  · exact .refl s

theorem State.countTimers_rackMoves (s : State) : s.RackMoves ok s.countTimers := by
  refine .one (.windows rfl ?_ ?_)
  · simp only [State.countTimers]
    split <;> rfl
  · simp only [State.countTimers]
    split <;> simp

theorem State.declareJam_heat (s : State) (e : Eye) : (s.declareJam e).heat = s.heat := by
  unfold State.declareJam
  dsimp only
  split
  · rw [(State.Kept.of_settled (State.raiseHold_settled _ _)).heat]
    simp
  · rfl

/-- The jam timers that have run out expire (R57). -/
def State.jamsExpire (s : State) : State :=
  Eye.all.foldl (fun u e => u.when ((u.eyes.get e).jamTimer = some 0) (·.declareJam e)) s

theorem State.jamsExpire_heat (s : State) : s.jamsExpire.heat = s.heat := by
  unfold State.jamsExpire
  generalize Eye.all = es
  induction es generalizing s with
  | nil => rfl
  | cons e es ih =>
    rw [List.foldl_cons, ih]
    unfold State.when
    split
    · exact s.declareJam_heat e
    · rfl

/-- A millisecond is a succession of rack moves: its one credit sample takes the zones as they stand. -/
theorem State.tick_rackMoves (s : State) (h : ∀ z, ok (s.heat.zones.get z).sampled) : s.RackMoves ok s.tick := by
  have jams : s.RackMoves ok s.countTimers.jamsExpire :=
    s.countTimers_rackMoves.trans
      (State.RackMoves.foldl (fun t e => t.when_rackMoves _ fun u => u.declareJam_rackMoves e) Eye.all _)
  have sampled : s.RackMoves ok
      (s.countTimers.jamsExpire.when (s.countTimers.jamsExpire.heat.sampleTimer = 0) State.creditSample) := by
    unfold State.when
    split
    · exact jams.trans (State.creditSample_rackMoves _ (by rw [State.jamsExpire_heat]; exact h))
    · exact jams
  have exits := sampled.trans (State.RackMoves.foldl (fun t n => t.exitMissing_rackMoves n)
    (s.countTimers.jamsExpire.when
      (s.countTimers.jamsExpire.heat.sampleTimer = 0) State.creditSample).lanes.runOut _)
  exact ((((exits.trans (State.when_rackMoves _ _ State.tunnelStall_rackMoves)).trans
    (State.when_rackMoves _ _ State.mergeTimeout_rackMoves)).trans
    (State.when_rackMoves _ _ State.dispatchTimeout_rackMoves)).trans
    (State.when_rackMoves _ _ State.heatTimerExpiry_rackMoves)).trans
    (State.when_rackMoves _ _ State.settleTimerExpiry_rackMoves)

/-- A request row does what the decoder does, beside its answer. -/
theorem State.answering_rackMoves {s : State} {v : Served} (n : Node) (h : s.RackMoves ok v.state) :
    s.RackMoves ok (v.answering n) := h.trans (.of_same rfl rfl)

/-- Every command is a succession of rack moves. -/
theorem exec_rackMoves {c : Instr} {s t : State} (h : ∀ z, ok (s.heat.zones.get z).sampled) (e : exec c s = .next t) :
    s.RackMoves ok t := by
  have next {u : State} (k : s.RackMoves ok u) (f : (Host.Outcome.next u : Host.Outcome State Fault Refusal) = .next t) :
      s.RackMoves ok t := Host.Outcome.next.inj f ▸ k
  cases c with
  | status n => exact next (State.answering_rackMoves n (s.serve_rackMoves n .status)) e
  | readRack n r => exact next (State.answering_rackMoves n (s.serve_rackMoves n (.readRack r))) e
  | readLane n p i => exact next (State.answering_rackMoves n (s.serve_rackMoves n (.readLane p i))) e
  | register n p => exact next (State.answering_rackMoves n (s.serve_rackMoves n (.register p))) e
  | load n r replace finish es =>
    exact next (State.answering_rackMoves n (s.serve_rackMoves n (.load r replace finish es))) e
  | unloaded n r => exact next (State.answering_rackMoves n (s.serve_rackMoves n (.unloaded r))) e
  | rewash n r => exact next (State.answering_rackMoves n (s.serve_rackMoves n (.rewash r))) e
  | retire n r => exact next (State.answering_rackMoves n (s.serve_rackMoves n (.retire r))) e
  | place n r p => exact next (State.answering_rackMoves n (s.serve_rackMoves n (.place r p))) e
  | purge n => exact next (State.answering_rackMoves n (s.serve_rackMoves n .purge)) e
  | set n p i v => exact next (State.answering_rackMoves n (s.serve_rackMoves n (.set p i v))) e
  | get n p i => exact next (State.answering_rackMoves n (s.serve_rackMoves n (.get p i))) e
  | stop n => exact next (State.answering_rackMoves n (s.serveCommand_rackMoves n .stop)) e
  | clear n => exact next (State.answering_rackMoves n (s.serveCommand_rackMoves n .clear)) e
  | setup n => exact next (State.answering_rackMoves n (s.serveCommand_rackMoves n .setup)) e
  | commit n => exact next (State.answering_rackMoves n (s.serveCommand_rackMoves n .commit)) e
  | hold n => exact next (State.answering_rackMoves n (s.serveCommand_rackMoves n .hold)) e
  | drain n => exact next (State.answering_rackMoves n (s.serveCommand_rackMoves n .drain)) e
  | run n => exact next (State.answering_rackMoves n (s.serveCommand_rackMoves n .run)) e
  | startingComplete => exact next (s.startingTest_rackMoves.trans (State.takeCommands_rackMoves _)) e
  | holdingEnd =>
    exact next ((State.RackMoves.of_controlled s.holdingTest_controlled).trans (State.takeCommands_rackMoves _)) e
  | heatTimerExpiry => exact next s.heatTimerExpiry_rackMoves e
  | settleTimerExpiry => exact next s.settleTimerExpiry_rackMoves e
  | drainComplete => exact next (.of_controlled s.drainTest_controlled) e
  | blockedEdge x =>
    refine next ?_ e
    split
    · exact .refl s
    · exact s.blockedEdge_rackMoves x
  | clearEdge x =>
    refine next ?_ e
    split
    · exact s.clearEdge_rackMoves x
    · exact .refl s
  | unloadReleaseOpen => exact next (.of_controlled s.decideRelease_controlled) e
  | mergeGrantOpen => exact next (.of_controlled s.decideMerge_controlled) e
  | dispatchGrantOpen => exact next (.of_controlled s.decideDispatch_controlled) e
  | mergeTimeout => exact next s.mergeTimeout_rackMoves e
  | dispatchTimeout => exact next s.dispatchTimeout_rackMoves e
  | jam x => exact next (s.declareJam_rackMoves x) e
  | estopActive =>
    refine next ?_ e
    split
    · exact .refl s
    · exact s.estopOn_rackMoves
  | estopReleased =>
    refine next ?_ e
    split
    · exact s.estopOff_rackMoves
    · exact .refl s
  | encoderCount => exact next s.countEncoder_rackMoves e
  | step => exact next s.stepTunnel_rackMoves e
  | exitMissing r => exact next (s.exitMissing_rackMoves r) e
  | tunnelStall => exact next s.tunnelStall_rackMoves e
  | creditSample => exact next (s.creditSample_rackMoves h) e
  | frameEnd slots order => exact next (s.frameEnd_rackMoves slots order) e
  | requestTimeout n => exact next (s.setNode_rackMoves n _) e
  | responseDrop n => exact next (s.setNode_rackMoves n _) e
  | nodeAbsent n =>
    refine next ?_ e
    split
    · exact s.becomeAbsent_rackMoves n
    · exact .refl s
  | hardwareReset =>
    refine next (.one (.cleared (fun n => ?_) fun p hp => ?_)) e
    · simp [State.record, State.reset, Vector.get_eq_getElem]
    · fin_cases hp <;> rfl
  | eyeSample blocked low order => exact next (s.sampleAll_rackMoves blocked low order) e

/-- Every step is a succession of rack moves; it credits records by the zone inputs as its one sample makes them. -/
theorem step_rackMoves {s t : State} (h : ∀ z, ok (s.heat.zones.get z).sampled) (e : step s = .next t) :
    s.RackMoves ok t := by
  unfold step at e
  split at e
  · exact Host.Outcome.next.inj e ▸ s.tick_rackMoves h
  · rename_i c rest _
    have moves := exec_rackMoves (ok := ok) (s := { s with pending := rest }) h e
    exact moves.after rfl rfl

end
end Sys2Proof.Machine
end

section
/-! Records stay sound (R5, R15, R16, R112): each change of a record keeps it sound, hence each rack move. -/

namespace Sys2Proof.Machine

/-! ## The changes of a record -/

theorem Record.registered_sound : Record.registered.sound := by decide

theorem Record.emptied_sound (r : Record) : r.emptied.sound := Record.registered_sound

theorem Record.heatCleared_sound {r : Record} (h : r.sound) : r.heatCleared.sound := by
  obtain ⟨load, entries, _, _, _, rewash, _⟩ := h
  exact ⟨load, entries, Nat.zero_le _, by simp [Record.heatCleared], Nat.zero_le _, rewash, by simp [Record.heatCleared]⟩

theorem Record.enteredSpur_sound {r : Record} (h : r.sound) : r.enteredSpur.sound := by
  obtain ⟨load, entries, credit, rinse, samples, _, some⟩ := Record.heatCleared_sound h
  exact ⟨load, entries, credit, rinse, samples, Nat.min_le_left _ _, some⟩

theorem Record.passed_sound {r : Record} (h : r.sound) (e : Eye) (fix : FixPoint) (d : Diverter) :
    (r.passed e fix d).sound := by
  cases e with
  | ul =>
    cases d with
    | toSpur => exact r.enteredSpur_sound h
    | toReturn => exact r.emptied_sound
  | _ => exact h

theorem phantomRecord_sound (e : Eye) (single : SingleSettings) (d : Diverter) :
    (phantomRecord e single d).sound := by
  have unknown (r : Record) (a : r.load = []) (b : r.credit = 0) (c : r.rinseMin = none) (k : r.rinseSamples = 0)
      (w : r.rewash = 0) : r.sound := by
    simp [Record.sound, a, b, c, k, w]
  cases e with
  | ul => cases d <;> exact unknown _ rfl rfl rfl rfl rfl
  | _ => exact unknown _ rfl rfl rfl rfl rfl

theorem Record.judged_sound {r : Record} (h : r.sound) (t : Settings) : (r.judged t).sound := h

theorem Record.rejectedAt_sound {r : Record} (h : r.sound) (limit : Nat) : (r.rejectedAt limit).sound := by
  unfold Record.rejectedAt
  split <;> exact h

theorem Record.rewashed_sound {r : Record} (h : r.sound) : r.rewashed.sound := h

theorem Record.placed_sound {r : Record} (h : r.sound) (p : Place) : (r.placed p).sound := by
  cases p with
  | lp x => exact r.heatCleared_sound h
  | spur => exact r.heatCleared_sound h
  | ret => exact r.emptied_sound
  | _ => exact h

/-- The ceiling raised entry by entry is not below the ceiling before, nor below the class of any entry (R16). -/
theorem foldl_ceiling_bounds (es : List LoadEntry) (c : Fin 8) :
    c ≤ es.foldl (fun c e => max c e.cls) c ∧ ∀ e ∈ es, e.cls ≤ es.foldl (fun c e => max c e.cls) c := by
  induction es generalizing c with
  | nil => exact ⟨le_refl c, by simp⟩
  | cons d ds ih =>
    obtain ⟨above, each⟩ := ih (max c d.cls)
    refine ⟨(le_max_left _ _).trans above, fun e he => ?_⟩
    rcases List.mem_cons.1 he with rfl | he
    · exact (le_max_right _ _).trans above
    · exact each e he

theorem keepLast8_length (es : List LoadEntry) : (keepLast8 es).length ≤ 8 := by
  simp only [keepLast8, List.length_drop]
  omega

theorem Record.appended_sound {r : Record} (h : r.sound) {es : List LoadEntry}
    (wf : es.all LoadEntry.wellFormed = true) : (r.appended es).sound := by
  obtain ⟨_, entries, credit, rinse, samples, rewash, some⟩ := h
  obtain ⟨above, each⟩ := foldl_ceiling_bounds es r.ceiling
  refine ⟨keepLast8_length _, fun e he => ?_, credit, rinse, samples, rewash, some⟩
  rcases List.mem_append.1 (List.mem_of_mem_drop he) with old | new
  · exact ⟨(entries e old).1, (entries e old).2.trans above⟩
  · exact ⟨List.all_eq_true.1 wf e new, each e new⟩

theorem Record.replaced_sound {r : Record} (h : r.sound) (replace : Bool) : (r.replaced replace).sound := by
  cases replace with
  | true =>
    obtain ⟨_, _, credit, rinse, samples, rewash, some⟩ := h
    exact ⟨Nat.zero_le _, by simp [Record.replaced], credit, rinse, samples, rewash, some⟩
  | false => exact h

theorem Record.loaded_sound {r : Record} (h : r.sound) (replace : Bool) {es : List LoadEntry} (atLoading : Bool)
    (wf : es.all LoadEntry.wellFormed = true) : (r.loaded replace es atLoading).sound := by
  have t := Record.appended_sound (Record.replaced_sound h replace) wf
  cases atLoading <;> exact t

/-- A credit and a rinse sample under an effective temperature in its range keep a record sound (R111, R112). -/
theorem Record.credited_sound {r : Record} (h : r.sound) (t : Settings) (z : Zone) {i : ZoneInput}
    (hi : i.effective ≤ 254) : (r.credited t z i).sound := by
  obtain ⟨load, entries, credit, rinse, samples, rewash, some⟩ := h
  have saturated (k : Nat) : min 65535 k ≤ 65535 := Nat.min_le_left _ _
  unfold Record.credited
  split
  · exact ⟨load, entries, credit, rinse, samples, rewash, some⟩
  split
  · dsimp only
    split
    · refine ⟨load, entries, saturated _, fun k hk => ?_, Nat.min_le_left _ _, rewash, fun _ => by simp⟩
      have coldest : k = (r.rinseMin.elim i.effective) (min i.effective) := by simpa using hk.symm
      rw [coldest]
      cases r.rinseMin with
      | none => exact hi
      | some v => exact (Nat.min_le_left _ _).trans hi
    · exact ⟨load, entries, saturated _, rinse, samples, rewash, some⟩
  split
  · exact ⟨load, entries, credit, rinse, samples, rewash, some⟩
  · exact ⟨load, entries, credit, rinse, samples, rewash, some⟩

/-! ## The Rack Table -/

section
variable {s t : State}

theorem State.recordsSound_congr (h : s.recordsSound) (k : ∀ n, t.record n = s.record n) : t.recordsSound :=
  fun n r hr => h n r (k n ▸ hr)

theorem State.recordsSound_setSlot (h : s.recordsSound) (n : RecNo) {v : Option Record} (hv : ∀ r ∈ v, r.sound) :
    (s.setSlot n v).recordsSound := by
  intro m r hr
  rw [State.record_setSlot] at hr
  split at hr
  · exact hv r hr
  · exact h m r hr

theorem State.recordsSound_updateRecord (h : s.recordsSound) (n : RecNo) {f : Record → Record}
    (hf : ∀ r, r.sound → (f r).sound) : (s.updateRecord n f).recordsSound := by
  intro m r hr
  rw [State.record_updateRecord] at hr
  split at hr
  · obtain ⟨v, hv, rfl⟩ := Option.map_eq_some_iff.1 hr
    exact hf v (h n v hv)
  · exact h m r hr

end

/-- The landing of a record writes no slot. -/
@[simp] theorem State.land_slots (s : State) (e : Eye) (n : RecNo) (p : Option Place) :
    (s.land e n p).state.slots = s.slots := by
  unfold State.land
  split
  · rfl
  · split
    · split <;> rfl
    · dsimp only
      repeat' split
      all_goals simp

@[simp] theorem State.endPermission_slots (s : State) (e : Eye) : (s.endPermission e).slots = s.slots := by
  unfold State.endPermission
  repeat' split
  all_goals rfl

theorem State.recordsSound_reconcile {s : State} (h : s.recordsSound) (e : Eye) :
    (s.reconcile e).state.recordsSound := by
  have ended : (s.endPermission e).recordsSound :=
    s.recordsSound_congr h fun n => State.record_congr (s.endPermission_slots e) n
  unfold State.reconcile
  split
  · refine State.recordsSound_congr ?_ fun m => State.record_congr (State.land_slots _ _ _ _) m
    refine State.recordsSound_updateRecord ?_ _ fun r hr => Record.passed_sound hr _ _ _
    exact State.recordsSound_congr ended fun _ => rfl
  · unfold State.phantomPassage
    dsimp only
    split
    · exact ended
    split
    · refine State.recordsSound_congr ?_ fun m => State.record_congr (State.land_slots _ _ _ _) m
      exact State.recordsSound_setSlot ended _ fun r hr => by
        rw [← Option.some.inj hr]
        exact phantomRecord_sound _ _ _
    · exact ended

/-- The record that leaves the last cell is judged; no other record changes (R76). -/
theorem State.record_leaveTunnel (s : State) (m : RecNo) :
    s.leaveTunnel.1.record m =
      if s.lanes.lastCell = some m then (s.record m).map (·.judged s.working) else s.record m := by
  unfold State.leaveTunnel
  split
  · rename_i n hn
    have judged : (s.updateRecord n (·.judged s.working)).record m =
        if some n = some m then (s.record m).map (·.judged s.working) else s.record m := by
      rw [State.record_updateRecord]
      by_cases e : m = n
      · subst e
        simp
      · have : n ≠ m := fun h => e h.symm
        simp [e, this]
    rw [hn, ← judged]
    dsimp only
    repeat' split
    all_goals simp
  · rename_i hn
    simp [hn]

/-- Every rack move keeps the records sound, where records are credited under temperatures in range (R107). -/
theorem State.RackMove.recordsSound {s t : State} (m : s.RackMove (fun i => i.effective ≤ 254) t)
    (h : s.recordsSound) : t.recordsSound := by
  cases m with
  | same slots _ => exact s.recordsSound_congr h (State.record_congr slots)
  | windows slots _ _ => exact s.recordsSound_congr h (State.record_congr slots)
  | commit _ => exact s.recordsSound_congr h fun _ => rfl
  | cleared none _ => exact fun n r hr => by simp [none n] at hr
  | newHead before =>
    intro n r hr
    rw [State.record_takeNewHead] at hr
    split at hr
    · obtain ⟨v, hv, rfl⟩ := Option.map_eq_some_iff.1 hr
      exact Record.rejectedAt_sound (h n v hv) _
    · exact h n r hr
  | register m p _ _ _ =>
    refine State.recordsSound_congr (State.recordsSound_setSlot h m ?_) fun _ => rfl
    exact fun r hr => Option.some.inj hr ▸ Record.registered_sound
  | load m replace es _ wf => exact s.recordsSound_updateRecord h m fun r hr => Record.loaded_sound hr _ _ wf
  | finish m x _ =>
    exact State.recordsSound_congr (s.recordsSound_updateRecord h m
      (f := fun r => { r with state := .loaded, origin := some x }) fun _ hr => hr) fun _ => rfl
  | retire m => exact State.recordsSound_setSlot (s.recordsSound_congr h fun _ => rfl) m (by simp)
  | place m p _ _ _ =>
    exact State.recordsSound_congr (s.recordsSound_updateRecord h m fun r hr => Record.placed_sound hr p) fun _ => rfl
  | unloaded m v _ => exact s.recordsSound_updateRecord h m fun r _ => r.emptied_sound
  | rewash m v _ => exact s.recordsSound_updateRecord h m fun r hr => Record.rewashed_sound hr
  | reconcile e => exact State.recordsSound_reconcile h e
  | shift =>
    intro n r hr
    rw [State.record_withLanes, State.record_leaveTunnel] at hr
    split at hr
    · obtain ⟨v, hv, rfl⟩ := Option.map_eq_some_iff.1 hr
      exact Record.judged_sound (h n v hv) _
    · exact h n r hr
  | exitMissing n _ => exact s.recordsSound_congr h fun _ => rfl
  | credit n t z i hi => exact s.recordsSound_updateRecord h n fun r hr => Record.credited_sound hr t z hi

/-! ## The zones -/

/-- A filter moved toward a goal in range stays in range (R105). -/
theorem filterStep_le {old goal bound : Nat} (h : old ≤ bound) (k : goal ≤ bound) : filterStep old goal ≤ bound := by
  unfold filterStep
  split <;> omega

/-- A credit sample keeps a zone in range (R104 to R108): a raw value other than FFh is at most 254. -/
theorem ZoneInput.sampled_inRange {z : ZoneInput} (h : z.inRange) : z.sampled.inRange := by
  have filter : z.sampled.filter ≤ 4064 := by
    unfold ZoneInput.sampled
    dsimp only
    split
    · rename_i v hv
      split
      · exact h.1
      · rename_i code
        have seed : 16 * v.toNat ≤ 4064 := by
          have := v.isLt
          have : v.toNat ≠ 255 := fun e => code (BitVec.eq_of_toNat_eq e)
          omega
        split
        · exact seed
        · exact filterStep_le h.1 seed
    · exact h.1
  have effective : z.sampled.effective = (z.sampled.filter + 8) / 16 := rfl
  exact ⟨filter, by omega⟩

/-- Settles O56: records are sound in every move of a step, since the one credit sample of a step takes zones in range. -/
theorem recordsStaySoundAtEveryStep : Obligations.RecordsStaySoundAtEveryStep := by
  intro s t heat sound e
  have moves := step_rackMoves (ok := fun i => i.effective ≤ 254)
    (fun z => (ZoneInput.sampled_inRange (heat z (Zone.mem_all z))).2) e
  exact moves.keeps (P := State.recordsSound) (fun _ _ m => m.recordsSound) sound

end Sys2Proof.Machine
end

section
/-! Records keep to their places (R29) and to the states those places allow (R9, R10, R13, R32). A movement lifts a
record out of its place, changes it, and sets it down in another: `State.Lifted` is what holds in between. -/

namespace Sys2Proof.Machine

/-! ## What the places hold after each movement -/

theorem count_cons_rack (n m : RecNo) (q : List RecNo) : (n :: q).count m = q.count m + if m = n then 1 else 0 := by
  rw [← count_one n m, ← List.singleton_append, List.count_append, Nat.add_comm]

theorem count_filter_rack (n m : RecNo) (q : List RecNo) :
    (q.filter (· ≠ n)).count m = if m = n then 0 else q.count m := by
  by_cases h : m = n
  · subst h
    simp [List.count_eq_zero]
  · rw [List.count_filter (by simpa using h), if_neg h]

theorem mem_filterMap_set {cells : List (Option RecNo)} {n m : RecNo} (h : m ∈ (cells.set 0 (some n)).filterMap id) :
    m = n ∨ m ∈ cells.filterMap id := by
  cases cells with
  | nil => simp at h
  | cons c cs =>
    rw [List.set_cons_zero, held_some, List.mem_cons] at h
    rcases h with rfl | h
    · exact .inl rfl
    · exact .inr (List.mem_filterMap.2 (by
        obtain ⟨a, ha, hm⟩ := List.mem_filterMap.1 h
        exact ⟨a, List.mem_cons_of_mem _ ha, hm⟩))

/-- A place joined by a record holds nothing else that is new, and no other place holds anything new (R30 to R32). -/
theorem Lanes.mem_join {l : Lanes} {p q : Place} {n m : RecNo} (h : m ∈ (l.join p n).contents q) :
    (m = n ∧ q = p) ∨ m ∈ l.contents q := by
  by_cases e : q = p
  · subst e
    cases q with
    | lp x => exact .inl ⟨by simpa [Lanes.join, Lanes.contents, eq_comm] using h, rfl⟩
    | outfeed x =>
      have : m ∈ l.outfeed.get x ++ [n] := by simpa [Lanes.join, Lanes.contents] using h
      simpa [Lanes.contents, or_comm] using this
    | tun => exact (mem_filterMap_set h).imp (fun k => ⟨k, rfl⟩) id
    | xt => exact .inr h
    | off => exact .inr h
    | _ =>
      rcases List.mem_append.1 h with k | k
      · exact .inr k
      · exact .inl ⟨by simpa using k, rfl⟩
  · refine .inr ?_
    cases p with
    | lp x =>
      cases q with
      | lp y =>
        have : y ≠ x := fun k => e (by rw [k])
        simpa [Lanes.join, Lanes.contents, this] using h
      | _ => exact h
    | outfeed x =>
      cases q with
      | outfeed y =>
        have : y ≠ x := fun k => e (by rw [k])
        simpa [Lanes.join, Lanes.contents, this] using h
      | _ => exact h
    | _ =>
      cases q with
      | spur => first | exact h | exact absurd rfl e
      | acc => first | exact h | exact absurd rfl e
      | tun => first | exact h | exact absurd rfl e
      | unl => first | exact h | exact absurd rfl e
      | ret => first | exact h | exact absurd rfl e
      | finishOrder => first | exact h | exact absurd rfl e
      | _ => exact h

theorem Lanes.mem_sendOff {l : Lanes} {q : Place} {n m : RecNo} {r : OffReason}
    (h : m ∈ (l.sendOff n r).contents q) : (m = n ∧ q = .off) ∨ m ∈ l.contents q := by
  cases q with
  | off =>
    have : m ∈ l.off.map (·.rack) ++ [n] := by simpa [Lanes.sendOff, Lanes.contents] using h
    rcases List.mem_append.1 this with k | k
    · exact .inr k
    · exact .inl ⟨by simpa using k, rfl⟩
  | _ => exact .inr h

theorem Lanes.mem_pop {l : Lanes} {e : Eye} {q : Place} {m : RecNo} (h : m ∈ (l.pop e).contents q) :
    m ∈ l.contents q := by
  cases e with
  | outfeed x =>
    unfold Lanes.pop at h
    dsimp only at h
    split at h
    · rename_i n rest hx
      cases q with
      | outfeed y =>
        by_cases e : y = x
        · subst e
          have k : m ∈ rest := by simpa [Lanes.contents] using h
          simp [Lanes.contents, hx, k]
        · simpa [Lanes.contents, e] using h
      | finishOrder => exact (List.mem_filter.1 h).1
      | _ => exact h
    · exact h
  | sp =>
    cases q with
    | spur => exact List.mem_of_mem_tail h
    | _ => exact h
  | en =>
    cases q with
    | acc => exact List.mem_of_mem_tail h
    | _ => exact h
  | ex =>
    cases q with
    | xt =>
      have k : m ∈ (l.xt.map (·.rack)).tail := by simpa [Lanes.pop, Lanes.contents, List.map_tail] using h
      exact List.mem_of_mem_tail k
    | _ => exact h
  | ul =>
    cases q with
    | unl => exact List.mem_of_mem_tail h
    | _ => exact h
  | ds =>
    cases q with
    | ret => exact List.mem_of_mem_tail h
    | _ => exact h

/-- The head that leaves a source is held once less (R37). -/
theorem Lanes.holdings_pop {l : Lanes} {e : Eye} {n : RecNo} (h : l.sourceHead e = some n) (m : RecNo) :
    (l.pop e).holdings m + (if m = n then 1 else 0) = l.holdings m := by
  have gone {q : List RecNo} (hq : q.head? = some n) :
      q.count m = q.tail.count m + if m = n then 1 else 0 := by
    obtain ⟨rest, rfl⟩ := List.head?_eq_some_iff.1 hq
    exact count_cons_rack n m rest
  cases e with
  | outfeed x =>
    obtain ⟨rest, hx⟩ := List.head?_eq_some_iff.1 h
    have count := count_cons_rack n m rest
    rw [← hx] at count
    unfold Lanes.pop
    dsimp only
    rw [hx]
    cases x <;> simp only [PerStation.get] at count <;>
      simp only [Lanes.holdings_eq, PerStation.set, count] <;> omega
  | sp => simp only [Lanes.holdings_eq, Lanes.pop, gone (q := l.spur) h]; omega
  | en => simp only [Lanes.holdings_eq, Lanes.pop, gone (q := l.acc) h]; omega
  | ex =>
    have count := gone (q := l.xt.map (·.rack)) (by simpa [Lanes.sourceHead, List.head?_map] using h)
    simp only [Lanes.holdings_eq, Lanes.pop, count, List.map_tail]
    omega
  | ul => simp only [Lanes.holdings_eq, Lanes.pop, gone (q := l.unl) h]; omega
  | ds => simp only [Lanes.holdings_eq, Lanes.pop, gone (q := l.ret) h]; omega

theorem Lanes.mem_shifted {l : Lanes} {q : Place} {m : RecNo} (h : m ∈ l.shifted.contents q) : m ∈ l.contents q := by
  cases q with
  | tun =>
    have k : m ∈ l.cells.dropLast.filterMap id := h
    obtain ⟨a, ha, hm⟩ := List.mem_filterMap.1 k
    exact List.mem_filterMap.2 ⟨a, List.mem_of_mem_dropLast ha, hm⟩
  | _ => exact h

theorem Lanes.mem_remove {l : Lanes} {q : Place} {n m : RecNo} (h : m ∈ (l.remove n).contents q) :
    m ∈ l.contents q := by
  have gone {o : Option RecNo} (k : m ∈ (if o = some n then none else o).toList) : m ∈ o.toList := by
    split at k
    · simp at k
    · exact k
  cases q with
  | lp x => cases x <;> exact gone h
  | outfeed x => cases x <;> exact (List.mem_filter.1 h).1
  | tun =>
    obtain ⟨a, ha, hm⟩ := List.mem_filterMap.1 h
    obtain ⟨o, ho, rfl⟩ := List.mem_map.1 ha
    refine List.mem_filterMap.2 ⟨o, ho, ?_⟩
    dsimp only [id] at hm ⊢
    split at hm
    · cases hm
    · exact hm
  | xt =>
    obtain ⟨x, hx, rfl⟩ := List.mem_map.1 h
    exact List.mem_map.2 ⟨x, (List.mem_filter.1 hx).1, rfl⟩
  | off =>
    obtain ⟨x, hx, rfl⟩ := List.mem_map.1 h
    exact List.mem_map.2 ⟨x, (List.mem_filter.1 hx).1, rfl⟩
  | _ => exact (List.mem_filter.1 h).1

/-- Cells that no record stands beyond hold the same records when their number changes (R96). -/
theorem held_resizeCells {cells : List (Option RecNo)} {n : Nat} (h : ∀ c ∈ cells.drop n, c = none) :
    (resizeCells cells n).filterMap id = cells.filterMap id := by
  have beyond : (cells.drop n).filterMap id = [] := by
    rw [List.filterMap_eq_nil_iff]
    exact fun c hc => h c hc
  have fresh (k : Nat) : ((List.replicate n (none : Option RecNo)).take k).filterMap id = [] := by
    rw [List.filterMap_eq_nil_iff]
    exact fun c hc => List.eq_of_mem_replicate (List.mem_of_mem_take hc)
  rw [resizeCells, List.take_append, List.filterMap_append, fresh, List.append_nil]
  conv_rhs => rw [← List.take_append_drop n cells, List.filterMap_append, beyond, List.append_nil]

/-- A COMMIT that passes leaves every record in its cell (R173, check 4). -/
theorem State.applySettings_held {s : State} (h : s.commitFailure = none) (p : Place) :
    s.applySettings.lanes.contents p = s.lanes.contents p := by
  have beyond : s.lanes.cellBeyond s.stored.tunnelCells = none := by
    unfold State.commitFailure at h
    repeat' split at h
    all_goals first
      | assumption
      | cases h
  cases p with
  | tun =>
    refine held_resizeCells fun c hc => ?_
    obtain ⟨i, hi, rfl⟩ := List.mem_iff_getElem.1 hc
    rw [List.length_drop] at hi
    have none := List.find?_eq_none.1 beyond (s.stored.tunnelCells + i) (List.mem_range.2 (by omega))
    rw [List.getElem_drop]
    have cell : s.lanes.cells[s.stored.tunnelCells + i]? = some s.lanes.cells[s.stored.tunnelCells + i] :=
      List.getElem?_eq_getElem (by omega)
    simpa [cell] using none
  | _ => rfl

/-- What the places of R27 hold decides how often each record is held. -/
theorem Lanes.holdings_congr {l k : Lanes} (h : ∀ p ∈ Place.holding, l.contents p = k.contents p) (n : RecNo) :
    l.holdings n = k.holdings n := by
  unfold Lanes.holdings
  congr 1
  exact List.map_congr_left fun p hp => by rw [h p hp]

/-! ## Records in their places -/

/-- The record has a state the place admits, no load list in RET, and verdict reasons only as SHORT or REJECTED. -/
abbrev Record.fits (r : Record) (p : Place) : Prop :=
  r.state ∈ Place.states p ∧ (p = .ret → r.load = []) ∧ (r.state = .short ∨ r.state = .rejected ∨ r.reasons = Reasons.none)

/-- Every record is in one place, once, and fits it. -/
structure State.Racked (s : State) : Prop where
  placed : s.placed
  fits : s.statesMatchPlaces

/-- Record `n` is in no place; every other is in one, and fits it. -/
structure State.Lifted (s : State) (n : RecNo) : Prop where
  placed : ∀ m, s.lanes.holdings m + (if m = n then 1 else 0) = if (s.record m).isSome then 1 else 0
  fits : s.statesMatchPlaces

theorem Lanes.count_le_holdings (l : Lanes) (n : RecNo) {p : Place} (hp : p ∈ Place.holding) :
    (l.contents p).count n ≤ l.holdings n :=
  List.single_le_sum (by simp) _ (List.mem_map.2 ⟨p, hp, rfl⟩)

theorem Lanes.held_of_mem {l : Lanes} {n : RecNo} {p : Place} (hp : p ∈ Place.holding) (h : n ∈ l.contents p) :
    1 ≤ l.holdings n :=
  (List.count_pos_iff.2 h).trans_le (l.count_le_holdings n hp)

/-- A record that two places hold is held twice. -/
theorem Lanes.held_twice {l : Lanes} {n : RecNo} {p q : Place} (hp : p ∈ Place.holding) (hq : q ∈ Place.holding)
    (ne : p ≠ q) (a : n ∈ l.contents p) (b : n ∈ l.contents q) : 2 ≤ l.holdings n := by
  have first := (List.perm_cons_erase hp).trans
    ((List.perm_cons_erase ((List.mem_erase_of_ne ne.symm).2 hq)).cons p)
  have sum := (first.map fun r => (l.contents r).count n).sum_eq
  have ca : 1 ≤ (l.contents p).count n := List.count_pos_iff.2 a
  have cb : 1 ≤ (l.contents q).count n := List.count_pos_iff.2 b
  unfold Lanes.holdings
  rw [sum]
  simp only [List.map_cons, List.sum_cons]
  omega

section
variable {s t : State} {n m : RecNo} {p q : Place}

theorem State.placed_le (h : s.placed) (n : RecNo) : s.lanes.holdings n ≤ 1 := by
  rw [h n]
  split <;> omega

/-- A record is in one place only (R29). -/
theorem State.placed_unique (h : s.placed) (hp : p ∈ Place.holding) (hq : q ∈ Place.holding)
    (a : n ∈ s.lanes.contents p) (b : n ∈ s.lanes.contents q) : p = q := by
  by_contra ne
  have := Lanes.held_twice hp hq ne a b
  have := State.placed_le h n
  omega

/-- A record in a place is allocated (R29). -/
theorem State.placed_allocated (h : s.placed) (hp : p ∈ Place.holding) (a : n ∈ s.lanes.contents p) :
    (s.record n).isSome = true := by
  have held := Lanes.held_of_mem hp a
  have := h n
  split at this
  · assumption
  · omega

namespace State.Racked

theorem congr (h : s.Racked) (a : ∀ n, t.record n = s.record n)
    (b : ∀ p ∈ Place.holding, t.lanes.contents p = s.lanes.contents p) : t.Racked where
  placed n := by rw [Lanes.holdings_congr b n, a n, h.placed n]
  fits p hp n hn r hr := h.fits p hp n (b p hp ▸ hn) r (a n ▸ hr)

theorem same (h : s.Racked) (a : t.slots = s.slots) (b : t.lanes = s.lanes) : t.Racked :=
  h.congr (State.record_congr a) fun p _ => by rw [b]

/-- A record changed where it stands. -/
theorem update (h : s.Racked) {f : Record → Record}
    (hf : ∀ p ∈ Place.holding, n ∈ s.lanes.contents p → ∀ r, r.fits p → (f r).fits p) :
    (s.updateRecord n f).Racked where
  placed m := by
    rw [State.updateRecord_lanes, State.record_updateRecord, h.placed m]
    by_cases e : m = n
    · subst e
      simp
    · simp [e]
  fits p hp m hm r hr := by
    rw [State.updateRecord_lanes] at hm
    rw [State.record_updateRecord] at hr
    split at hr
    · rename_i e
      subst e
      obtain ⟨v, hv, rfl⟩ := Option.map_eq_some_iff.1 hr
      exact hf p hp hm v (h.fits p hp m hm v hv)
    · exact h.fits p hp m hm r hr

/-- A record taken out of its place, the others left where they were. -/
theorem lift (h : s.Racked) {l : Lanes} (held : ∀ m, l.holdings m + (if m = n then 1 else 0) = s.lanes.holdings m)
    (mem : ∀ p ∈ Place.holding, ∀ m ∈ l.contents p, m ∈ s.lanes.contents p) : (s.withLanes l).Lifted n where
  placed m := (held m).trans (h.placed m)
  fits p hp m hm r hr := h.fits p hp m (mem p hp m hm) r hr

/-- A record allocated, not yet in a place. -/
theorem allocate (h : s.Racked) (free : s.record n = none) (v : Record) : (s.setSlot n (some v)).Lifted n where
  placed m := by
    rw [State.setSlot_lanes, State.record_setSlot, h.placed m]
    by_cases e : m = n
    · subst e
      simp [free]
    · simp [e]
  fits p hp m hm r hr := by
    have taken := State.placed_allocated h.placed hp hm
    rw [State.record_setSlot] at hr
    split at hr
    · rename_i e
      subst e
      simp [free] at taken
    · exact h.fits p hp m hm r hr

end State.Racked

namespace State.Lifted

theorem not_mem (h : s.Lifted n) (hp : p ∈ Place.holding) : n ∉ s.lanes.contents p := by
  intro mem
  have held := Lanes.held_of_mem hp mem
  have := h.placed n
  rw [if_pos rfl] at this
  split at this <;> omega

/-- The record in no place is changed. -/
theorem update (h : s.Lifted n) (f : Record → Record) : (s.updateRecord n f).Lifted n where
  placed m := by
    rw [State.updateRecord_lanes, State.record_updateRecord, h.placed m]
    by_cases e : m = n
    · subst e
      simp
    · simp [e]
  fits p hp m hm r hr := by
    rw [State.updateRecord_lanes] at hm
    rw [State.record_updateRecord] at hr
    split at hr
    · rename_i e
      exact absurd (e ▸ hm) (h.not_mem hp)
    · exact h.fits p hp m hm r hr

/-- The record is set down in a place it fits. -/
theorem land (h : s.Lifted n) {l : Lanes} (held : ∀ m, l.holdings m = s.lanes.holdings m + if m = n then 1 else 0)
    (mem : ∀ q ∈ Place.holding, ∀ m ∈ l.contents q, (m = n ∧ q = p) ∨ m ∈ s.lanes.contents q)
    (fits : ∀ r ∈ s.record n, r.fits p) : (s.withLanes l).Racked where
  placed m := (held m).trans (h.placed m)
  fits q hq m hm r hr := by
    rcases mem q hq m hm with ⟨rfl, rfl⟩ | old
    · exact fits r hr
    · exact h.fits q hq m old r hr

end State.Lifted
end

end Sys2Proof.Machine
end

section
/-! Every rack move keeps each record in one place, in a state that place admits (O54). -/

namespace Sys2Proof.Machine

/-! ## The changes of a record fit the places they lead to -/

/-- The place of the source of a trackpoint (R36). -/
def sourcePlace : Eye → Place
  | .outfeed x => .outfeed x
  | .sp => .spur
  | .en => .acc
  | .ex => .xt
  | .ul => .unl
  | .ds => .ret

theorem sourcePlace_holding (e : Eye) : sourcePlace e ∈ Place.holding := by
  rcases e with ⟨⟨⟩⟩ | _ | _ | _ | _ | _ <;> decide

theorem Lanes.mem_source {l : Lanes} {e : Eye} {n : RecNo} (h : l.sourceHead e = some n) :
    n ∈ l.contents (sourcePlace e) := by
  cases e with
  | ex => exact List.mem_of_head? (by simpa [Lanes.sourceHead, sourcePlace, List.head?_map, Lanes.contents] using h)
  | _ => exact List.mem_of_head? h

section
variable {r : Record}

theorem Record.fits_lp {x : Station} :
    r.fits (.lp x) ↔ (r.state = .empty ∨ r.state = .loading) ∧ r.reasons = Reasons.none := by
  simp only [Record.fits, Place.states, List.mem_cons, List.not_mem_nil, or_false]
  grind

/-- A soiled record stands in an outfeed, SPUR or ACC. -/
theorem Record.fits_soiled {p : Place} (hp : p = .spur ∨ p = .acc ∨ ∃ x, p = .outfeed x) :
    r.fits p ↔ r.state = .loaded ∧ r.reasons = Reasons.none := by
  rcases hp with rfl | rfl | ⟨x, rfl⟩ <;>
    simp only [Record.fits, Place.states, List.mem_cons, List.not_mem_nil, or_false] <;> grind

theorem Record.fits_tun : r.fits .tun ↔ r.state = .inWash ∧ r.reasons = Reasons.none := by
  simp only [Record.fits, Place.states, List.mem_cons, List.not_mem_nil, or_false]
  grind

theorem Record.fits_xt : r.fits .xt ↔ r.state = .short ∨ (r.state = .clean ∧ r.reasons = Reasons.none) := by
  simp only [Record.fits, Place.states, List.mem_cons, List.not_mem_nil, or_false]
  grind

theorem Record.fits_unl : r.fits .unl ↔
    r.state = .short ∨ r.state = .rejected ∨ ((r.state = .empty ∨ r.state = .clean) ∧ r.reasons = Reasons.none) := by
  simp only [Record.fits, Place.states, List.mem_cons, List.not_mem_nil, or_false]
  grind

theorem Record.fits_ret : r.fits .ret ↔ r.state = .empty ∧ r.load = [] ∧ r.reasons = Reasons.none := by
  simp only [Record.fits, Place.states, List.mem_cons, List.not_mem_nil, or_false]
  grind

theorem Record.fits_off : r.fits .off ↔ r.state = .short
    ∨ ((r.state = .empty ∨ r.state = .loaded ∨ r.state = .inWash ∨ r.state = .clean) ∧ r.reasons = Reasons.none) := by
  simp only [Record.fits, Place.states, List.mem_cons, List.not_mem_nil, or_false]
  grind

end

theorem Record.registered_fits {p : Place} (hp : p = .ret ∨ ∃ x, p = .lp x) : Record.registered.fits p := by
  rcases hp with rfl | ⟨x, rfl⟩
  · exact Record.fits_ret.2 ⟨rfl, rfl, rfl⟩
  · exact Record.fits_lp.2 ⟨.inl rfl, rfl⟩

/-- The record a UL passage moves, for either position of the diverter (R11). -/
theorem Record.unloadPassed_fits (r : Record) (fix : FixPoint) (d : Diverter) :
    (r.passed .ul fix d).fits d.place ∧ (r.passed .ul fix d).fits .off := by
  cases d with
  | toReturn => exact ⟨Record.fits_ret.2 ⟨rfl, rfl, rfl⟩, Record.fits_off.2 (.inr ⟨.inl rfl, rfl⟩)⟩
  | toSpur => exact ⟨(Record.fits_soiled (.inl rfl)).2 ⟨rfl, rfl⟩, Record.fits_off.2 (.inr ⟨.inr (.inl rfl), rfl⟩)⟩

/-- The record a passage moves fits its destination, and OFF (R11 to R13, R37, R42). -/
theorem Record.passed_fits {r : Record} {e : Eye} (fix : FixPoint) (d : Diverter) (h : r.fits (sourcePlace e)) :
    (r.passed e fix d).fits .off ∧ ∀ s : State, s.unload.diverter = d → ∀ p, s.destination e = some p →
      (r.passed e fix d).fits p := by
  cases e with
  | outfeed x =>
    have k := (Record.fits_soiled (.inr (.inr ⟨x, rfl⟩))).1 h
    exact ⟨Record.fits_off.2 (.inr ⟨.inr (.inl k.1), k.2⟩), fun s _ p hp => by
      obtain rfl := Option.some.inj hp
      exact (Record.fits_soiled (.inr (.inl rfl))).2 k⟩
  | sp =>
    have k := (Record.fits_soiled (.inl rfl)).1 h
    exact ⟨Record.fits_off.2 (.inr ⟨.inr (.inl k.1), k.2⟩), fun s _ p hp => by
      obtain rfl := Option.some.inj hp
      exact (Record.fits_soiled (.inr (.inl rfl))).2 k⟩
  | en =>
    have k := (Record.fits_soiled (.inr (.inl rfl))).1 h
    exact ⟨Record.fits_off.2 (.inr ⟨.inr (.inr (.inl rfl)), k.2⟩), fun s _ p hp => by
      obtain rfl := Option.some.inj hp
      exact Record.fits_tun.2 ⟨rfl, k.2⟩⟩
  | ex =>
    have k := Record.fits_xt.1 h
    exact ⟨Record.fits_off.2 (k.imp_right fun c => ⟨.inr (.inr (.inr c.1)), c.2⟩), fun s _ p hp => by
      obtain rfl := Option.some.inj hp
      exact Record.fits_unl.2 (k.imp_right fun c => .inr ⟨.inr c.1, c.2⟩)⟩
  | ul =>
    obtain ⟨dest, off⟩ := r.unloadPassed_fits fix d
    exact ⟨off, fun s hs p hp => by
      subst hs
      obtain rfl := Option.some.inj hp
      exact dest⟩
  | ds =>
    have k := Record.fits_ret.1 h
    exact ⟨Record.fits_off.2 (.inr ⟨.inl k.1, k.2.2⟩), fun s _ p hp => by
      obtain ⟨x, _, rfl⟩ := Option.map_eq_some_iff.1 hp
      exact Record.fits_lp.2 ⟨.inl k.1, k.2.2⟩⟩

/-- A phantom fits the destination of its trackpoint, and OFF (R25). -/
theorem phantomRecord_fits {e : Eye} (single : SingleSettings) (d : Diverter) (he : e ≠ .ds) :
    (phantomRecord e single d).fits .off ∧ ∀ s : State, s.unload.diverter = d → ∀ p, s.destination e = some p →
      (phantomRecord e single d).fits p := by
  cases e with
  | outfeed x =>
    exact ⟨Record.fits_off.2 (.inr ⟨.inr (.inl rfl), rfl⟩), fun s _ p hp => by
      obtain rfl := Option.some.inj hp
      exact (Record.fits_soiled (.inr (.inl rfl))).2 ⟨rfl, rfl⟩⟩
  | sp =>
    exact ⟨Record.fits_off.2 (.inr ⟨.inr (.inl rfl), rfl⟩), fun s _ p hp => by
      obtain rfl := Option.some.inj hp
      exact (Record.fits_soiled (.inr (.inl rfl))).2 ⟨rfl, rfl⟩⟩
  | en =>
    exact ⟨Record.fits_off.2 (.inr ⟨.inr (.inr (.inl rfl)), rfl⟩), fun s _ p hp => by
      obtain rfl := Option.some.inj hp
      exact Record.fits_tun.2 ⟨rfl, rfl⟩⟩
  | ex =>
    exact ⟨Record.fits_off.2 (.inl rfl), fun s _ p hp => by
      obtain rfl := Option.some.inj hp
      exact Record.fits_unl.2 (.inl rfl)⟩
  | ul =>
    cases d with
    | toReturn =>
      exact ⟨Record.fits_off.2 (.inr ⟨.inl rfl, rfl⟩), fun s hs p hp => by
        obtain rfl := Option.some.inj hp
        rw [hs]
        exact Record.fits_ret.2 ⟨rfl, rfl, rfl⟩⟩
    | toSpur =>
      exact ⟨Record.fits_off.2 (.inr ⟨.inr (.inl rfl), rfl⟩), fun s hs p hp => by
        obtain rfl := Option.some.inj hp
        rw [hs]
        exact (Record.fits_soiled (.inl rfl)).2 ⟨rfl, rfl⟩⟩
  | ds => exact absurd rfl he

theorem Record.judged_fits {r : Record} (t : Settings) : (r.judged t).fits .xt := by
  refine Record.fits_xt.2 ?_
  by_cases h : r.verdictReasons t = Reasons.none
  · exact .inr ⟨by simp [Record.judged, h], by simp [Record.judged, h]⟩
  · exact .inl (by simp [Record.judged, h])

theorem Record.rejectedAt_fits {r : Record} (limit : Nat) (h : r.fits .unl) : (r.rejectedAt limit).fits .unl := by
  unfold Record.rejectedAt
  split
  · exact Record.fits_unl.2 (.inr (.inl rfl))
  · exact h

theorem Record.placed_fits (r : Record) {p : Place} (hp : p = .ret ∨ p = .spur ∨ ∃ x, p = .lp x) :
    (r.placed p).fits p := by
  rcases hp with rfl | rfl | ⟨x, rfl⟩
  · exact Record.fits_ret.2 ⟨rfl, rfl, rfl⟩
  · exact (Record.fits_soiled (.inl rfl)).2 ⟨rfl, rfl⟩
  · refine Record.fits_lp.2 ⟨?_, rfl⟩
    show stateByList r.load = _ ∨ stateByList r.load = _
    unfold stateByList
    split
    · exact .inl rfl
    · exact .inr rfl

theorem Record.credited_keeps (r : Record) (t : Settings) (z : Zone) (i : ZoneInput) :
    (r.credited t z i).state = r.state ∧ (r.credited t z i).load = r.load
      ∧ (r.credited t z i).reasons = r.reasons := by
  unfold Record.credited
  dsimp only
  repeat' split
  all_goals exact ⟨rfl, rfl, rfl⟩

/-- The state of a loaded record follows its list at a loading position and is kept elsewhere (R16). -/
theorem Record.loaded_fits {r : Record} {p : Place} (replace : Bool) (es : List LoadEntry) (h : r.fits p)
    (hp : takesLoad p = true) {atLoading : Bool} (hl : atLoading = true ↔ ∃ x, p = .lp x) :
    (r.loaded replace es atLoading).fits p := by
  have reasons : (r.loaded replace es atLoading).reasons = r.reasons := by
    cases atLoading <;> cases replace <;> rfl
  have soiled (hs : p = .spur ∨ p = .acc ∨ ∃ x, p = .outfeed x) (no : ¬∃ x, p = .lp x) :
      (r.loaded replace es atLoading).fits p := by
    obtain rfl : atLoading = false := by simpa using fun k => no (hl.1 k)
    have k := (Record.fits_soiled hs).1 h
    have state : (r.loaded replace es false).state = r.state := by cases replace <;> rfl
    exact (Record.fits_soiled hs).2 ⟨state.trans k.1, reasons.trans k.2⟩
  cases p with
  | lp x =>
    obtain rfl := hl.2 ⟨x, rfl⟩
    refine Record.fits_lp.2 ⟨?_, reasons.trans (Record.fits_lp.1 h).2⟩
    show stateByList _ = _ ∨ stateByList _ = _
    unfold stateByList
    split
    · exact .inl rfl
    · exact .inr rfl
  | outfeed x => exact soiled (.inr (.inr ⟨x, rfl⟩)) (by simp)
  | spur => exact soiled (.inl rfl) (by simp)
  | acc => exact soiled (.inr (.inl rfl)) (by simp)
  | _ => simp [takesLoad] at hp

/-! ## Where a record stands -/

theorem Lanes.stationOf_some {l : Lanes} {n : RecNo} {x : Station} (h : l.stationOf n = some x) :
    l.lp.get x = some n := by
  simpa using List.find?_some h

theorem Lanes.stationOf_mem {l : Lanes} {n : RecNo} {x : Station} (h : l.stationOf n = some x) :
    n ∈ l.contents (.lp x) := by
  simp [Lanes.contents, Lanes.stationOf_some h]

theorem Lanes.stationOf_isSome {l : Lanes} {n : RecNo} {x : Station} (h : n ∈ l.contents (.lp x)) :
    (l.stationOf n).isSome = true := by
  have h : l.lp.get x = some n := by simpa [Lanes.contents] using h
  exact List.find?_isSome.2 ⟨x, Station.mem_all x, by simpa using h⟩

theorem Lanes.placeOf_some {l : Lanes} {n : RecNo} {p : Place} (h : l.placeOf n = some p) :
    p ∈ Place.holding ∧ n ∈ l.contents p :=
  ⟨List.mem_of_find?_eq_some h, by simpa using List.find?_some h⟩

theorem Place.lp_holding (x : Station) : Sys2Proof.Place.lp x ∈ Place.holding := by cases x <;> decide

theorem State.unloadHead_some {s : State} {m : RecNo} {v : Record} (h : s.unloadHead = some (m, v)) :
    s.lanes.unl.head? = some m ∧ s.record m = some v := by
  unfold State.unloadHead at h
  split at h
  · rename_i n hn
    obtain ⟨r, hr, e⟩ := Option.map_eq_some_iff.1 h
    cases e
    exact ⟨hn, hr⟩
  · cases h

/-! ## Passages -/

/-- A record lands at its destination where there is one with room, else on OFF (R39, R42). -/
theorem State.land_lanes (s : State) (e : Eye) (n : RecNo) (p : Option Place) :
    (∃ r, (s.land e n p).state.lanes = s.lanes.sendOff n r)
      ∨ ∃ q, p = some q ∧ s.isFull q = false ∧ (s.land e n p).state.lanes = s.lanes.join q n := by
  unfold State.land
  split
  · exact .inl ⟨_, rfl⟩
  · rename_i q
    split
    · split <;> exact .inl ⟨_, rfl⟩
    · rename_i room
      refine .inr ⟨q, rfl, by simpa using room, ?_⟩
      dsimp only
      repeat' split
      all_goals simp

/-- The destination of a passage is a FIFO, an empty cell 0 or an empty loading position: a record that joins it where
there is room is held once more (R36). -/
theorem State.holdings_join_destination {s : State} {u : State} {e : Eye} {q : Place}
    (hq : s.destination e = some q) (room : u.isFull q = false) (n m : RecNo) :
    (u.lanes.join q n).holdings m = u.lanes.holdings m + if m = n then 1 else 0 := by
  have fifo := u.lanes.holdings_join_fifo q n m
  cases e with
  | outfeed x => exact fifo (.inr (.inl (Option.some.inj hq).symm))
  | sp => exact fifo (.inr (.inl (Option.some.inj hq).symm))
  | en =>
    obtain rfl := Option.some.inj hq
    exact u.lanes.holdings_join_tun n m (by simpa [State.isFull] using room)
  | ex => exact fifo (.inr (.inr (.inl (Option.some.inj hq).symm)))
  | ul =>
    have place := Option.some.inj hq
    cases h : s.unload.diverter with
    | toReturn => exact fifo (.inr (.inr (.inr (by rw [← place, h]; rfl))))
    | toSpur => exact fifo (.inl (by rw [← place, h]; rfl))
  | ds =>
    obtain ⟨x, _, rfl⟩ := Option.map_eq_some_iff.1 hq
    exact u.lanes.holdings_join_lp x n m (by simpa [State.isFull] using room)

/-- A record in no place that lands where it fits is in one. -/
theorem State.Lifted.landed {s u : State} {n : RecNo} {e : Eye} (h : u.Lifted n)
    (fits : ∀ r ∈ u.record n, r.fits .off ∧ ∀ p, s.destination e = some p → r.fits p) :
    (u.land e n (s.destination e)).state.Racked := by
  rcases u.land_lanes e n (s.destination e) with ⟨reason, hl⟩ | ⟨q, hq, room, hl⟩
  · have off := h.land (p := .off) (fun m => u.lanes.holdings_sendOff n m reason)
      (fun _ _ _ hm => Lanes.mem_sendOff hm) fun r hr => (fits r hr).1
    exact off.same (u.land_slots _ _ _) hl
  · have joined := h.land (p := q) (fun m => State.holdings_join_destination hq room n m)
      (fun _ _ _ hm => Lanes.mem_join hm) fun r hr => (fits r hr).2 q hq
    exact joined.same (u.land_slots _ _ _) hl

@[simp] theorem State.endPermission_lanes (s : State) (e : Eye) : (s.endPermission e).lanes = s.lanes := by
  unfold State.endPermission
  repeat' split
  all_goals rfl

theorem State.Racked.reconcile {s : State} (h : s.Racked) (e : Eye) : (s.reconcile e).state.Racked := by
  have ended : (s.endPermission e).Racked := h.same (s.endPermission_slots e) (s.endPermission_lanes e)
  unfold State.reconcile
  split
  · rename_i n hn
    have hn' : (s.endPermission e).lanes.sourceHead e = some n := by rw [State.endPermission_lanes, hn]
    have lifted := ended.lift (Lanes.holdings_pop hn') fun _ _ _ hm => Lanes.mem_pop hm
    refine State.Lifted.landed (lifted.update _) fun r hr => ?_
    rw [State.record_updateRecord, if_pos rfl] at hr
    obtain ⟨v, hv, rfl⟩ := Option.map_eq_some_iff.1 hr
    obtain ⟨off, dest⟩ := Record.passed_fits s.single.fixPoint s.unload.diverter
      (ended.fits _ (sourcePlace_holding e) n (Lanes.mem_source hn') v hv)
    exact ⟨off, dest s rfl⟩
  · unfold State.phantomPassage
    dsimp only
    split
    · exact ended
    rename_i ne
    split
    · rename_i n hn
      have free : (s.endPermission e).record n = none := by
        rw [State.record_congr (s.endPermission_slots e)]
        exact (State.lowestFree_some hn).1
      refine State.Lifted.landed (ended.allocate free _) fun r hr => ?_
      rw [State.record_setSlot, if_pos rfl] at hr
      obtain rfl := Option.some.inj hr
      obtain ⟨off, dest⟩ := phantomRecord_fits s.single s.unload.diverter ne
      exact ⟨off, dest s rfl⟩
    · exact ended

/-! ## The other movements -/

theorem State.Racked.newHead {s : State} (h : s.Racked) (before : State) : (s.takeNewHead before).Racked := by
  have seen : ∀ n, s.lanes.unl.head? = some n →
      (s.updateRecord n fun r => r.rejectedAt s.working.rewashLimit).Racked := fun n hn =>
    h.update fun p hp hm r hr => by
      obtain rfl := State.placed_unique h.placed hp (by decide) hm (q := .unl) (List.mem_of_head? hn)
      exact Record.rejectedAt_fits _ hr
  unfold State.takeNewHead
  split
  · rename_i n hn
    split
    · exact h
    · exact (seen n hn).same (by simp [State.setDiverter_slots]) (by simp [State.setDiverter_lanes])
  · exact h

theorem State.Racked.register {s : State} (h : s.Racked) {m : RecNo} {p : Place} (free : s.record m = none)
    (hp : p = .ret ∨ ∃ x, p = .lp x) (room : s.isFull p = false) :
    ((s.setSlot m (some Record.registered)).withLanes (s.lanes.join p m)).Racked := by
  refine (h.allocate free Record.registered).land (p := p) (fun k => ?_) (fun _ _ _ hm => Lanes.mem_join hm) ?_
  · rcases hp with rfl | ⟨x, rfl⟩
    · exact s.lanes.holdings_join_fifo .ret m k (.inr (.inr (.inr rfl)))
    · exact s.lanes.holdings_join_lp x m k (by simpa [State.isFull] using room)
  · intro r hr
    rw [State.record_setSlot, if_pos rfl] at hr
    exact Option.some.inj hr ▸ Record.registered_fits hp

theorem State.Racked.load {s : State} (h : s.Racked) {m : RecNo} (replace : Bool) (es : List LoadEntry)
    (there : (s.lanes.placeOf m).any takesLoad = true) :
    (s.updateRecord m fun r => r.loaded replace es (s.lanes.stationOf m).isSome).Racked := by
  obtain ⟨q, hq, takes⟩ := (Option.any_eq_true _ _).1 there
  obtain ⟨holding, mem⟩ := Lanes.placeOf_some hq
  refine h.update fun p hp hm r hr => ?_
  obtain rfl := State.placed_unique h.placed hp holding hm mem
  refine Record.loaded_fits replace es hr takes ⟨fun k => ?_, fun ⟨x, hx⟩ => Lanes.stationOf_isSome (hx ▸ hm)⟩
  obtain ⟨x, hx⟩ := Option.isSome_iff_exists.1 k
  exact ⟨x, State.placed_unique h.placed hp (Place.lp_holding x) hm (Lanes.stationOf_mem hx)⟩

theorem Lanes.holdings_lp_none {l : Lanes} {x : Station} {n : RecNo} (h : l.lp.get x = some n) (m : RecNo) :
    ({ l with lp := l.lp.set x none } : Lanes).holdings m + (if m = n then 1 else 0) = l.holdings m := by
  have one : (some n).toList.count m = if m = n then 1 else 0 := count_one n m
  cases x <;> simp only [PerStation.get] at h <;>
    simp only [Lanes.holdings_eq, PerStation.set, h, one, Option.toList_none, List.count_nil] <;> omega

theorem Lanes.holdings_join_outfeed (l : Lanes) (x : Station) (n m : RecNo) :
    (l.join (.outfeed x) n).holdings m = l.holdings m + if m = n then 1 else 0 := by
  have one := count_one n m
  cases x <;> simp only [Lanes.holdings_eq, Lanes.join, PerStation.set, PerStation.get, List.count_append, one] <;>
    omega

theorem State.Racked.finish {s : State} (h : s.Racked) {m : RecNo} {x : Station}
    (hx : s.lanes.stationOf m = some x) : (s.finish m x).Racked := by
  have mem : ∀ p ∈ Place.holding, ∀ k ∈ ({ s.lanes with lp := s.lanes.lp.set x none } : Lanes).contents p,
      k ∈ s.lanes.contents p := by
    intro p _ k hk
    cases p with
    | lp y =>
      by_cases e : y = x
      · simp [Lanes.contents, e] at hk
      · simpa [Lanes.contents, e] using hk
    | _ => exact hk
  have lifted := (h.lift (Lanes.holdings_lp_none (Lanes.stationOf_some hx)) mem).update
    fun r => { r with state := .loaded, origin := some x }
  refine (lifted.land (p := .outfeed x) (fun k => Lanes.holdings_join_outfeed _ x m k)
    (fun _ _ _ hk => Lanes.mem_join hk) ?_).congr (fun k => ?_) fun p hp => ?_
  · intro r hr
    rw [State.record_updateRecord, if_pos rfl] at hr
    obtain ⟨v, hv, rfl⟩ := Option.map_eq_some_iff.1 hr
    have k := Record.fits_lp.1 (h.fits _ (Place.lp_holding x) m (Lanes.stationOf_mem hx) v hv)
    exact (Record.fits_soiled (.inr (.inr ⟨x, rfl⟩))).2 ⟨rfl, k.2⟩
  · simp [State.finish]
  · cases p with
    | finishOrder => exact absurd hp (by decide)
    | _ => simp [State.finish, Lanes.contents, Lanes.join]

theorem State.Racked.retire {s : State} (h : s.Racked) (m : RecNo) :
    ((s.withLanes (s.lanes.remove m)).setSlot m none).Racked where
  placed k := by
    have old := h.placed k
    rw [State.setSlot_lanes, State.withLanes_lanes, Lanes.holdings_remove, State.record_setSlot]
    split
    · rfl
    · exact old
  fits p hp k hk r hr := by
    rw [State.record_setSlot] at hr
    split at hr
    · cases hr
    · exact h.fits p hp k (Lanes.mem_remove hk) r hr

/-- A record held once, and in this list, is in it once. -/
theorem State.count_eq_one {s : State} (h : s.placed) {p : Place} (hp : p ∈ Place.holding) {n : RecNo}
    (mem : n ∈ s.lanes.contents p) : (s.lanes.contents p).count n = 1 := by
  have low : 1 ≤ (s.lanes.contents p).count n := List.count_pos_iff.2 mem
  have high := s.lanes.count_le_holdings n hp
  have := State.placed_le h n
  omega

theorem map_rack_filter_off (l : List OffEntry) (n : RecNo) :
    (l.filter (·.rack ≠ n)).map (·.rack) = (l.map (·.rack)).filter (· ≠ n) := by
  rw [List.filter_map]
  rfl

theorem map_rack_filter_xt (l : List XtEntry) (n : RecNo) :
    (l.filter (·.rack ≠ n)).map (·.rack) = (l.map (·.rack)).filter (· ≠ n) := by
  rw [List.filter_map]
  rfl

theorem Lanes.mem_filter_off {l : Lanes} {n m : RecNo} {p : Place}
    (h : m ∈ ({ l with off := l.off.filter (·.rack ≠ n) } : Lanes).contents p) : m ∈ l.contents p := by
  cases p with
  | off =>
    have k : m ∈ (l.off.filter (·.rack ≠ n)).map (·.rack) := h
    rw [map_rack_filter_off] at k
    exact (List.mem_filter.1 k).1
  | _ => exact h

theorem Lanes.mem_filter_xt {l : Lanes} {n m : RecNo} {p : Place}
    (h : m ∈ ({ l with xt := l.xt.filter (·.rack ≠ n) } : Lanes).contents p) : m ∈ l.contents p := by
  cases p with
  | xt =>
    have k : m ∈ (l.xt.filter (·.rack ≠ n)).map (·.rack) := h
    rw [map_rack_filter_xt] at k
    exact (List.mem_filter.1 k).1
  | _ => exact h

theorem State.Racked.place {s : State} (h : s.Racked) {m : RecNo} {p : Place} (off : s.lanes.onOff m = true)
    (hp : p = .ret ∨ p = .spur ∨ ∃ x, p = .lp x) (room : s.isFull p = false) :
    ((s.updateRecord m (·.placed p)).withLanes
      (({ s.lanes with off := s.lanes.off.filter (·.rack ≠ m) } : Lanes).join p m)).Racked := by
  have mem : m ∈ s.lanes.contents .off := by
    obtain ⟨x, hx, e⟩ := List.any_eq_true.1 off
    exact List.mem_map.2 ⟨x, hx, by simpa using e⟩
  have once : (s.lanes.off.map (·.rack)).count m = 1 := State.count_eq_one h.placed (by decide) mem
  have held (k : RecNo) : ({ s.lanes with off := s.lanes.off.filter (·.rack ≠ m) } : Lanes).holdings k
      + (if k = m then 1 else 0) = s.lanes.holdings k := by
    simp only [Lanes.holdings_eq, map_rack_filter_off, count_filter_rack]
    by_cases e : k = m
    · subst e
      simp only [if_true, once]
    · simp [e]
  have lifted := (h.lift held fun _ _ _ hk => Lanes.mem_filter_off hk).update (·.placed p)
  refine (lifted.land (p := p) (fun k => ?_) (fun _ _ _ hk => Lanes.mem_join hk) ?_).congr (fun k => ?_) fun _ _ => by simp
  · rw [State.updateRecord_lanes, State.withLanes_lanes]
    rcases hp with rfl | rfl | ⟨x, rfl⟩
    · exact Lanes.holdings_join_fifo _ .ret m k (.inr (.inr (.inr rfl)))
    · exact Lanes.holdings_join_fifo _ .spur m k (.inl rfl)
    · exact Lanes.holdings_join_lp _ x m k (by simpa [State.isFull] using room)
  · intro r hr
    rw [State.record_updateRecord, if_pos rfl] at hr
    obtain ⟨v, _, rfl⟩ := Option.map_eq_some_iff.1 hr
    exact v.placed_fits hp
  · simp

theorem State.Racked.exitMissing {s : State} (h : s.Racked) {n : RecNo} (there : s.lanes.exitTiming n = true) :
    (s.withLanes { s.lanes.sendOff n .exitMissing with xt := s.lanes.xt.filter (·.rack ≠ n) }).Racked := by
  have mem : n ∈ s.lanes.contents .xt := by
    obtain ⟨x, hx, e⟩ := List.any_eq_true.1 there
    simp only [Bool.and_eq_true, decide_eq_true_eq] at e
    exact List.mem_map.2 ⟨x, hx, e.1⟩
  have once : (s.lanes.xt.map (·.rack)).count n = 1 := State.count_eq_one h.placed (by decide) mem
  have held (k : RecNo) : ({ s.lanes with xt := s.lanes.xt.filter (·.rack ≠ n) } : Lanes).holdings k
      + (if k = n then 1 else 0) = s.lanes.holdings k := by
    simp only [Lanes.holdings_eq, map_rack_filter_xt, count_filter_rack]
    by_cases e : k = n
    · subst e
      simp only [if_true, once]
      omega
    · simp [e]
  have lifted := h.lift held fun _ _ _ hk => Lanes.mem_filter_xt hk
  refine (lifted.land (p := .off) (fun k => Lanes.holdings_sendOff _ n k .exitMissing)
    (fun _ _ _ hk => Lanes.mem_sendOff hk) fun r hr => ?_).congr (fun _ => rfl) fun _ _ => rfl
  have k := Record.fits_xt.1 (h.fits _ (by decide) n mem r hr)
  exact Record.fits_off.2 (k.imp_right fun c => ⟨.inr (.inr (.inr c.1)), c.2⟩)

/-- The head of XT goes to OFF where XT holds 2 records already (R76). -/
theorem State.Racked.transitOverflow {s : State} (h : s.Racked) {old : XtEntry} {rest : List XtEntry}
    (hx : s.lanes.xt = old :: rest) :
    (s.withLanes { s.lanes.sendOff old.rack .transitOverflow with xt := rest }).Racked := by
  have head : s.lanes.sourceHead .ex = some old.rack := by simp [Lanes.sourceHead, hx]
  have lifted := h.lift (Lanes.holdings_pop head) fun _ _ _ hk => Lanes.mem_pop hk
  refine (lifted.land (p := .off) (fun k => Lanes.holdings_sendOff _ old.rack k .transitOverflow)
    (fun _ _ _ hk => Lanes.mem_sendOff hk) fun r hr => ?_).congr (fun _ => rfl) fun p hp => ?_
  · have k := Record.fits_xt.1 (h.fits _ (by decide) old.rack (Lanes.mem_source head) r hr)
    exact Record.fits_off.2 (k.imp_right fun c => ⟨.inr (.inr (.inr c.1)), c.2⟩)
  · cases p <;> simp [Lanes.contents, Lanes.pop, Lanes.sendOff, hx]

/-- The record of the last cell, judged, leaves the cells as they shift and joins XT (R75, R76). -/
theorem State.Racked.leaveCells {s : State} (h : s.Racked) {n : RecNo} (hn : s.lanes.lastCell = some n) (t : Settings)
    (w : Window) :
    ((s.updateRecord n (·.judged t)).withLanes
      { s.lanes.shifted with xt := s.lanes.xt ++ [⟨n, w⟩] }).Racked := by
  have lifted := (h.lift (fun m => s.lanes.holdings_shifted n m hn) fun _ _ _ hk => Lanes.mem_shifted hk).update
    (·.judged t)
  refine (lifted.land (p := .xt) (l := { s.lanes.shifted with xt := s.lanes.xt ++ [⟨n, w⟩] })
    (fun k => ?_) (fun q _ k hk => ?_) fun r hr => ?_).congr (fun k => ?_) fun _ _ => rfl
  · rw [State.updateRecord_lanes, State.withLanes_lanes]
    simp only [Lanes.holdings_eq, Lanes.shifted, List.map_append, List.count_append, List.map_cons, List.map_nil,
      count_one]
    omega
  · rw [State.updateRecord_lanes, State.withLanes_lanes]
    cases q with
    | xt =>
      have : k ∈ s.lanes.xt.map (·.rack) ++ [n] := by simpa [Lanes.contents] using hk
      rcases List.mem_append.1 this with old | new
      · exact .inr old
      · exact .inl ⟨by simpa using new, rfl⟩
    | _ => exact .inr hk
  · rw [State.record_updateRecord, if_pos rfl] at hr
    obtain ⟨v, _, rfl⟩ := Option.map_eq_some_iff.1 hr
    exact v.judged_fits t
  · simp

/-- XT after the last cell's record has joined it: its head has gone to OFF where it held 2 records already (R76). -/
theorem State.leaveTunnel_lanes {s : State} {n : RecNo} (hn : s.lanes.lastCell = some n) :
    (∃ old rest, s.lanes.xt = old :: rest ∧ s.leaveTunnel.1.lanes =
        { s.lanes.sendOff old.rack .transitOverflow with xt := rest ++ [⟨n, .timing s.working.exitWindow⟩] })
      ∨ s.leaveTunnel.1.lanes = { s.lanes with xt := s.lanes.xt ++ [⟨n, .timing s.working.exitWindow⟩] } := by
  unfold State.leaveTunnel
  rw [hn]
  dsimp only
  rw [State.updateRecord_lanes]
  cases hx : s.lanes.xt with
  | nil => exact .inr rfl
  | cons old rest =>
    dsimp only
    split
    · exact .inl ⟨old, rest, rfl, by simp⟩
    · exact .inr rfl

theorem State.Racked.shift {s : State} (h : s.Racked) :
    (s.leaveTunnel.1.withLanes s.leaveTunnel.1.lanes.shifted).Racked := by
  cases hn : s.lanes.lastCell with
  | none =>
    have stays : s.leaveTunnel.1 = s := by simp [State.leaveTunnel, hn]
    rw [stays]
    exact ⟨fun m => (s.lanes.holdings_shifted_empty m hn).trans (h.placed m),
      fun p hp m hm r hr => h.fits p hp m (Lanes.mem_shifted hm) r hr⟩
  | some n =>
    have judged (l r : Lanes) (k : RecNo) :
        (s.leaveTunnel.1.withLanes s.leaveTunnel.1.lanes.shifted).record k =
          (((s.withLanes l).updateRecord n (·.judged s.working)).withLanes r).record k := by
      rw [State.record_withLanes, State.record_withLanes, State.record_leaveTunnel, State.record_updateRecord, hn]
      by_cases e : k = n
      · simp [e]
      · have : n ≠ k := fun c => e c.symm
        simp [e, this]
    rcases State.leaveTunnel_lanes hn with ⟨old, rest, hx, hl⟩ | hl
    · have leaves := (h.transitOverflow hx).leaveCells (n := n) hn s.working (.timing s.working.exitWindow)
      exact leaves.congr (judged _ _) fun p _ => by
        rw [State.withLanes_lanes, hl]
        rfl
    · have leaves := h.leaveCells hn s.working (.timing s.working.exitWindow)
      exact leaves.congr (judged s.lanes _) fun p _ => by
        rw [State.withLanes_lanes, hl]
        rfl

/-- The head of UNL changed where it stands (R23, R130, R132). -/
theorem State.Racked.atHead {s : State} (h : s.Racked) {m : RecNo} {v : Record} {f : Record → Record}
    (head : s.unloadHead = some (m, v)) (hf : ∀ r, (f r).fits .unl) : (s.updateRecord m f).Racked :=
  h.update fun p hp hm r _ => by
    obtain rfl := State.placed_unique h.placed hp (by decide) hm (q := .unl)
      (List.mem_of_head? (State.unloadHead_some head).1)
    exact hf r

theorem State.Racked.cleared {t : State} (free : ∀ n, t.record n = none)
    (empty : ∀ p ∈ Place.holding, t.lanes.contents p = []) : t.Racked := by
  refine ⟨fun n => ?_, fun p hp n hn => ?_⟩
  · have none : ∀ p ∈ Place.holding, (t.lanes.contents p).count n = 0 := fun p hp => by simp [empty p hp]
    have sum : t.lanes.holdings n = 0 := by
      rw [Lanes.holdings, List.map_congr_left none]
      rfl
    simp [free n, sum]
  · simp [empty p hp] at hn

/-- Every rack move keeps each record in one place, which it fits. -/
theorem State.RackMove.racked {ok : ZoneInput → Prop} {s t : State} (m : s.RackMove ok t) (h : s.Racked) :
    t.Racked := by
  cases m with
  | same slots lanes => exact h.same slots lanes
  | windows slots lanes racks =>
    refine h.congr (State.record_congr slots) fun p _ => ?_
    rw [lanes]
    cases p with
    | xt => exact racks
    | _ => rfl
  | commit passes => exact h.congr (fun _ => rfl) fun p _ => State.applySettings_held passes p
  | cleared free empty => exact .cleared free empty
  | newHead before => exact h.newHead before
  | register m p free place room => exact h.register free place room
  | load m replace es there _ => exact h.load replace es there
  | finish m x hx => exact h.finish hx
  | retire m => exact h.retire m
  | place m p off target room => exact h.place off target room
  | unloaded m v head => exact h.atHead head fun _ => Record.fits_unl.2 (.inr (.inr ⟨.inl rfl, rfl⟩))
  | rewash m v head => exact h.atHead head fun _ => Record.fits_unl.2 (.inl rfl)
  | reconcile e => exact h.reconcile e
  | shift => exact h.shift
  | exitMissing n there => exact h.exitMissing there
  | credit n v z i _ =>
    refine h.update fun p _ _ r hr => ?_
    obtain ⟨state, load, reasons⟩ := r.credited_keeps v z i
    unfold Record.fits
    rw [state, load, reasons]
    exact hr

/-- Settles O54: with each record in one place (R29), a record that moves leaves one place and fits the next. -/
theorem statesMatchPlacesAtEveryStep : Obligations.StatesMatchPlacesAtEveryStep := by
  intro s t placed _ fits e
  have moves := step_rackMoves (ok := fun _ => True) (fun _ => trivial) e
  exact (moves.keeps (P := State.Racked) (fun _ _ m => m.racked) ⟨placed, fits⟩).fits

end Sys2Proof.Machine
end

section
/-! The state after reset (R1, R50, R51, R70, R81, R97, R122, R139, R148, R159, R190, R202). -/

namespace Sys2Proof.Machine

/-- Every default is a value its setting admits (R202). -/
theorem State.reset_admitted (p : Param) :
    p.admits (State.reset.storedValue p) = true ∧ p.admits (State.reset.workingValue p) = true := by
  have eyes : ∀ e ∈ Eye.all, ∀ q ∈ [Param.eyeCheck e, .rackMin e, .rackMax e, .jamLimit e],
      q.admits (State.reset.storedValue q) = true := by decide
  have zones : ∀ z ∈ Zone.all, ∀ q ∈ [Param.zoneLen z, .zoneBase z, .zoneStep z],
      q.admits (State.reset.storedValue q) = true := by decide
  have weights : ∀ z ∈ Zone.all, ∀ b, (Param.zoneWeight z b).admits (State.reset.storedValue (.zoneWeight z b)) = true := by
    decide
  have classes : ∀ c, (Param.classSpeed c).admits (State.reset.storedValue (.classSpeed c)) = true
      ∧ (Param.classTarget c).admits (State.reset.storedValue (.classTarget c)) = true := by decide
  have stored : p.admits (State.reset.storedValue p) = true := by
    cases p with
    | eyeCheck e => exact eyes e (Eye.mem_all e) _ (by simp)
    | rackMin e => exact eyes e (Eye.mem_all e) _ (by simp)
    | rackMax e => exact eyes e (Eye.mem_all e) _ (by simp)
    | jamLimit e => exact eyes e (Eye.mem_all e) _ (by simp)
    | zoneLen z => exact zones z (Zone.mem_all z) _ (by simp)
    | zoneBase z => exact zones z (Zone.mem_all z) _ (by simp)
    | zoneStep z => exact zones z (Zone.mem_all z) _ (by simp)
    | zoneWeight z b => exact weights z (Zone.mem_all z) b
    | classSpeed c => exact (classes c).1
    | classTarget c => exact (classes c).2
    | _ => rfl
  exact ⟨stored, stored⟩

theorem State.reset_record (n : RecNo) : State.reset.record n = none := by
  simp [State.record, State.reset, Vector.get_eq_getElem]

theorem Lanes.reset_contents : ∀ p ∈ Place.holding ++ [.finishOrder], Lanes.reset.contents p = [] := by decide

/-- The eye settings by default (R52, R202): the roller eyes and the chain eyes. -/
theorem Settings.default_eyes : ∀ e ∈ Eye.all, Settings.default.eyeCheck.get e = 5
    ∧ Settings.default.rackMin.get e = (if e = .en ∨ e = .ex then 4000 else 300)
    ∧ Settings.default.rackMax.get e = (if e = .en ∨ e = .ex then 20000 else 900)
    ∧ Settings.default.jamLimit.get e = (if e = .en ∨ e = .ex then 40000 else 4000) := by decide

/-- Every node is absent after reset, with its first code, its channel at rest and nothing accepted (R181, R184, R190). -/
theorem State.reset_nodes : ∀ n ∈ Node.all, State.reset.present n = false
    ∧ (State.reset.line.nodes.get n).idleFrames = 0 ∧ (State.reset.line.nodes.get n).acceptedCode = none
    ∧ (State.reset.line.nodes.get n).acceptedPair = none
    ∧ State.reset.channel n = ⟨.idle, [], false, true, false, [], 0, false, false, 0, false⟩
    ∧ State.reset.attention n = false ∧ State.reset.line.atFirstCode n = true := by decide

/-- Settles O4: the state is written out in the model, block by block. -/
theorem hardwareResetValues : Obligations.HardwareResetValues := by
  have eyes (e : Eye) : State.reset.eyes.get e = Trackpoint.reset := PerEye.get_rollerChain _ e
  have zones (z : Zone) : State.reset.heat.zones.get z = ZoneInput.reset := PerZone.get_const _ z
  have classes (x : Station) : State.reset.dispatch.deferred.get x = false := PerStation.get_const _ x
  have outcomes (c : LineCommand) : State.reset.executor.outcomes.get c = ⟨.none, none, none⟩ := PerCommand.get_const _ c
  have temperatures (z : Zone) : State.reset.line.acceptedTemperature.get z = none := PerZone.get_const _ z
  intro s
  refine ⟨_, rfl, State.reset_record, Lanes.reset_contents, rfl, fun e _ => eyes e, rfl, rfl, fun z _ => zones z, rfl,
    rfl, rfl, fun x _ => classes x, rfl, rfl, rfl, rfl, rfl, fun c _ => outcomes c, rfl, rfl, rfl, rfl,
    State.reset_nodes, rfl, rfl, rfl, rfl, fun z _ => temperatures z, rfl, rfl, fun p => (State.reset_admitted p).1, ?_,
    rfl, rfl, rfl, rfl⟩
  exact ⟨rfl, rfl, rfl, rfl, rfl, rfl, Settings.default_eyes, rfl, rfl, rfl, rfl, rfl, rfl, rfl, rfl, rfl, rfl, rfl, rfl,
    rfl, rfl, rfl, rfl, rfl, rfl, rfl, rfl, rfl, rfl⟩

/-- Settles O51: nothing is allocated, no place holds a record, the loop is in IDLE and no node is present. -/
theorem resetMeetsTheInvariants : Obligations.ResetMeetsTheInvariants := by
  have racked : State.reset.Racked :=
    .cleared State.reset_record fun p hp => Lanes.reset_contents p (List.mem_append_left _ hp)
  refine ⟨racked.placed, by decide, by decide, racked.fits, State.reset_admitted, ?_, by decide, by decide, by decide,
    by decide, by decide, by decide, by decide⟩
  intro n r hr
  simp [State.reset_record] at hr

end Sys2Proof.Machine
end

section
/-! The decisions of the Unload Controller and of the arbiters (R127, R140 to R142, R149 to R152): what each writes, when it
changes nothing, and what is left after all of them at one event (R14, R44). -/

namespace Sys2Proof.Machine

/-! ## What a decision writes -/

theorem State.decideRelease_form (s : State) :
    ∃ r, s.decideRelease = { s with unload := { s.unload with release := r } } := by
  unfold State.decideRelease
  repeat' split
  all_goals exact ⟨_, rfl⟩

theorem State.decideMerge_form (s : State) : ∃ g, s.decideMerge = { s with merge := g } := by
  unfold State.decideMerge
  repeat' split
  all_goals exact ⟨_, rfl⟩

theorem State.decideDispatch_form (s : State) : ∃ d, s.decideDispatch = { s with dispatch := d } := by
  unfold State.decideDispatch
  repeat' split
  all_goals exact ⟨_, rfl⟩

/-! ## The unload release (R127) -/

/-- The release is decided where none stands in RUN with UL clear, and the head calls for one with room at its place. -/
theorem State.decideRelease_eq_self (s : State) : s.decideRelease = s ↔
    (s.unload.release.isSome || !s.inRun || s.isBlocked .ul) = true
      ∨ ∀ n r d, s.unloadHead = some (n, r) → r.treatment = some (d, true) → s.isFull d.place = true := by
  constructor
  · intro h
    by_cases closed : (s.unload.release.isSome || !s.inRun || s.isBlocked .ul) = true
    · exact .inl closed
    refine .inr fun n r d head treat => ?_
    by_contra room
    simp only [Bool.not_eq_true] at room
    have release : s.decideRelease.unload.release = some ⟨n, d⟩ := by
      simp [State.decideRelease, closed, head, treat, room]
    rw [h] at release
    simp [release] at closed
  · rintro (closed | full)
    · simp [State.decideRelease, closed]
    · unfold State.decideRelease
      repeat' split
      · rfl
      · rfl
      · rename_i n r head _ d treat room
        exact absurd (full n r d head treat) room
      all_goals rfl

/-- An open release that `s` holds stands in RUN for the head of UNL. -/
def State.releaseAtHead (s : State) : Prop :=
  ∀ r ∈ s.unload.release, s.inRun = true ∧ s.lanes.unl.head? = some r.rack

theorem State.decideRelease_atHead {s : State} (h : s.releaseAtHead) : s.decideRelease.releaseAtHead := by
  unfold State.decideRelease
  repeat' split
  · exact h
  · exact h
  · rename_i closed _ n r head _ d treat room
    intro g hg
    have : g = ⟨n, d⟩ := (Option.some.inj hg).symm
    subst this
    simp only [Bool.or_eq_true, Bool.not_eq_true', not_or, Bool.not_eq_true, Bool.not_eq_false] at closed
    exact ⟨closed.1.2, (State.unloadHead_some head).1⟩
  all_goals exact h

theorem State.decideRelease_idem (s : State) : s.decideRelease.decideRelease = s.decideRelease := by
  by_cases h : s.decideRelease = s
  · rw [h, h]
  · refine (State.decideRelease_eq_self _).2 (.inl ?_)
    have opened : s.decideRelease.unload.release.isSome = true := by
      rw [State.decideRelease_eq_self] at h
      simp only [not_or, not_forall, Bool.not_eq_true] at h
      obtain ⟨closed, n, r, d, head, treat, room⟩ := h
      simp [State.decideRelease, closed, head, treat, room]
    simp [opened]

/-- A release decided stays so where what it is decided from stays. -/
theorem State.decideRelease_stable {s t : State} (h : s.decideRelease = s) (release : t.unload.release = s.unload.release)
    (run : t.inRun = s.inRun) (ul : t.isBlocked .ul = s.isBlocked .ul) (slots : t.slots = s.slots)
    (lanes : t.lanes = s.lanes) (working : t.working = s.working) : t.decideRelease = t := by
  rw [State.decideRelease_eq_self] at h ⊢
  rw [release, run, ul, State.unloadHead_congr slots lanes]
  have full (p : Place) : t.isFull p = s.isFull p := by cases p <;> simp [State.isFull, lanes, working]
  simpa only [full] using h

/-! ## The Merge Arbiter (R140 to R142) -/

theorem State.decideMerge_eq_self (s : State) : s.decideMerge = s ↔
    (s.merge.isSome || !s.inRun || s.isFull .acc) = true
      ∨ ∀ m, s.lanes.chosenSource = some m → s.isBlocked m.eye = true := by
  constructor
  · intro h
    by_cases closed : (s.merge.isSome || !s.inRun || s.isFull .acc) = true
    · exact .inl closed
    refine .inr fun m chosen => ?_
    by_contra clear
    simp only [Bool.not_eq_true] at clear
    have grant : s.decideMerge.merge = some ⟨m, .timing s.working.mergeWindow, false⟩ := by
      simp [State.decideMerge, closed, chosen, clear]
    rw [h] at grant
    simp [grant] at closed
  · rintro (closed | blocked)
    · simp [State.decideMerge, closed]
    · unfold State.decideMerge
      repeat' split
      · rfl
      · rfl
      · rename_i m chosen clear
        exact absurd (blocked m chosen) clear
      · rfl

theorem State.decideMerge_of_grant {s : State} (h : s.merge ≠ none) : s.decideMerge = s :=
  (State.decideMerge_eq_self s).2 (.inl (by simp [Option.isSome_iff_ne_none.2 h]))

theorem Lanes.outfeedOf_some {l : Lanes} {n : RecNo} {x : Station} (h : l.outfeedOf n = some x) :
    n ∈ l.outfeed.get x := by
  simpa using List.find?_some h

/-- The grant a decision opens is fresh (R141, R142), and one that stands is left. -/
theorem State.decideMerge_fresh {s : State} (h : s.mergeFresh) : s.decideMerge.mergeFresh := by
  unfold State.decideMerge
  repeat' split
  · exact h
  · exact h
  · rename_i closed _ m chosen clear
    intro g hg
    obtain rfl : g = ⟨m, .timing s.working.mergeWindow, false⟩ := (Option.some.inj hg).symm
    simp only [Bool.or_eq_true, Bool.not_eq_true', not_or, Bool.not_eq_true, Bool.not_eq_false] at closed
    unfold Lanes.chosenSource at chosen
    refine ⟨closed.1.2, rfl, fun spur => ?_, fun spur => ?_⟩
    · rw [if_neg (by simpa using spur)] at chosen
      exact (Option.some.inj chosen).symm
    · rw [if_pos (by simpa using spur)] at chosen
      split at chosen
      · rename_i n head
        obtain ⟨x, hx, rfl⟩ := Option.map_eq_some_iff.1 chosen
        exact ⟨n, head, x, Station.mem_all x, Lanes.outfeedOf_some hx, rfl⟩
      · cases chosen
  · exact h

theorem State.mergeFresh_of_none {s : State} (h : s.merge = none) : s.mergeFresh := fun g hg => by simp [h] at hg

theorem State.mergeFresh_congr {s t : State} (h : s.mergeFresh) (merge : t.merge = s.merge) (run : t.inRun = s.inRun)
    (lanes : t.lanes = s.lanes) (working : t.working = s.working) : t.mergeFresh := by
  unfold State.mergeFresh
  rw [merge, run, lanes, working]
  exact h

theorem State.decideMerge_idem (s : State) : s.decideMerge.decideMerge = s.decideMerge := by
  by_cases h : s.decideMerge = s
  · rw [h, h]
  · refine State.decideMerge_of_grant ?_
    rw [State.decideMerge_eq_self] at h
    simp only [not_or, not_forall, Bool.not_eq_true] at h
    obtain ⟨closed, m, chosen, clear⟩ := h
    simp [State.decideMerge, closed, chosen, clear]

theorem State.decideMerge_stable {s t : State} (h : s.decideMerge = s) (merge : t.merge = s.merge)
    (run : t.inRun = s.inRun) (eyes : ∀ m : MergeSource, t.isBlocked m.eye = s.isBlocked m.eye)
    (lanes : t.lanes = s.lanes) (working : t.working = s.working) : t.decideMerge = t := by
  rw [State.decideMerge_eq_self] at h ⊢
  have full : t.isFull .acc = s.isFull .acc := by simp [State.isFull, lanes, working]
  simpa only [merge, run, full, lanes, eyes] using h

/-! ## The Dispatch Arbiter (R149 to R152) -/

theorem dispatchChoice_none {classes : PerStation Bool} {claimants : List Station} :
    dispatchChoice classes claimants = none ↔ claimants = [] := by
  unfold dispatchChoice
  cases claimants with
  | nil => simp
  | cons x rest => split <;> simp

theorem State.decideDispatch_eq_self (s : State) : s.decideDispatch = s ↔
    (s.dispatch.grant.isSome || !s.inRun || s.lanes.ret.isEmpty || s.isBlocked .ds) = true ∨ s.claimants = [] := by
  constructor
  · intro h
    by_cases closed : (s.dispatch.grant.isSome || !s.inRun || s.lanes.ret.isEmpty || s.isBlocked .ds) = true
    · exact .inl closed
    refine .inr ?_
    by_contra some
    obtain ⟨⟨classes, x⟩, chosen⟩ := Option.ne_none_iff_exists'.1 (fun k => some (dispatchChoice_none.1 k))
    have grant : s.decideDispatch.dispatch.grant = Option.some ⟨x, .timing s.working.dispatchWindow, none⟩ := by
      unfold State.decideDispatch
      rw [if_neg closed, chosen]
    rw [h] at grant
    simp [grant] at closed
  · rintro (closed | none)
    · simp [State.decideDispatch, closed]
    · unfold State.decideDispatch
      split
      · rfl
      · rw [dispatchChoice_none.2 none]

theorem State.decideDispatch_of_grant {s : State} (h : s.dispatch.grant ≠ none) : s.decideDispatch = s :=
  (State.decideDispatch_eq_self s).2 (.inl (by simp [Option.isSome_iff_ne_none.2 h]))

/-- With no grant before, a decision opens a fresh one or changes nothing (R151, R152). -/
theorem State.decideDispatch_fresh {s : State} (h : s.dispatch.grant = none) :
    s.decideDispatch.dispatchFresh ∧ (s.decideDispatch.dispatch.grant = none → s.decideDispatch.dispatch = s.dispatch) := by
  have nothing : s.dispatchFresh := fun g hg => by simp [h] at hg
  unfold State.decideDispatch
  split
  · exact ⟨nothing, fun _ => rfl⟩
  · rename_i closed
    split
    · rename_i classes x chosen
      refine ⟨fun g hg => ?_, fun k => by simp at k⟩
      obtain rfl : g = ⟨x, .timing s.working.dispatchWindow, none⟩ := (Option.some.inj hg).symm
      simp only [Bool.or_eq_true, Bool.not_eq_true', not_or, Bool.not_eq_true, Bool.not_eq_false] at closed
      exact ⟨closed.1.1.2, rfl, by simp, rfl⟩
    · exact ⟨nothing, fun _ => rfl⟩

theorem State.decideDispatch_idem (s : State) : s.decideDispatch.decideDispatch = s.decideDispatch := by
  by_cases h : s.decideDispatch = s
  · rw [h, h]
  · refine State.decideDispatch_of_grant ?_
    rw [State.decideDispatch_eq_self] at h
    simp only [not_or, Bool.not_eq_true] at h
    obtain ⟨closed, some⟩ := h
    obtain ⟨⟨classes, x⟩, chosen⟩ := Option.ne_none_iff_exists'.1 (fun k => some (dispatchChoice_none.1 k))
    unfold State.decideDispatch
    rw [if_neg (by simp [closed]), chosen]
    simp

theorem State.decideDispatch_stable {s t : State} (h : s.decideDispatch = s) (dispatch : t.dispatch = s.dispatch)
    (run : t.inRun = s.inRun) (ds : t.isBlocked .ds = s.isBlocked .ds) (lanes : t.lanes = s.lanes)
    (claimants : t.claimants = s.claimants) : t.decideDispatch = t := by
  rw [State.decideDispatch_eq_self] at h ⊢
  simpa only [dispatch, run, ds, lanes, claimants] using h

/-- Claims rest on the line's presence and codes and on the loading positions (R149); a mark is no part of them. -/
theorem State.claimant_congr {s t : State} (marks : s.OnlyMarks t) (lp : t.lanes.lp = s.lanes.lp) (x : Station) :
    t.claimant x = s.claimant x := by
  unfold State.claimant
  rw [marks.present, lp, marks.line]

/-! ## The decisions of one event (R14, R44) -/

section
variable (s before : State)

theorem State.decideAfter_form : ∃ r g d, s.decideAfter before =
    { s with unload := { s.unload with release := r }, merge := g, dispatch := d } := by
  unfold State.decideAfter
  obtain ⟨r, hr⟩ := s.decideRelease_form
  obtain ⟨g, hg⟩ := ({ s with unload := { s.unload with release := r } } : State).decideMerge_form
  dsimp only
  rw [hr, hg]
  split <;> split
  · obtain ⟨d, hd⟩ := State.decideDispatch_form
      { s with unload := { s.unload with release := r }, merge := g }
    exact ⟨r, g, d, hd⟩
  · obtain ⟨d, hd⟩ := State.decideDispatch_form { s with unload := { s.unload with release := r } }
    exact ⟨r, s.merge, d, hd⟩
  · exact ⟨r, g, s.dispatch, rfl⟩
  · exact ⟨r, s.merge, s.dispatch, rfl⟩

theorem State.decideAfter_executor : (s.decideAfter before).executor = s.executor := by
  obtain ⟨r, g, d, h⟩ := s.decideAfter_form before
  rw [h]

/-- A merge grant that stands is left; one that an event calls for is fresh, and nothing more opens (R140). -/
theorem State.decideAfter_merge :
    (s.merge ≠ none ∨ mergeDue before s = false → (s.decideAfter before).merge = s.merge)
      ∧ (s.mergeFresh → (s.decideAfter before).mergeFresh)
      ∧ (mergeDue before s = true → (s.decideAfter before).decideMerge = s.decideAfter before) := by
  obtain ⟨r, hr⟩ := s.decideRelease_form
  generalize hu : ({ s with unload := { s.unload with release := r } } : State) = u at hr
  have um : u.merge = s.merge := by rw [← hu]
  have ur : u.inRun = s.inRun := by rw [← hu]; rfl
  have ul : u.lanes = s.lanes := by rw [← hu]
  have uw : u.working = s.working := by rw [← hu]
  unfold State.decideAfter
  dsimp only
  rw [hr]
  generalize hv : (if mergeDue before s then u.decideMerge else u) = v
  have last : ∃ d, (if dispatchDue before s then v.decideDispatch else v) = { v with dispatch := d } := by
    split
    · exact v.decideDispatch_form
    · exact ⟨v.dispatch, rfl⟩
  obtain ⟨d, hd⟩ := last
  rw [hd]
  refine ⟨fun h => ?_, fun h => ?_, fun due => ?_⟩
  · show v.merge = s.merge
    rw [← hv, ← um]
    split
    · rename_i due
      rcases h with h | h
      · rw [State.decideMerge_of_grant (by rw [um]; exact h)]
      · exact absurd due (by simp [h])
    · rfl
  · refine State.mergeFresh_congr (s := v) ?_ rfl rfl rfl rfl
    have fresh := State.mergeFresh_congr h um ur ul uw
    rw [← hv]
    split
    · exact State.decideMerge_fresh fresh
    · exact fresh
  · rw [if_pos due] at hv
    refine State.decideMerge_stable (s := v) ?_ rfl rfl (fun _ => rfl) rfl rfl
    rw [← hv]
    exact u.decideMerge_idem

/-- A dispatch grant that stands is left; one that an event calls for is fresh, and nothing more opens (R150). -/
theorem State.decideAfter_dispatch :
    (s.dispatch.grant ≠ none ∨ dispatchDue before s = false → (s.decideAfter before).dispatch = s.dispatch)
      ∧ (s.dispatch.grant = none → (s.decideAfter before).dispatchFresh
          ∧ ((s.decideAfter before).dispatch.grant = none → (s.decideAfter before).dispatch = s.dispatch))
      ∧ (dispatchDue before s = true → (s.decideAfter before).decideDispatch = s.decideAfter before) := by
  obtain ⟨r, hr⟩ := s.decideRelease_form
  obtain ⟨g, hg⟩ : ∃ g, (if mergeDue before s then s.decideRelease.decideMerge else s.decideRelease) =
      { s.decideRelease with merge := g } := by
    split
    · exact s.decideRelease.decideMerge_form
    · exact ⟨s.decideRelease.merge, rfl⟩
  unfold State.decideAfter
  dsimp only
  rw [hg, hr]
  generalize hv : ({ s with unload := { s.unload with release := r }, merge := g } : State) = v
  have vd : v.dispatch = s.dispatch := by rw [← hv]
  refine ⟨fun h => ?_, fun h => ?_, fun due => ?_⟩
  · split
    · rename_i due
      rcases h with h | h
      · rw [State.decideDispatch_of_grant (by rw [vd]; exact h), vd]
      · exact absurd due (by simp [h])
    · exact vd
  · split
    · have k := State.decideDispatch_fresh (s := v) (by rw [vd]; exact h)
      rw [vd] at k
      exact k
    · exact ⟨fun f hf => by simp [vd, h] at hf, fun _ => vd⟩
  · rw [if_pos due]
    exact v.decideDispatch_idem

/-- The release has been decided, whatever else the event calls for (R127). -/
theorem State.decideAfter_release :
    (s.decideAfter before).decideRelease = s.decideAfter before
      ∧ (s.decideAfter before).unload = s.decideRelease.unload := by
  obtain ⟨r, hr⟩ := s.decideRelease_form
  have idem := s.decideRelease_idem
  unfold State.decideAfter
  dsimp only
  generalize s.decideRelease = u at hr idem
  obtain ⟨g, hg⟩ : ∃ g, (if mergeDue before s then u.decideMerge else u) = { u with merge := g } := by
    split
    · exact u.decideMerge_form
    · exact ⟨u.merge, rfl⟩
  rw [hg]
  obtain ⟨d, hd⟩ : ∃ d, (if dispatchDue before s then ({ u with merge := g } : State).decideDispatch
      else { u with merge := g }) = { u with merge := g, dispatch := d } := by
    split
    · exact State.decideDispatch_form { u with merge := g }
    · exact ⟨u.dispatch, rfl⟩
  rw [hd]
  exact ⟨State.decideRelease_stable idem rfl rfl rfl rfl rfl rfl, rfl⟩

end

end Sys2Proof.Machine
end

section
/-! What an event leaves after every block has seen it (R14, R44), for a drain that is not set, and what it leaves with any
drain. -/

namespace Sys2Proof.Machine

/-! ## A new head of UNL (R124 to R126) -/

theorem State.setDiverter_form (s : State) : ∃ d, s.setDiverter = { s with unload := { s.unload with diverter := d } } := by
  unfold State.setDiverter
  repeat' split
  all_goals exact ⟨_, rfl⟩

theorem State.updateRecord_form (s : State) (n : RecNo) (f : Record → Record) :
    ∃ slots, s.updateRecord n f = { s with slots := slots } := by
  unfold State.updateRecord
  split <;> exact ⟨_, rfl⟩

theorem State.raiseMark_form (s : State) (n : Node) :
    ∃ nodes, s.raiseMark n = { s with line := { s.line with nodes := nodes } } := by
  unfold State.raiseMark
  split <;> exact ⟨_, rfl⟩

/-- What a new head writes: its record, the diverter, a mark. -/
theorem State.takeNewHead_form (s before : State) : ∃ slots d nodes, s.takeNewHead before =
    { s with
      slots := slots, unload := { s.unload with diverter := d }, line := { s.line with nodes := nodes } } := by
  unfold State.takeNewHead
  repeat' split
  · exact ⟨s.slots, s.unload.diverter, s.line.nodes, rfl⟩
  · rename_i n _ _
    obtain ⟨slots, hs⟩ := s.updateRecord_form n fun r => r.rejectedAt s.working.rewashLimit
    obtain ⟨d, hd⟩ := State.setDiverter_form { s with slots := slots }
    obtain ⟨nodes, hn⟩ := State.raiseMark_form
      { s with slots := slots, unload := { s.unload with diverter := d } } .unload
    exact ⟨slots, d, nodes, by rw [hs, hd, hn]⟩
  · exact ⟨s.slots, s.unload.diverter, s.line.nodes, rfl⟩

section
variable (s before : State)

@[simp] theorem State.takeNewHead_eyes : (s.takeNewHead before).eyes = s.eyes := by
  obtain ⟨_, _, _, h⟩ := s.takeNewHead_form before
  rw [h]

@[simp] theorem State.takeNewHead_tunnel : (s.takeNewHead before).tunnel = s.tunnel := by
  obtain ⟨_, _, _, h⟩ := s.takeNewHead_form before
  rw [h]

@[simp] theorem State.takeNewHead_merge : (s.takeNewHead before).merge = s.merge := by
  obtain ⟨_, _, _, h⟩ := s.takeNewHead_form before
  rw [h]

@[simp] theorem State.takeNewHead_dispatch : (s.takeNewHead before).dispatch = s.dispatch := by
  obtain ⟨_, _, _, h⟩ := s.takeNewHead_form before
  rw [h]

@[simp] theorem State.takeNewHead_executor : (s.takeNewHead before).executor = s.executor := by
  obtain ⟨_, _, _, h⟩ := s.takeNewHead_form before
  rw [h]

@[simp] theorem State.takeNewHead_working : (s.takeNewHead before).working = s.working := by
  obtain ⟨_, _, _, h⟩ := s.takeNewHead_form before
  rw [h]

@[simp] theorem State.takeNewHead_draws : (s.takeNewHead before).draws = s.draws := by
  obtain ⟨_, _, _, h⟩ := s.takeNewHead_form before
  rw [h]

@[simp] theorem State.takeNewHead_release : (s.takeNewHead before).unload.release = s.unload.release := by
  obtain ⟨_, _, _, h⟩ := s.takeNewHead_form before
  rw [h]

@[simp] theorem State.takeNewHead_inRun : (s.takeNewHead before).inRun = s.inRun := by
  simp [State.inRun]

end

/-- Where the head of UNL is the one of before, nothing is done. -/
theorem State.takeNewHead_same {s before : State} (h : s.lanes.unl.head? = before.lanes.unl.head?) :
    s.takeNewHead before = s := by
  unfold State.takeNewHead
  split
  · rename_i n hn
    rw [if_pos (by rw [← h, hn])]
  · rfl

/-! ## The permit (R90) -/

/-- The state in which the decisions of an event are taken: the new head seen, the permit worked out again. -/
def State.seen (s before : State) : State := (s.takeNewHead before).refreshPermit

section
variable (s before : State)

@[simp] theorem State.seen_executor : (s.seen before).executor = s.executor := s.takeNewHead_executor before
@[simp] theorem State.seen_merge : (s.seen before).merge = s.merge := s.takeNewHead_merge before
@[simp] theorem State.seen_dispatch : (s.seen before).dispatch = s.dispatch := s.takeNewHead_dispatch before
@[simp] theorem State.seen_lanes : (s.seen before).lanes = s.lanes := s.takeNewHead_lanes before
@[simp] theorem State.seen_eyes : (s.seen before).eyes = s.eyes := s.takeNewHead_eyes before
@[simp] theorem State.seen_draws : (s.seen before).draws = s.draws := s.takeNewHead_draws before
@[simp] theorem State.seen_release : (s.seen before).unload.release = s.unload.release := s.takeNewHead_release before
@[simp] theorem State.seen_inRun : (s.seen before).inRun = s.inRun := s.takeNewHead_inRun before

theorem State.seen_marks : s.OnlyMarks (s.seen before) :=
  (s.takeNewHead_kept before).marks.trans (State.refreshPermit_controlled _).marks

theorem State.seen_mergeDue : mergeDue before (s.seen before) = mergeDue before s := by
  unfold mergeDue
  rw [State.seen_merge, State.seen_lanes]

theorem State.seen_dispatchDue : dispatchDue before (s.seen before) = dispatchDue before s := by
  have claims : (fun x => !before.claimant x && (s.seen before).claimant x) =
      fun x => !before.claimant x && s.claimant x := by
    funext x
    rw [State.claimant_congr (s.seen_marks before) (by rw [State.seen_lanes])]
  unfold dispatchDue
  rw [State.seen_dispatch, State.seen_lanes, claims]

end

/-! ## An event with no drain set -/

section
variable {s before : State}

theorem State.reacting_quiet (f : State → State) (h : s.executor.drain = none) : s.reacting f = f s := by
  simp [State.reacting, State.drainDue, h]

theorem State.observe_quiet (cause : Option Cause) (h : s.executor.drain = none) :
    s.observe before cause = ((s.seen before).decideAfter before).raise cause :=
  State.reacting_quiet _ (by rw [State.refreshPermit_executor, State.takeNewHead_executor, h])

/-- The executor takes no part in an event that gives it no cause. -/
theorem State.observe_executorKept (h : s.executor.drain = none) : s.executorKept (s.observe before) := by
  rw [State.observe_quiet none h]
  obtain ⟨_, _, _, k⟩ := (s.seen before).decideAfter_form before
  show ((s.seen before).decideAfter before).executor = _ ∧ ((s.seen before).decideAfter before).draws = _
  rw [k]
  exact ⟨s.seen_executor before, s.seen_draws before⟩

theorem State.observe_merge_kept (h : s.executor.drain = none) (k : s.merge ≠ none ∨ mergeDue before s = false) :
    (s.observe before).merge = s.merge := by
  rw [State.observe_quiet none h]
  have kept := ((s.seen before).decideAfter_merge before).1
  rw [State.seen_merge, State.seen_mergeDue] at kept
  exact kept k

theorem State.observe_mergeFresh (h : s.executor.drain = none) (k : s.merge = none) : (s.observe before).mergeFresh := by
  rw [State.observe_quiet none h]
  exact ((s.seen before).decideAfter_merge before).2.1 (State.mergeFresh_of_none ((s.seen_merge before).trans k))

theorem State.observe_mergeSettled (h : s.executor.drain = none) (due : mergeDue before s = true) :
    (s.observe before).decideMerge = s.observe before := by
  rw [State.observe_quiet none h]
  exact ((s.seen before).decideAfter_merge before).2.2 ((s.seen_mergeDue before).trans due)

theorem State.observe_dispatch_kept (h : s.executor.drain = none)
    (k : s.dispatch.grant ≠ none ∨ dispatchDue before s = false) : (s.observe before).dispatch = s.dispatch := by
  rw [State.observe_quiet none h]
  have kept := ((s.seen before).decideAfter_dispatch before).1
  rw [State.seen_dispatch, State.seen_dispatchDue] at kept
  exact kept k

theorem State.observe_dispatchFresh (h : s.executor.drain = none) (k : s.dispatch.grant = none) :
    (s.observe before).dispatchFresh
      ∧ ((s.observe before).dispatch.grant = none → (s.observe before).dispatch = s.dispatch) := by
  rw [State.observe_quiet none h]
  have fresh := ((s.seen before).decideAfter_dispatch before).2.1
  rw [State.seen_dispatch] at fresh
  exact fresh k

theorem State.observe_dispatchSettled (h : s.executor.drain = none) (due : dispatchDue before s = true) :
    (s.observe before).decideDispatch = s.observe before := by
  rw [State.observe_quiet none h]
  exact ((s.seen before).decideAfter_dispatch before).2.2 ((s.seen_dispatchDue before).trans due)

theorem State.observe_release (h : s.executor.drain = none) :
    (s.observe before).unload = (s.seen before).decideRelease.unload
      ∧ (s.observe before).decideRelease = s.observe before := by
  rw [State.observe_quiet none h]
  exact ((s.seen before).decideAfter_release before).symm

/-- The Merge Arbiter has decided at an event at which it was to (R140). -/
theorem State.observe_mergeDecided {u : State} (h : u.executor.drain = none) (same : u.merge = s.merge)
    (due : mergeDue s u = true) : s.mergeDecided (u.observe s) := by
  refine ⟨fun none => ⟨State.observe_mergeFresh h (same.trans none), ?_⟩, fun some => ?_⟩
  · show Host.Outcome.next _ = _
    rw [State.observe_mergeSettled h due]
  · rw [State.observe_merge_kept h (.inl (by rw [same]; exact some)), same]

/-- The Dispatch Arbiter has decided at an event at which it was to (R150). -/
theorem State.observe_dispatchDecided {u : State} (h : u.executor.drain = none) (same : u.dispatch = s.dispatch)
    (due : dispatchDue s u = true) : s.dispatchDecided (u.observe s) := by
  refine ⟨fun none => ?_, fun some => ?_⟩
  · have fresh := State.observe_dispatchFresh (before := s) h (same ▸ none)
    refine ⟨fresh.1, ?_, fun k => (fresh.2 k).trans same⟩
    show Host.Outcome.next _ = _
    rw [State.observe_dispatchSettled h due]
  · rw [State.observe_dispatch_kept h (.inl (by rw [same]; exact some)), same]

end

/-! ## An event with any drain -/

/-- What the drain test, the draw and the other reactions keep holds after the event. -/
theorem State.reacting_keeps {P : State → Prop} {s : State} {f : State → State} (draw : ∀ t, P t → P t.draw)
    (drain : ∀ t, P t → P t.drainTest) (rest : ∀ t, P t → P (f t)) (h : P s) : P (s.reacting f) := by
  unfold State.reacting
  split
  · split
    · exact rest _ (drain _ (draw _ h))
    · exact drain _ (rest _ (draw _ h))
  · exact rest _ h

/-- All that the drain test can do (R175): nothing, or the loop enters READY, out of RUN or not. -/
theorem State.drainTest_cases (s : State) :
    s.drainTest = s ∨ ∃ i, s.drainTest =
      (if s.inRun then (s.withExecutor { s.executor with drain := none, loop := .ready }).withdrawPermissions
        else s.withExecutor { s.executor with drain := none, loop := .ready }).writeOutcome .drain .done i := by
  unfold State.drainTest
  split
  · rename_i i _
    split
    · exact .inr ⟨i, rfl⟩
    · exact .inl rfl
  · exact .inl rfl

/-- Outside RUN no decision is taken. -/
theorem State.decideAfter_outsideRun {s before : State} (h : s.inRun = false) : s.decideAfter before = s := by
  have r : s.decideRelease = s := (State.decideRelease_eq_self s).2 (.inl (by simp [h]))
  have m : s.decideMerge = s := (State.decideMerge_eq_self s).2 (.inl (by simp [h]))
  have d : s.decideDispatch = s := (State.decideDispatch_eq_self s).2 (.inl (by simp [h]))
  simp [State.decideAfter, r, m, d]

/-- The permissions other than the permit stand in `t` as in `s`, and neither is in RUN. -/
structure State.RestsWith (s t : State) : Prop where
  run : t.inRun = false
  release : t.unload.release = s.unload.release
  merge : t.merge = s.merge
  dispatch : t.dispatch = s.dispatch

theorem State.RestsWith.drainTest {s t : State} (h : s.RestsWith t) : s.RestsWith t.drainTest := by
  rcases t.drainTest_cases with k | ⟨i, k⟩ <;> rw [k]
  · exact h
  · rw [h.run]
    exact ⟨by simp [State.inRun, LoopState.isRun], by simpa using h.release, by simpa using h.merge,
      by simpa using h.dispatch⟩

/-- Outside RUN an event with no cause changes no release and no grant (R166). -/
theorem State.observe_outsideRun {s before : State} (h : s.inRun = false) : s.RestsWith (s.observe before) := by
  refine State.reacting_keeps (P := s.RestsWith) (fun t k => ⟨k.run, k.release, k.merge, k.dispatch⟩)
    (fun t k => k.drainTest) (fun t k => ?_) ⟨?_, ?_, ?_, ?_⟩
  · show s.RestsWith (t.decideAfter before)
    rw [State.decideAfter_outsideRun k.run]
    exact k
  · exact (s.seen_inRun before).trans h
  · exact s.seen_release before
  · exact s.seen_merge before
  · exact s.seen_dispatch before

/-- A release that stands in `t` stood in `s`, or stands in RUN for the head of UNL. -/
def State.ReleaseFrom (s t : State) : Prop :=
  t.lanes = s.lanes ∧ ∀ r ∈ t.unload.release,
    s.unload.release = some r ∨ (t.inRun = true ∧ s.lanes.unl.head? = some r.rack)

theorem State.ReleaseFrom.congr {s t u : State} (h : s.ReleaseFrom t) (lanes : u.lanes = t.lanes)
    (release : u.unload.release = t.unload.release) (run : u.inRun = t.inRun) : s.ReleaseFrom u := by
  refine ⟨lanes.trans h.1, fun r hr => ?_⟩
  rw [run]
  exact h.2 r (release ▸ hr)

theorem State.ReleaseFrom.drainTest {s t : State} (h : s.ReleaseFrom t) : s.ReleaseFrom t.drainTest := by
  refine ⟨(t.drainTest_controlled.lanes).trans h.1, fun r hr => ?_⟩
  rcases t.drainTest_cases with k | ⟨i, k⟩
  · rw [k] at hr ⊢
    exact h.2 r hr
  · rw [k] at hr
    cases run : t.inRun with
    | true => simp [run] at hr
    | false =>
      have hr' : r ∈ t.unload.release := by simpa [run] using hr
      rcases h.2 r hr' with old | ⟨c, _⟩
      · exact .inl old
      · rw [run] at c
        cases c

theorem State.ReleaseFrom.decideRelease {s t : State} (h : s.ReleaseFrom t) : s.ReleaseFrom t.decideRelease := by
  have lanes := t.decideRelease_controlled.lanes
  refine ⟨lanes.trans h.1, fun r hr => ?_⟩
  by_cases same : t.decideRelease = t
  · rw [same] at hr ⊢
    exact h.2 r hr
  · rw [State.decideRelease_eq_self] at same
    have closed : t.releaseAtHead := by
      intro g hg
      simp only [not_or, Bool.not_eq_true, Bool.or_eq_false_iff] at same
      rw [Option.isSome_eq_false_iff, Option.isNone_iff_eq_none] at same
      rw [same.1.1.1] at hg
      cases hg
    have opened := State.decideRelease_atHead closed r hr
    rw [lanes, h.1] at opened
    exact .inr opened

/-- Whatever the drain: a release after an event stood before it, or stands in RUN for the head of UNL. -/
theorem State.observe_releaseFrom (s before : State) : s.ReleaseFrom (s.observe before) := by
  refine State.reacting_keeps (P := s.ReleaseFrom) (fun t k => k) (fun t k => k.drainTest) (fun t k => ?_)
    ⟨s.seen_lanes before, fun r hr => .inl ?_⟩
  · have decided := k.decideRelease
    show s.ReleaseFrom (t.decideAfter before)
    refine decided.congr ?_ (by rw [(t.decideAfter_release before).2]) ?_
    · rw [(t.decideAfter_controlled before).lanes, t.decideRelease_controlled.lanes]
    · rw [State.inRun, State.decideAfter_executor, State.inRun, State.decideRelease_executor]
  · rw [← s.seen_release before]
    exact hr

end Sys2Proof.Machine
end

section
/-! REGISTER and LOAD (R2, R5, R15 to R22, R45, R46), with the facts that every request at the racks needs. -/

namespace Sys2Proof.Machine

/-! ## What a request leaves -/

section
variable {s t u : State}

theorem State.OnlyMarks.lineKept (h : s.OnlyMarks t) : s.lineKept t := ⟨h.line, fun n _ => h.node n⟩

/-- An event with no cause leaves the inputs, the settings and the line as they were (R44). -/
theorem State.observe_surroundings (before : State) (h : s.surroundingsKept u) :
    s.surroundingsKept (u.observe before) := by
  have seen := u.takeNewHead_kept before
  have done := u.observe_controlled before
  obtain ⟨⟨eyes, estop, heat, pitch, admission⟩, ⟨stored, working, single⟩, line, nodes⟩ := h
  have kept := (seen.marks.trans done.marks)
  refine ⟨⟨?_, ?_, ?_, ?_, ?_⟩, ⟨?_, ?_, ?_⟩, ?_, fun n hn => ?_⟩
  · rw [done.eyes, State.takeNewHead_eyes, eyes]
  · rw [done.estop, seen.estop, estop]
  · rw [done.heat, seen.heat, heat]
  · rw [done.pitch, seen.pitch, pitch]
  · rw [done.admission, State.takeNewHead_tunnel, admission]
  · rw [done.stored, seen.stored, stored]
  · rw [done.working, State.takeNewHead_working, working]
  · rw [done.single, seen.single, single]
  · rw [kept.line, line]
  · rw [kept.node, nodes n hn]

/-- A request that changes the racks and the permissions alone. -/
theorem State.surroundingsKept_of_racks (h : ∃ slots lanes unload merge dispatch, u = { s with
    slots := slots, lanes := lanes, unload := unload, merge := merge, dispatch := dispatch }) :
    s.surroundingsKept u := by
  obtain ⟨_, _, _, _, _, rfl⟩ := h
  exact ⟨⟨rfl, rfl, rfl, rfl, rfl⟩, ⟨rfl, rfl, rfl⟩, rfl, fun _ _ => rfl⟩

/-- With the head of UNL as it was, an event with no cause changes no record and no place. -/
theorem State.observe_sameHead (h : u.lanes.unl.head? = s.lanes.unl.head?) : u.Controlled (u.observe s) := by
  have k := u.observe_controlled s
  rw [State.takeNewHead_same h] at k
  exact k

end

/-! ## Decisions and the answer

A decision taken is taken whatever the answer kept: the arbiters read no answer. -/

section
variable {s t : State}

theorem State.mergeGrantOpen_next : exec .mergeGrantOpen t = .next t ↔ t.decideMerge = t :=
  ⟨fun h => Host.Outcome.next.inj h, fun h => congrArg Host.Outcome.next h⟩

theorem State.dispatchGrantOpen_next : exec .dispatchGrantOpen t = .next t ↔ t.decideDispatch = t :=
  ⟨fun h => Host.Outcome.next.inj h, fun h => congrArg Host.Outcome.next h⟩

theorem State.unloadReleaseOpen_next : exec .unloadReleaseOpen t = .next t ↔ t.decideRelease = t :=
  ⟨fun h => Host.Outcome.next.inj h, fun h => congrArg Host.Outcome.next h⟩

variable (a : Option Answer)

theorem State.mergeGrantOpen_answer (h : exec .mergeGrantOpen t = .next t) :
    exec .mergeGrantOpen { t with answer := a } = .next { t with answer := a } := by
  rw [State.mergeGrantOpen_next] at h ⊢
  exact State.decideMerge_stable h rfl rfl (fun _ => rfl) rfl rfl

theorem State.dispatchGrantOpen_answer (h : exec .dispatchGrantOpen t = .next t) :
    exec .dispatchGrantOpen { t with answer := a } = .next { t with answer := a } := by
  rw [State.dispatchGrantOpen_next] at h ⊢
  exact State.decideDispatch_stable h rfl rfl rfl rfl rfl

theorem State.mergeDecided_answer (h : s.mergeDecided t) : s.mergeDecided { t with answer := a } :=
  ⟨fun none => ⟨(h.1 none).1, State.mergeGrantOpen_answer a (h.1 none).2⟩, h.2⟩

theorem State.dispatchDecided_answer (h : s.dispatchDecided t) : s.dispatchDecided { t with answer := a } :=
  ⟨fun none => ⟨(h.1 none).1, State.dispatchGrantOpen_answer a (h.1 none).2.1, (h.1 none).2.2⟩, h.2⟩

end

/-! ## The events at which the arbiters decide (R140, R150) -/

section
variable {s u : State}

theorem mergeDue_false (merge : u.merge = s.merge) (spur : s.lanes.spur = [] → u.lanes.spur = [])
    (order : u.lanes.finishOrder.head? = s.lanes.finishOrder.head?)
    (acc : s.lanes.acc.length ≤ u.lanes.acc.length) : mergeDue s u = false := by
  have a : (s.merge.isSome && u.merge.isNone) = false := by rw [merge]; cases s.merge <;> rfl
  have b : (s.lanes.spur.isEmpty && !u.lanes.spur.isEmpty) = false := by
    cases h : s.lanes.spur with
    | nil => simp [spur h]
    | cons => rfl
  simp [mergeDue, a, b, order, acc]

theorem mergeDue_of_spur (h : s.lanes.spur = []) (k : u.lanes.spur ≠ []) : mergeDue s u = true := by
  simp [mergeDue, h, k]

theorem mergeDue_of_order (h : s.lanes.finishOrder.head? ≠ u.lanes.finishOrder.head?) : mergeDue s u = true := by
  simp [mergeDue, h]

theorem mergeDue_of_acc (h : u.lanes.acc.length < s.lanes.acc.length) : mergeDue s u = true := by
  simp [mergeDue, h]

theorem mergeDue_of_withdrawn (h : s.merge ≠ none) (k : u.merge = none) : mergeDue s u = true := by
  simp [mergeDue, Option.isSome_iff_ne_none.2 h, k]

theorem dispatchDue_false (grant : u.dispatch.grant = s.dispatch.grant) (ret : s.lanes.ret = [] → u.lanes.ret = [])
    (claims : ∀ x, u.claimant x = true → s.claimant x = true) : dispatchDue s u = false := by
  have a : (s.dispatch.grant.isSome && u.dispatch.grant.isNone) = false := by
    rw [grant]
    cases s.dispatch.grant <;> rfl
  have b : (s.lanes.ret.isEmpty && !u.lanes.ret.isEmpty) = false := by
    cases h : s.lanes.ret with
    | nil => simp [ret h]
    | cons => rfl
  have c : (Station.all.any fun x => !s.claimant x && u.claimant x) = false := by
    rw [List.any_eq_false]
    intro x _ k
    simp only [Bool.and_eq_true, Bool.not_eq_true'] at k
    rw [claims x k.2] at k
    exact absurd k.1 (by decide)
  simp only [dispatchDue, a, b, c, Bool.or_self]

theorem dispatchDue_of_ret (h : s.lanes.ret = []) (k : u.lanes.ret ≠ []) : dispatchDue s u = true := by
  simp [dispatchDue, h, k]

theorem dispatchDue_of_claimant {x : Station} (h : s.claimant x = false) (k : u.claimant x = true) :
    dispatchDue s u = true := by
  have some : (Station.all.any fun y => !s.claimant y && u.claimant y) = true :=
    List.any_eq_true.2 ⟨x, Station.mem_all x, by simp [h, k]⟩
  simp [dispatchDue, some]

theorem dispatchDue_of_withdrawn (h : s.dispatch.grant ≠ none) (k : u.dispatch.grant = none) :
    dispatchDue s u = true := by
  simp [dispatchDue, Option.isSome_iff_ne_none.2 h, k]

/-- A station whose line is as it was claims only where it claimed, unless its loading position has become empty (R149). -/
theorem State.claimant_of_line (line : u.line = s.line) {x : Station}
    (lp : u.lanes.lp.get x = none → s.lanes.lp.get x = none) (h : u.claimant x = true) : s.claimant x = true := by
  simp only [State.claimant, State.present, line, Bool.and_eq_true, Option.isNone_iff_eq_none] at h ⊢
  exact ⟨h.1, lp h.2⟩

end

/-! ## The Rack Table (R1, R2) -/

/-- A slot more is allocated (R1). -/
theorem State.allocationCount_succ {s t : State} {m : RecNo} (free : s.record m = none) (taken : t.record m ≠ none)
    (others : ∀ k, k ≠ m → (t.record k).isSome = (s.record k).isSome) : t.allocationCount = s.allocationCount + 1 := by
  have split (u : State) : u.allocationCount =
      ((allRecNos.erase m).countP fun n => (u.record n).isSome) + if (u.record m).isSome then 1 else 0 := by
    unfold State.allocationCount
    rw [(List.perm_cons_erase (mem_allRecNos m)).countP_eq, List.countP_cons]
  have same : (allRecNos.erase m).countP (fun n => (t.record n).isSome) =
      (allRecNos.erase m).countP fun n => (s.record n).isSome := by
    refine List.countP_congr fun n hn => ?_
    rw [others n (((List.nodup_finRange 64).mem_erase_iff).1 hn).1]
  rw [split s, split t, same, if_pos (Option.isSome_iff_ne_none.2 taken), free]
  rfl

/-- The octet of a record number names it (R191). -/
theorem recNoOf_octet (m : RecNo) : recNoOf (octet m.val) = some m := by
  have h : (octet m.val).toNat = m.val := by
    simp only [octet, BitVec.toNat_ofNat]
    exact Nat.mod_eq_of_lt (m.isLt.trans (by decide))
  simp [recNoOf, h]

/-! ## REGISTER (R22, R46) -/

theorem registerPlace_cases {o : Octet} {p : Place} (h : registerPlace o = some p) : p = .ret ∨ ∃ x, p = .lp x := by
  unfold registerPlace at h
  split at h
  · exact .inr ⟨_, (Option.some.inj h).symm⟩
  · exact .inl (Option.some.inj h).symm
  · cases h

section
variable {s : State} {n : Node} {o : Octet} {p : Place}

/-- A sender allowed to name the place gets to the checks of room (R194). -/
theorem State.serveRegister_permitted (hp : registerPlace o = some p)
    (role : n = .panel ∨ ∃ x, n = .station x ∧ p = .lp x) :
    s.serveRegister n o =
      if s.single.rackLimit ≤ s.allocationCount ∨ s.isFull p then s.refuse 0x04 .full
      else s.lowestFree.elim (s.refuse 0x04 .full) fun m => ⟨s.allocate m p, response 0x04 .ok [recNoOctet (some m)]⟩ := by
  have known : ¬(n ≠ .panel ∧ !isStationNode n) := by
    rcases role with rfl | ⟨x, rfl, _⟩ <;> simp [isStationNode]
  have may : mayRegister n p = true := by
    rcases role with rfl | ⟨x, rfl, rfl⟩ <;> simp [mayRegister]
  unfold State.serveRegister
  rw [if_neg known, hp]
  simp only [may, Bool.not_true, Bool.false_eq_true, if_false]
  by_cases full : s.single.rackLimit ≤ s.allocationCount ∨ s.isFull p
  · rw [if_pos full, if_pos full]
  · rw [if_neg full, if_neg full]
    cases s.lowestFree <;> rfl

/-- A full table or place: FULL, and nothing changed. -/
theorem exec_register_full (hp : registerPlace o = some p) (role : n = .panel ∨ ∃ x, n = .station x ∧ p = .lp x)
    (full : s.single.rackLimit ≤ s.allocationCount ∨ s.allocationCount = 64 ∨ s.isFull p = true) :
    exec (.register n o) s = .next { s with answer := some ⟨n, [0x04, 0x16]⟩ } := by
  have refused : s.serveRegister n o = s.refuse 0x04 .full := by
    rw [State.serveRegister_permitted hp role]
    split
    · rfl
    · rename_i room
      have free : s.lowestFree = none := by
        rw [State.lowestFree_none, ← State.allocationCount_full]
        rcases full with k | k | k
        · exact absurd (.inl k) room
        · exact k
        · exact absurd (.inr k) room
      rw [free, Option.elim_none]
  show Host.Outcome.next ((s.serveRegister n o).answering n) = _
  rw [refused]
  rfl

/-- With room a record is allocated in the lowest free slot (R2, R46). -/
theorem exec_register_ok (hp : registerPlace o = some p) (role : n = .panel ∨ ∃ x, n = .station x ∧ p = .lp x)
    (limit : s.allocationCount < s.single.rackLimit) (table : s.allocationCount < 64) (room : s.isFull p = false) :
    ∃ m, s.lowestFree = some m ∧ exec (.register n o) s =
      .next { s.allocate m p with answer := some ⟨n, [0x04, 0x00, octet m.val]⟩ } := by
  cases free : s.lowestFree with
  | none =>
    have := State.allocationCount_full.2 (State.lowestFree_none.1 free)
    omega
  | some m =>
    refine ⟨m, rfl, ?_⟩
    have granted : s.serveRegister n o = ⟨s.allocate m p, response 0x04 .ok [recNoOctet (some m)]⟩ := by
      rw [State.serveRegister_permitted hp role, if_neg (by simp [room, limit]), free, Option.elim_some]
    show Host.Outcome.next ((s.serveRegister n o).answering n) = _
    rw [granted]
    rfl

end

/-- Settles O11: the allocation is one event at RET or a loading position, with the head of UNL as it was. -/
theorem registerCreatesRecord : Obligations.RegisterCreatesRecord := by
  intro s n o p hp role
  refine ⟨fun limit table room => ?_, fun full => exec_register_full hp role full⟩
  obtain ⟨m, free, e⟩ := exec_register_ok hp role limit table room
  obtain ⟨freeSlot, below⟩ := State.lowestFree_some free
  refine ⟨_, e, m, freeSlot, below, ?_⟩
  generalize hu : (s.setSlot m (some Record.registered)).withLanes (s.lanes.join p m) = u
  have ht : s.allocate m p = u.observe s := by rw [← hu]; rfl
  have drain : u.executor = s.executor := by rw [← hu]; rfl
  have line : u.line = s.line := by rw [← hu]; rfl
  have merge : u.merge = s.merge := by rw [← hu]; rfl
  have dispatch : u.dispatch = s.dispatch := by rw [← hu]; rfl
  have draws : u.draws = s.draws := by rw [← hu]; rfl
  have lanes : u.lanes = s.lanes.join p m := by rw [← hu]; rfl
  have record (k : RecNo) : u.record k = if k = m then some Record.registered else s.record k := by
    rw [← hu, State.record_withLanes, State.record_setSlot]
  have head : u.lanes.unl.head? = s.lanes.unl.head? := by
    rw [lanes]
    rcases registerPlace_cases hp with rfl | ⟨x, rfl⟩ <;> rfl
  have done := State.observe_sameHead head
  have others : s.othersKept (u.observe s) m := fun k hk => by rw [done.record, record, if_neg hk]
  have new : (u.observe s).record m = some Record.registered := by rw [done.record, record, if_pos rfl]
  have count : (u.observe s).allocationCount = s.allocationCount + 1 :=
    State.allocationCount_succ freeSlot (by rw [new]; simp) fun k hk => by rw [others k hk]
  rw [ht]
  refine ⟨new, others, count, rfl, fun x hx => ?_, fun hx => ?_,
    State.observe_surroundings s (State.surroundingsKept_of_racks ⟨_, _, _, _, _, hu.symm⟩), fun quiet => ?_⟩
  · subst hx
    exact done.lanes.trans lanes
  · subst hx
    exact done.lanes.trans lanes
  · have still : u.executor.drain = none := by rw [drain, quiet]
    have kept := State.observe_executorKept (before := s) still
    refine ⟨⟨kept.1.trans drain, kept.2.trans draws⟩, ?_, fun hx empty => ?_, fun other => ?_⟩
    · refine (State.observe_merge_kept still (.inr (mergeDue_false merge ?_ ?_ ?_))).trans merge <;> rw [lanes]
      all_goals rcases registerPlace_cases hp with rfl | ⟨x, rfl⟩ <;> simp [Lanes.join]
    · subst hx
      exact State.dispatchDecided_answer _
        (State.observe_dispatchDecided still dispatch (dispatchDue_of_ret empty (by simp [lanes, Lanes.join])))
    · refine (State.observe_dispatch_kept still (.inr (dispatchDue_false (by rw [dispatch]) ?_ fun x =>
        State.claimant_of_line line ?_))).trans dispatch <;> rw [lanes]
      · rcases registerPlace_cases hp with rfl | ⟨x, rfl⟩
        · exact fun empty => absurd empty (by simpa using other)
        · exact id
      · rcases registerPlace_cases hp with rfl | ⟨y, rfl⟩
        · exact id
        · simp only [Lanes.join, PerStation.get_set]
          split
          · simp
          · exact id

end Sys2Proof.Machine
end

section
/-! LOAD (R15 to R21, R45): its refusals, what it declares, and its finish. -/

namespace Sys2Proof.Machine

/-- The place of a record is a loading position where a station holds it there, and no other (R29, R31). -/
theorem Lanes.placeOf_lp {l : Lanes} {n : RecNo} {x : Station} :
    l.placeOf n = some (.lp x) ↔ l.stationOf n = some x := by
  have parts : Place.holding = Station.all.map Sys2Proof.Place.lp ++
      [.outfeed .a, .outfeed .b, .outfeed .c, .outfeed .d, .spur, .acc, .tun, .xt, .unl, .ret, .off] := rfl
  have there : ((fun p => decide (n ∈ l.contents p)) ∘ Sys2Proof.Place.lp) = fun y => decide (l.lp.get y = some n) := by
    funext y
    simp [Lanes.contents]
  unfold Lanes.placeOf
  rw [parts, List.find?_append, List.find?_map, there]
  show (Option.map Sys2Proof.Place.lp (l.stationOf n)).or _ = _ ↔ _
  cases l.stationOf n with
  | some y => simp
  | none =>
    simp only [Option.map_none, Option.none_or, reduceCtorEq, iff_false]
    intro found
    simpa using List.mem_of_find?_eq_some found

/-! ## Which LOAD is refused (R21) -/

section
variable {s : State} {n : Node} {m : RecNo} {v : Record} {replace finish : Bool} {es : List LoadEntry}

/-- The sender may load the record (R21): the panel node, or the station that has it at its loading position or is its
origin. -/
def State.mayLoad (s : State) (n : Node) (m : RecNo) (v : Record) : Prop :=
  n = .panel ∨ ∃ x, n = .station x ∧ (s.lanes.placeOf m = some (.lp x) ∨ v.origin = some x)

theorem State.mayLoad_sender (h : s.mayLoad n m v) : n = .panel ∨ ∃ x, n = .station x :=
  h.imp_right fun ⟨x, hx, _⟩ => ⟨x, hx⟩

theorem wellFormed_iff (e : LoadEntry) :
    e.wellFormed = true ↔ e.kind ≠ 0 ∧ e.count.val ≠ 0 ∧ e.count.val ≤ 15 := by
  simp [LoadEntry.wellFormed, and_assoc]

theorem State.loadRefusal_notPermitted {x : Station} (away : s.lanes.placeOf m ≠ some (.lp x)) (other : v.origin ≠ some x) :
    s.loadRefusal (.station x) m v finish = some .notPermitted := by
  rw [Ne, Lanes.placeOf_lp] at away
  simp [State.loadRefusal, away, other]

/-- Past the sender, the checks of R21 are those of the record, of its place and of the finish. -/
theorem State.loadRefusal_permitted (may : s.mayLoad n m v) : s.loadRefusal n m v finish =
    if v.fixed then some .isProtected
    else if !(s.lanes.placeOf m).any takesLoad then some .wrongState
    else if !finish then none
    else (s.lanes.stationOf m).elim (some .wrongState) fun x =>
      if s.executor.drain.isSome then some .draining else if s.isFull (.outfeed x) then some .full else none := by
  rcases may with rfl | ⟨x, rfl, at_ | origin⟩
  · cases h : s.lanes.stationOf m <;> simp [State.loadRefusal, h]
  · rw [Lanes.placeOf_lp] at at_
    simp [State.loadRefusal, at_]
  · cases h : s.lanes.stationOf m <;> simp [State.loadRefusal, h, origin]

/-! ## The answer of a LOAD -/

/-- A known sender and a list that fits get to the checks of the entries, of the record, and of R21 (R194). -/
theorem State.serveLoad_known (role : n = .panel ∨ ∃ x, n = .station x) (fits : es.length ≤ 14) :
    s.serveLoad n (octet m.val) replace finish es =
      if es.all LoadEntry.wellFormed then
        (s.record m).elim (s.refuse 0x05 .notFound) fun v =>
          (s.loadRefusal n m v finish).elim ⟨s.applyLoad m replace finish es, response 0x05 .ok⟩ (s.refuse 0x05)
      else s.refuse 0x05 .badArgument := by
  have known : ¬(n ≠ .panel ∧ !isStationNode n) := by
    rcases role with rfl | ⟨x, rfl⟩ <;> simp [isStationNode]
  unfold State.serveLoad
  rw [if_neg (by omega), if_neg known, recNoOf_octet]
  dsimp only
  cases es.all LoadEntry.wellFormed with
  | false => rfl
  | true =>
    simp only [Bool.not_true, Bool.false_eq_true, if_false, if_true]
    cases s.record m with
    | none => rfl
    | some v =>
      dsimp only [Option.elim_some]
      cases s.loadRefusal n m v finish <;> rfl

theorem all_wellFormed (wf : ∀ e ∈ es, e.kind ≠ 0 ∧ e.count.val ≠ 0 ∧ e.count.val ≤ 15) :
    es.all LoadEntry.wellFormed = true :=
  List.all_eq_true.2 fun e he => (wellFormed_iff e).2 (wf e he)

theorem exec_load_badArgument (role : n = .panel ∨ ∃ x, n = .station x) (fits : es.length ≤ 14)
    (bad : ∃ e ∈ es, e.kind = 0 ∨ e.count.val = 0 ∨ 15 < e.count.val) :
    exec (.load n (octet m.val) replace finish es) s = .next { s with answer := some ⟨n, [0x05, 0x12]⟩ } := by
  have wf : es.all LoadEntry.wellFormed ≠ true := by
    obtain ⟨e, he, bad⟩ := bad
    intro all
    have := (wellFormed_iff e).1 (List.all_eq_true.1 all e he)
    omega
  show Host.Outcome.next ((s.serveLoad n (octet m.val) replace finish es).answering n) = _
  rw [State.serveLoad_known role fits, if_neg wf]
  rfl

theorem exec_load_notFound (role : n = .panel ∨ ∃ x, n = .station x) (fits : es.length ≤ 14)
    (wf : ∀ e ∈ es, e.kind ≠ 0 ∧ e.count.val ≠ 0 ∧ e.count.val ≤ 15) (free : s.record m = none) :
    exec (.load n (octet m.val) replace finish es) s = .next { s with answer := some ⟨n, [0x05, 0x14]⟩ } := by
  show Host.Outcome.next ((s.serveLoad n (octet m.val) replace finish es).answering n) = _
  rw [State.serveLoad_known role fits, if_pos (all_wellFormed wf), free, Option.elim_none]
  rfl

theorem exec_load_refused (role : n = .panel ∨ ∃ x, n = .station x) (fits : es.length ≤ 14)
    (wf : ∀ e ∈ es, e.kind ≠ 0 ∧ e.count.val ≠ 0 ∧ e.count.val ≤ 15) (hv : s.record m = some v) {r : Result}
    (refused : s.loadRefusal n m v finish = some r) :
    exec (.load n (octet m.val) replace finish es) s = .next { s with answer := some ⟨n, [0x05, r.code]⟩ } := by
  show Host.Outcome.next ((s.serveLoad n (octet m.val) replace finish es).answering n) = _
  rw [State.serveLoad_known role fits, if_pos (all_wellFormed wf), hv, Option.elim_some, refused, Option.elim_some]
  rfl

theorem exec_load_ok (role : n = .panel ∨ ∃ x, n = .station x) (fits : es.length ≤ 14)
    (wf : ∀ e ∈ es, e.kind ≠ 0 ∧ e.count.val ≠ 0 ∧ e.count.val ≤ 15) (hv : s.record m = some v)
    (accepted : s.loadRefusal n m v finish = none) :
    exec (.load n (octet m.val) replace finish es) s =
      .next { s.applyLoad m replace finish es with answer := some ⟨n, [0x05, 0x00]⟩ } := by
  show Host.Outcome.next ((s.serveLoad n (octet m.val) replace finish es).answering n) = _
  rw [State.serveLoad_known role fits, if_pos (all_wellFormed wf), hv, Option.elim_some, accepted, Option.elim_none]
  rfl

end

/-- Settles O13: each clause is one branch of the checks of R21, past the ones before it. -/
theorem loadRefusalsInOrder : Obligations.LoadRefusalsInOrder := by
  intro s n m replace finish es role fits
  refine ⟨exec_load_badArgument role fits, fun wf => ⟨exec_load_notFound role fits wf, fun v hv => ?_⟩⟩
  have refused {r : Result} (h : s.loadRefusal n m v finish = some r) :
      exec (.load n (octet m.val) replace finish es) s = .next { s with answer := some ⟨n, [0x05, r.code]⟩ } :=
    exec_load_refused role fits wf hv h
  refine ⟨fun x hx away other => ?_, fun may => ⟨fun fixed => ?_, fun loose => ⟨fun place => ?_, fun fin place => ?_,
    fun fin x place => ⟨fun drain => ?_, fun drain full => ?_⟩⟩⟩⟩
  · exact refused (r := .notPermitted) (hx ▸ State.loadRefusal_notPermitted away other)
  all_goals have checks := State.loadRefusal_permitted (finish := finish) may
  · exact refused (r := .isProtected) (by rw [checks, if_pos fixed])
  all_goals rw [if_neg (by simp [loose])] at checks
  · have closed : (s.lanes.placeOf m).any takesLoad = false := by
      simp only [List.mem_cons, List.not_mem_nil, or_false] at place
      rcases place with h | h | h | h | h <;> rw [h] <;> rfl
    exact refused (r := .wrongState) (by rw [checks, closed]; rfl)
  · have open_ : (s.lanes.placeOf m).any takesLoad = true := by
      rcases place with h | h | ⟨x, h⟩ <;> rw [h] <;> rfl
    have noStation : s.lanes.stationOf m = none := by
      rw [Option.eq_none_iff_forall_ne_some]
      intro x hx
      rw [Lanes.placeOf_lp.2 hx] at place
      simp at place
    exact refused (r := .wrongState) (by rw [checks, open_, noStation, fin]; rfl)
  all_goals
    subst fin
    rw [place, Lanes.placeOf_lp.1 place] at checks
    simp only [Option.any_some, takesLoad, Bool.not_true, Bool.false_eq_true, if_false, Option.elim_some] at checks
  · exact refused (r := .draining) (by rw [checks, if_pos (Option.isSome_iff_ne_none.2 drain)])
  · have noRoom : s.isFull (.outfeed x) = true := by simpa [State.isFull] using full
    exact refused (r := .full) (by rw [checks, drain, noRoom]; rfl)

/-! ## What an accepted LOAD makes of the record (R16 to R18) -/

/-- The list, the ceiling and, at a loading position, the state: nothing else of a record is loaded. -/
theorem Record.loaded_eq (v : Record) (replace : Bool) (es : List LoadEntry) (atLoading : Bool) :
    v.loaded replace es atLoading =
      { v with
        load := keepLast8 ((if replace then [] else v.load) ++ es)
        ceiling := (es.map (·.cls)).foldl max (if replace then 0 else v.ceiling)
        state := if atLoading then stateByList (keepLast8 ((if replace then [] else v.load) ++ es)) else v.state } := by
  have ceiling (c : Fin 8) : es.foldl (fun c e => max c e.cls) c = (es.map (·.cls)).foldl max c :=
    List.foldl_map.symm
  cases replace <;> cases atLoading <;> simp [Record.loaded, Record.appended, Record.replaced, ceiling]

section
variable {s : State} {m : RecNo} {replace : Bool} {es : List LoadEntry}

theorem State.applyLoad_unfinished : s.applyLoad m replace false es =
    (s.updateRecord m fun r => r.loaded replace es (s.lanes.stationOf m).isSome).observe s := by
  unfold State.applyLoad
  cases s.lanes.stationOf m <;> rfl

theorem State.applyLoad_finished {x : Station} (h : s.lanes.stationOf m = some x) : s.applyLoad m replace true es =
    ((s.updateRecord m fun r => r.loaded replace es true).finish m x).observe s := by
  unfold State.applyLoad
  rw [h]
  rfl

end

/-- LOAD without finish (R16, R17). -/
theorem loadDeclares {s : State} {n : Node} {m : RecNo} {replace : Bool} {es : List LoadEntry} {v : Record} {p : Place}
    (hv : s.record m = some v) (loose : v.fixed = false) (hp : s.lanes.placeOf m = some p)
    (takes : (∃ x, p = .lp x) ∨ (∃ x, p = .outfeed x) ∨ p = .spur ∨ p = .acc) (may : s.mayLoad n m v)
    (fits : es.length ≤ 14) (wf : ∀ e ∈ es, e.kind ≠ 0 ∧ e.count.val ≠ 0 ∧ e.count.val ≤ 15) :
    ∃ t, exec (.load n (octet m.val) replace false es) s = .next t
      ∧ t.answer = some ⟨n, [0x05, 0x00]⟩ ∧ t.lanes = s.lanes ∧ s.othersKept t m
      ∧ (∃ w ∈ t.record m,
          w.load = (let all := (if replace then [] else v.load) ++ es; all.drop (all.length - 8))
          ∧ w.ceiling = (es.map (·.cls)).foldl max (if replace then 0 else v.ceiling)
          ∧ w = { v with load := w.load, ceiling := w.ceiling, state := w.state }
          ∧ ((∃ x, p = .lp x) → w.state = if w.load = [] then .empty else .loading)
          ∧ ((¬∃ x, p = .lp x) → w.state = v.state)
      ∧ s.surroundingsKept t ∧ (s.executor.drain = none → s.executorKept t)) := by
  have accepted : s.loadRefusal n m v false = none := by
    have open_ : (s.lanes.placeOf m).any takesLoad = true := by
      rw [hp]
      rcases takes with ⟨x, rfl⟩ | ⟨x, rfl⟩ | rfl | rfl <;> rfl
    rw [State.loadRefusal_permitted may, if_neg (by simp [loose]), open_]
    rfl
  have atLoading : (s.lanes.stationOf m).isSome = true ↔ ∃ x, p = .lp x := by
    rw [Option.isSome_iff_exists]
    refine exists_congr fun x => ?_
    rw [← Lanes.placeOf_lp, hp, Option.some_inj]
  refine ⟨_, exec_load_ok (State.mayLoad_sender may) fits wf hv accepted, ?_⟩
  rw [State.applyLoad_unfinished]
  generalize hu : (s.updateRecord m fun r => r.loaded replace es (s.lanes.stationOf m).isSome) = u
  obtain ⟨slots, form⟩ := s.updateRecord_form m fun r => r.loaded replace es (s.lanes.stationOf m).isSome
  rw [hu] at form
  have record (k : RecNo) : u.record k =
      if k = m then (s.record m).map fun r => r.loaded replace es (s.lanes.stationOf m).isSome else s.record k := by
    rw [← hu, State.record_updateRecord]
  have lanes : u.lanes = s.lanes := by rw [form]
  have done := State.observe_sameHead (s := s) (u := u) (by rw [lanes])
  refine ⟨rfl, done.lanes.trans lanes, fun k hk => ?_, v.loaded replace es (s.lanes.stationOf m).isSome, ?_, ?_⟩
  · exact (done.record k).trans (by rw [record, if_neg hk])
  · exact (done.record m).trans (by rw [record, if_pos rfl, hv]; rfl)
  · rw [Record.loaded_eq]
    refine ⟨rfl, rfl, rfl, fun at_ => ?_, fun away => ?_, ?_, fun quiet => ?_⟩
    · simp [atLoading.2 at_, stateByList]
    · simp [mt atLoading.1 away]
    · exact State.observe_surroundings s
        (State.surroundingsKept_of_racks ⟨slots, s.lanes, s.unload, s.merge, s.dispatch, form⟩)
    · have drain : u.executor.drain = none := by rw [form]; exact quiet
      have kept := State.observe_executorKept (before := s) drain
      rw [form] at kept ⊢
      exact kept

/-- LOAD with finish (R18, R35, R45). -/
theorem loadFinishes {s : State} {n : Node} {m : RecNo} {x : Station} {replace : Bool} {es : List LoadEntry} {v : Record}
    (hv : s.record m = some v) (loose : v.fixed = false) (hp : s.lanes.placeOf m = some (.lp x)) (may : s.mayLoad n m v)
    (fits : es.length ≤ 14) (wf : ∀ e ∈ es, e.kind ≠ 0 ∧ e.count.val ≠ 0 ∧ e.count.val ≤ 15)
    (quiet : s.executor.drain = none) (room : (s.lanes.outfeed.get x).length < s.working.outfeedCap) :
    ∃ t, exec (.load n (octet m.val) replace true es) s = .next t
      ∧ t.answer = some ⟨n, [0x05, 0x00]⟩
      ∧ t.lanes =
          { s.lanes with
            lp := s.lanes.lp.set x none
            outfeed := s.lanes.outfeed.set x (s.lanes.outfeed.get x ++ [m])
            finishOrder := s.lanes.finishOrder ++ [m] }
      ∧ s.othersKept t m
      ∧ ∃ w ∈ t.record m, w.state = .loaded ∧ w.origin = some x
          ∧ w.load = (let all := (if replace then [] else v.load) ++ es; all.drop (all.length - 8))
          ∧ w.ceiling = (es.map (·.cls)).foldl max (if replace then 0 else v.ceiling)
          ∧ w = { v with load := w.load, ceiling := w.ceiling, state := .loaded, origin := some x }
      ∧ (s.lanes.finishOrder = [] → s.mergeDecided t) ∧ (s.lanes.finishOrder ≠ [] → t.merge = s.merge)
      ∧ (s.present (.station x) = true → s.line.stationCode.get x = .want → s.dispatchDecided t)
      ∧ (s.present (.station x) = false ∨ s.line.stationCode.get x ≠ .want → t.dispatch = s.dispatch)
      ∧ s.surroundingsKept t ∧ s.executorKept t := by
  have station : s.lanes.stationOf m = some x := Lanes.placeOf_lp.1 hp
  have held : s.lanes.lp.get x = some m := Lanes.stationOf_some station
  have accepted : s.loadRefusal n m v true = none := by
    rw [State.loadRefusal_permitted may, if_neg (by simp [loose]), hp, station]
    simp [takesLoad, quiet, State.isFull, room]
  refine ⟨_, exec_load_ok (State.mayLoad_sender may) fits wf hv accepted, ?_⟩
  rw [State.applyLoad_finished station]
  generalize hu : (s.updateRecord m fun r => r.loaded replace es true).finish m x = u
  have record (k : RecNo) : u.record k = if k = m then ((s.record m).map fun r => r.loaded replace es true).map
      fun r => { r with state := .loaded, origin := some x } else s.record k := by
    rw [← hu]
    simp only [State.finish, State.record_withLanes, State.record_updateRecord, if_pos]
    split <;> rfl
  have lanes : u.lanes = { s.lanes with
      lp := s.lanes.lp.set x none
      outfeed := s.lanes.outfeed.set x (s.lanes.outfeed.get x ++ [m])
      finishOrder := s.lanes.finishOrder ++ [m] } := by
    rw [← hu]
    simp [State.finish]
  obtain ⟨slots, form⟩ : ∃ slots, u = { s with slots := slots, lanes := u.lanes } := by
    obtain ⟨slots, h⟩ := s.updateRecord_form m fun r => r.loaded replace es true
    obtain ⟨slots', h'⟩ := State.updateRecord_form { s with slots := slots } m fun r =>
      { r with state := .loaded, origin := some x }
    refine ⟨slots', ?_⟩
    rw [← hu]
    unfold State.finish
    rw [h, h']
    rfl
  have drain : u.executor.drain = none := by rw [form]; exact quiet
  have merge : u.merge = s.merge := by rw [form]
  have dispatch : u.dispatch = s.dispatch := by rw [form]
  have line : u.line = s.line := by rw [form]
  have done := State.observe_sameHead (s := s) (u := u) (by rw [lanes])
  have new : (u.observe s).record m = some { v.loaded replace es true with state := .loaded, origin := some x } := by
    rw [done.record, record, if_pos rfl, hv]
    rfl
  refine ⟨rfl, done.lanes.trans lanes, fun k hk => ?_, _, new, rfl, rfl, ?_⟩
  · exact (done.record k).trans (by rw [record, if_neg hk])
  rw [Record.loaded_eq]
  have acc : s.lanes.acc.length ≤ u.lanes.acc.length := by rw [lanes]
  refine ⟨rfl, rfl, rfl, fun empty => ?_, fun some => ?_, fun present want => ?_, fun idle => ?_,
    State.observe_surroundings s
      (State.surroundingsKept_of_racks ⟨slots, u.lanes, s.unload, s.merge, s.dispatch, form⟩), ?_⟩
  · exact State.mergeDecided_answer _ (State.observe_mergeDecided drain merge (mergeDue_of_order (by simp [lanes, empty])))
  · refine (State.observe_merge_kept drain (.inr (mergeDue_false merge (by rw [lanes]; exact id) ?_ acc))).trans merge
    rw [lanes]
    exact List.head?_append_of_ne_nil _ some
  · refine State.dispatchDecided_answer _
      (State.observe_dispatchDecided drain dispatch (dispatchDue_of_claimant (x := x) ?_ ?_))
    · simp [State.claimant, held]
    · simpa [State.claimant, State.present, line, lanes, want] using present
  · refine (State.observe_dispatch_kept drain (.inr (dispatchDue_false (by rw [dispatch]) (by rw [lanes]; exact id)
      fun y claims => ?_))).trans dispatch
    by_cases hy : y = x
    · subst hy
      simp only [State.claimant, State.present, line, Bool.and_eq_true, decide_eq_true_eq] at claims
      rcases idle with h | h
      · rw [State.present, claims.1.1] at h
        cases h
      · exact absurd claims.1.2 h
    · exact State.claimant_of_line line (by simp [lanes, hy]) claims
  · have kept := State.observe_executorKept (before := s) drain
    rw [form] at kept ⊢
    exact kept

/-- Settles O12: a LOAD is one event at the record, with the head of UNL as it was. -/
theorem loadDeclaresAndFinishes : Obligations.LoadDeclaresAndFinishes := by
  refine ⟨fun s n m replace es v p hv loose hp takes role fits wf => ?_,
    fun s n m x replace es v hv loose hp role fits wf quiet room => ?_⟩
  · refine loadDeclares hv loose hp takes (role.imp_right fun ⟨x, hn, at_⟩ => ⟨x, hn, ?_⟩) fits wf
    rw [hp]
    exact at_.imp_left (congrArg some)
  · refine loadFinishes hv loose hp ?_ fits wf quiet room
    rcases role with panel | station | ⟨y, station, origin⟩
    · exact .inl panel
    · exact .inr ⟨x, station, .inl hp⟩
    · exact .inr ⟨y, station, .inr origin⟩

end Sys2Proof.Machine
end

section
/-! PLACE (R11, R24, R48), and UNLOADED and REWASH at the head of UNL (R23, R126 to R132). -/

namespace Sys2Proof.Machine

/-! ## PLACE -/

section
variable {s : State} {m : RecNo} {o : Octet} {p : Place}

/-- From the panel node, with a target that is one, the checks left are those of R198. -/
theorem State.servePlace_target (hp : placeTarget o = some p) : s.servePlace .panel (octet m.val) o =
    if (s.record m).isNone then s.refuse 0x09 .notFound
    else if !s.lanes.onOff m then s.refuse 0x09 .wrongState
    else if s.isFull p then s.refuse 0x09 .full
    else ⟨s.placeRack m p, response 0x09 .ok⟩ := by
  unfold State.servePlace
  rw [if_neg (by simp), recNoOf_octet, hp]

theorem exec_place_refused {r : Result}
    (refused : s.servePlace .panel (octet m.val) o = s.refuse 0x09 r) :
    exec (.place .panel (octet m.val) o) s = .next { s with answer := some ⟨.panel, [0x09, r.code]⟩ } := by
  show Host.Outcome.next ((s.servePlace .panel (octet m.val) o).answering .panel) = _
  rw [refused]
  rfl

theorem exec_place_ok (hp : placeTarget o = some p) (taken : (s.record m).isNone = false)
    (off : s.lanes.onOff m = true) (room : s.isFull p = false) :
    exec (.place .panel (octet m.val) o) s =
      .next { s.placeRack m p with answer := some ⟨.panel, [0x09, 0x00]⟩ } := by
  show Host.Outcome.next ((s.servePlace .panel (octet m.val) o).answering .panel) = _
  rw [State.servePlace_target hp, taken, off, room]
  rfl

/-- PLACE is one event at its target: the record takes the column of R11, OFF closes up. -/
theorem placeJoins {v : Record} (hv : s.record m = some v) (target : p = .ret ∨ p = .spur ∨ ∃ x, p = .lp x) :
    let l := { s.lanes with off := s.lanes.off.filter fun y => decide (y.rack ≠ m) }
    let t := s.placeRack m p
    t.lanes = l.join p m ∧ t.record m = some (v.placed p) ∧ s.othersKept t m ∧ s.surroundingsKept t
      ∧ (s.executor.drain = none → s.executorKept t
          ∧ (p = .spur → s.lanes.spur = [] → s.mergeDecided t)
          ∧ (p ≠ .spur ∨ s.lanes.spur ≠ [] → t.merge = s.merge)
          ∧ (p = .ret → s.lanes.ret = [] → s.dispatchDecided t)
          ∧ (p ≠ .ret ∨ s.lanes.ret ≠ [] → t.dispatch = s.dispatch)) := by
  intro l t
  generalize hu : (s.updateRecord m (·.placed p)).withLanes (l.join p m) = u
  have ht : t = u.observe s := by rw [← hu]; rfl
  clear_value t
  have lanes : u.lanes = l.join p m := by rw [← hu]; rfl
  have record (k : RecNo) : u.record k = if k = m then (s.record m).map (·.placed p) else s.record k := by
    rw [← hu, State.record_withLanes, State.record_updateRecord]
  obtain ⟨slots, form⟩ : ∃ slots, u = { s with slots := slots, lanes := u.lanes } := by
    obtain ⟨slots, h⟩ := s.updateRecord_form m (·.placed p)
    refine ⟨slots, ?_⟩
    rw [← hu, h]
    rfl
  have merge : u.merge = s.merge := by rw [form]
  have dispatch : u.dispatch = s.dispatch := by rw [form]
  have line : u.line = s.line := by rw [form]
  have head : u.lanes.unl.head? = s.lanes.unl.head? := by
    rw [lanes]
    rcases target with rfl | rfl | ⟨x, rfl⟩ <;> rfl
  have done := State.observe_sameHead head
  have new : (u.observe s).record m = some (v.placed p) := by
    rw [done.record, record, if_pos rfl, hv]
    rfl
  rw [ht]
  refine ⟨done.lanes.trans lanes, new, fun k hk => by rw [done.record, record, if_neg hk],
    State.observe_surroundings s
      (State.surroundingsKept_of_racks ⟨slots, u.lanes, s.unload, s.merge, s.dispatch, form⟩), fun quiet => ?_⟩
  have drain : u.executor.drain = none := by rw [form]; exact quiet
  have kept := State.observe_executorKept (before := s) drain
  refine ⟨⟨kept.1.trans (by rw [form]), kept.2.trans (by rw [form])⟩, fun spur empty => ?_, fun other => ?_,
    fun ret empty => ?_, fun other => ?_⟩
  · exact State.observe_mergeDecided drain merge (mergeDue_of_spur empty (by simp [lanes, spur, Lanes.join]))
  · refine (State.observe_merge_kept drain (.inr (mergeDue_false merge (fun empty => ?_) ?_ ?_))).trans merge <;>
      rw [lanes]
    · have away : p ≠ .spur := other.resolve_right (fun some => some empty)
      rcases target with rfl | rfl | ⟨x, rfl⟩
      · exact empty
      · exact absurd rfl away
      · exact empty
    all_goals rcases target with rfl | rfl | ⟨x, rfl⟩ <;> simp [l, Lanes.join]
  · exact State.observe_dispatchDecided drain dispatch (dispatchDue_of_ret empty (by simp [lanes, ret, Lanes.join]))
  · refine (State.observe_dispatch_kept drain (.inr (dispatchDue_false (by rw [dispatch]) (fun empty => ?_) fun x =>
      State.claimant_of_line line ?_))).trans dispatch <;> rw [lanes]
    · have away : p ≠ .ret := other.resolve_right (fun some => some empty)
      rcases target with rfl | rfl | ⟨x, rfl⟩
      · exact absurd rfl away
      · exact empty
      · exact empty
    · rcases target with rfl | rfl | ⟨y, rfl⟩
      · exact id
      · exact id
      · simp only [l, Lanes.join, PerStation.get_set]
        split
        · simp
        · exact id

end

/-- Settles O15: the checks of R198 in order, and past them one event at the target. -/
theorem placeReturnsRecord : Obligations.PlaceReturnsRecord := by
  intro s m o p hp
  have onOff : s.lanes.onOff m = true ↔ ∃ x ∈ s.lanes.off, x.rack = m := by simp [Lanes.onOff]
  have checks := State.servePlace_target (s := s) (m := m) hp
  refine ⟨fun free => ?_, fun v hv => ?_⟩
  · exact exec_place_refused (r := .notFound) (by rw [checks, if_pos (by simp [free])])
  rw [if_neg (by simp [Option.mem_def.1 hv])] at checks
  refine ⟨fun away => ?_, fun off full => ?_, fun off room => ?_⟩
  · have off : s.lanes.onOff m = false := by simpa [Lanes.onOff] using away
    exact exec_place_refused (r := .wrongState) (by rw [checks, off]; rfl)
  · exact exec_place_refused (r := .full) (by rw [checks, onOff.2 off, full]; rfl)
  · obtain ⟨lanes, new, others, surroundings, decided⟩ := placeJoins hv (placeTarget_cases hp)
    refine ⟨_, exec_place_ok hp (by simp [Option.mem_def.1 hv]) (onOff.2 off) room, rfl, others,
      fun x hx => ?_, fun hx => ?_, fun hx => ?_, surroundings, fun quiet => ?_⟩
    · subst hx
      refine ⟨lanes, new.trans ?_⟩
      simp [Record.placed, Record.placedAtLoading, Record.heatCleared, stateByList]
    · subst hx
      exact ⟨lanes, new⟩
    · subst hx
      exact ⟨lanes, new⟩
    · obtain ⟨executor, spur, merge, ret, dispatch⟩ := decided quiet
      exact ⟨executor, fun hx empty => State.mergeDecided_answer _ (spur hx empty), merge,
        fun hx empty => State.dispatchDecided_answer _ (ret hx empty), dispatch⟩

/-! ## A request at the head of UNL -/

section
variable {s : State} {n : Node} {m : RecNo} {v : Record}

theorem State.unloadHead_of (head : s.lanes.unl.head? = some m) (hv : s.record m = some v) :
    s.unloadHead = some (m, v) := by
  simp [State.unloadHead, head, hv]

/-- The head that a request names is the head of UNL, or there is none (R130, R132). -/
theorem State.unloadHead_other (h : s.lanes.unl.head? ≠ some m) : ∀ k r, s.unloadHead = some (k, r) → k ≠ m := by
  rintro k r hk rfl
  exact h (State.unloadHead_some hk).1

/-- The head treated anew is seen again by the diverter and by the release (R126 to R128); the rest is as it was. -/
theorem treatHead_changes {f : Record → Record} {d : Diverter} (head : s.lanes.unl.head? = some m)
    (hv : s.record m = some v) (treat : (f v).treatment = some (d, true)) :
    let t := s.treatHead m f
    t.record m = some (f v) ∧ s.othersKept t m ∧ t.lanes = s.lanes ∧ t.unload.diverter = d
      ∧ (s.executor.drain = none →
          t.unload.release =
            (if s.inRun = true ∧ s.isBlocked .ul = false ∧ s.isFull d.place = false then some ⟨m, d⟩ else none)
          ∧ s.executorKept t)
      ∧ s.surroundingsKept t := by
  intro t
  generalize hw : ({ s with unload := { s.unload with release := none } } : State).updateRecord m f = w
  have ht : t = w.setDiverter.observe s := by rw [← hw]; rfl
  clear_value t
  have record (k : RecNo) : w.record k = if k = m then (s.record m).map f else s.record k := by
    rw [← hw, State.record_updateRecord]
    rfl
  have turned : w.setDiverter = { w with unload := ⟨d, none⟩ } := by
    have unload : w.unload = ⟨s.unload.diverter, none⟩ := by rw [← hw, State.updateRecord_unload]
    have seen : w.unloadHead = some (m, f v) :=
      State.unloadHead_of (by rw [← hw, State.updateRecord_lanes]; exact head) (by rw [record, if_pos rfl, hv]; rfl)
    unfold State.setDiverter
    rw [seen]
    simp only [treat]
    rw [unload]
  obtain ⟨slots, form⟩ : ∃ slots, w.setDiverter = { s with slots := slots, unload := ⟨d, none⟩ } := by
    obtain ⟨slots, h⟩ := State.updateRecord_form { s with unload := { s.unload with release := none } } m f
    refine ⟨slots, ?_⟩
    rw [turned, ← hw, h]
  have same : w.setDiverter.record = w.record := by rw [turned]; rfl
  generalize hu : w.setDiverter = u at ht form same
  have done := State.observe_sameHead (s := s) (u := u) (by rw [form])
  rw [ht]
  refine ⟨?_, fun k hk => ?_, ?_, ?_, fun quiet => ?_,
    State.observe_surroundings s (State.surroundingsKept_of_racks ⟨_, _, _, _, _, form⟩)⟩
  · rw [done.record, same, record, if_pos rfl, hv]
    rfl
  · rw [done.record, same, record, if_neg hk]
  · rw [done.lanes, form]
  · rw [done.diverter, form]
  · have drain : u.executor.drain = none := by rw [form]; exact quiet
    have kept := State.observe_executorKept (before := s) drain
    refine ⟨?_, kept.1.trans (by rw [form]), kept.2.trans (by rw [form])⟩
    have head' : u.refreshPermit.unloadHead = some (m, f v) := by
      refine State.unloadHead_of (by rw [form]; exact head) ?_
      show u.record m = _
      rw [same, record, if_pos rfl, hv]
      rfl
    have none : u.refreshPermit.unload.release = none := by rw [form]; rfl
    have run : u.refreshPermit.inRun = s.inRun := by rw [form]; rfl
    have ul : u.refreshPermit.isBlocked .ul = s.isBlocked .ul := by rw [form]; rfl
    have full : u.refreshPermit.isFull d.place = s.isFull d.place := by
      rw [form]
      cases d <;> rfl
    have seen : u.seen s = u.refreshPermit := by
      unfold State.seen
      rw [State.takeNewHead_same (by rw [form])]
    rw [(State.observe_release drain).1, seen]
    unfold State.decideRelease
    rw [none, run, ul, head']
    simp only [treat, full]
    by_cases opens : s.inRun = true ∧ s.isBlocked .ul = false ∧ s.isFull d.place = false
    · obtain ⟨inRun, clear, room⟩ := opens
      simp [inRun, clear, room]
    · rw [if_neg opens]
      split
      · exact none
      · split
        · exact none
        · simp_all

/-! ## UNLOADED (R130) -/

theorem exec_unloaded_other (role : n = .panel ∨ n = .unload) (other : s.lanes.unl.head? ≠ some m) :
    exec (.unloaded n (octet m.val)) s =
      .next { s with answer := some ⟨n, [0x06, 0x14, recNoOctet s.lanes.unl.head?]⟩ } := by
  have refused : s.serveUnloaded n (octet m.val) = s.refuseAtHead 0x06 .notFound := by
    unfold State.serveUnloaded
    rw [if_neg (by rcases role with rfl | rfl <;> simp), recNoOf_octet]
    cases h : s.unloadHead with
    | none => rfl
    | some k => exact if_pos (State.unloadHead_other other k.1 k.2 h)
  show Host.Outcome.next ((s.serveUnloaded n (octet m.val)).answering n) = _
  rw [refused]
  rfl

/-- At the head, UNLOADED is refused or treats it as emptied. -/
theorem State.serveUnloaded_head (role : n = .panel ∨ n = .unload) (head : s.lanes.unl.head? = some m)
    (hv : s.record m = some v) : s.serveUnloaded n (octet m.val) =
      v.unloadedRefusal.elim
        ⟨s.treatHead m Record.emptied, response 0x06 .ok [(s.treatHead m Record.emptied).headOctet]⟩
        (s.refuseAtHead 0x06) := by
  unfold State.serveUnloaded
  rw [if_neg (by rcases role with rfl | rfl <;> simp), recNoOf_octet, State.unloadHead_of head hv]
  simp only [ne_eq, not_true_eq_false, if_false]
  cases v.unloadedRefusal <;> rfl

theorem exec_unloaded_refused (role : n = .panel ∨ n = .unload) (head : s.lanes.unl.head? = some m)
    (hv : s.record m = some v) {r : Result} (refused : v.unloadedRefusal = some r) :
    exec (.unloaded n (octet m.val)) s =
      .next { s with answer := some ⟨n, [0x06, r.code, recNoOctet s.lanes.unl.head?]⟩ } := by
  show Host.Outcome.next ((s.serveUnloaded n (octet m.val)).answering n) = _
  rw [State.serveUnloaded_head role head hv, refused]
  rfl

theorem exec_unloaded_ok (role : n = .panel ∨ n = .unload) (head : s.lanes.unl.head? = some m)
    (hv : s.record m = some v) (accepted : v.unloadedRefusal = none)
    (lanes : (s.treatHead m Record.emptied).lanes = s.lanes) :
    exec (.unloaded n (octet m.val)) s =
      .next { s.treatHead m Record.emptied with answer := some ⟨n, [0x06, 0x00, octet m.val]⟩ } := by
  show Host.Outcome.next ((s.serveUnloaded n (octet m.val)).answering n) = _
  rw [State.serveUnloaded_head role head hv, accepted, Option.elim_none]
  unfold State.headOctet
  rw [lanes, head]
  rfl

/-! ## REWASH (R132) -/

theorem exec_rewash_other (role : n = .panel ∨ n = .unload) (other : s.lanes.unl.head? ≠ some m) :
    exec (.rewash n (octet m.val)) s =
      .next { s with answer := some ⟨n, [0x07, 0x14, recNoOctet s.lanes.unl.head?]⟩ } := by
  have refused : s.serveRewash n (octet m.val) = s.refuseAtHead 0x07 .notFound := by
    unfold State.serveRewash
    rw [if_neg (by rcases role with rfl | rfl <;> simp), recNoOf_octet]
    cases h : s.unloadHead with
    | none => rfl
    | some k => exact if_pos (State.unloadHead_other other k.1 k.2 h)
  show Host.Outcome.next ((s.serveRewash n (octet m.val)).answering n) = _
  rw [refused]
  rfl

/-- At the head, REWASH is refused or treats it as one more wash to run. -/
theorem State.serveRewash_head (role : n = .panel ∨ n = .unload) (head : s.lanes.unl.head? = some m)
    (hv : s.record m = some v) : s.serveRewash n (octet m.val) =
      (v.rewashRefusal n).elim
        ⟨s.treatHead m Record.rewashed, response 0x07 .ok [(s.treatHead m Record.rewashed).headOctet]⟩
        (s.refuseAtHead 0x07) := by
  unfold State.serveRewash
  rw [if_neg (by rcases role with rfl | rfl <;> simp), recNoOf_octet, State.unloadHead_of head hv]
  simp only [ne_eq, not_true_eq_false, if_false]
  cases v.rewashRefusal n <;> rfl

theorem exec_rewash_refused (role : n = .panel ∨ n = .unload) (head : s.lanes.unl.head? = some m)
    (hv : s.record m = some v) {r : Result} (refused : v.rewashRefusal n = some r) :
    exec (.rewash n (octet m.val)) s =
      .next { s with answer := some ⟨n, [0x07, r.code, recNoOctet s.lanes.unl.head?]⟩ } := by
  show Host.Outcome.next ((s.serveRewash n (octet m.val)).answering n) = _
  rw [State.serveRewash_head role head hv, refused]
  rfl

theorem exec_rewash_ok (role : n = .panel ∨ n = .unload) (head : s.lanes.unl.head? = some m)
    (hv : s.record m = some v) (accepted : v.rewashRefusal n = none)
    (lanes : (s.treatHead m Record.rewashed).lanes = s.lanes) :
    exec (.rewash n (octet m.val)) s =
      .next { s.treatHead m Record.rewashed with answer := some ⟨n, [0x07, 0x00, octet m.val]⟩ } := by
  show Host.Outcome.next ((s.serveRewash n (octet m.val)).answering n) = _
  rw [State.serveRewash_head role head hv, accepted, Option.elim_none]
  unfold State.headOctet
  rw [lanes, head]
  rfl

end

/-- Settles O17: both requests are refused by the head as it stands, or treat it anew. -/
theorem headOfUnloadRequests : Obligations.HeadOfUnloadRequests := by
  refine ⟨fun s n m role => ⟨fun other => exec_unloaded_other role other, fun head v hv => ⟨fun soiled => ?_,
      fun empty => ?_, fun clean load => ?_⟩⟩,
    fun s n m role => ⟨fun other => exec_rewash_other role other, fun head v hv => ⟨fun rejected unload => ?_,
      fun done => ?_, fun accepted => ?_⟩⟩⟩
  · refine exec_unloaded_refused role head hv (r := .rewashRequired) ?_
    rcases soiled with h | h <;> simp [Record.unloadedRefusal, h]
  · refine exec_unloaded_refused role head hv (r := .wrongState) ?_
    rcases empty with h | ⟨h, load⟩
    · simp [Record.unloadedRefusal, h]
    · simp [Record.unloadedRefusal, h, load]
  · have treat : (Record.emptied v).treatment = some (.toReturn, true) := rfl
    obtain ⟨new, others, lanes, diverter, decided, surroundings⟩ := treatHead_changes head hv treat
    refine ⟨_, exec_unloaded_ok role head hv (by simp [Record.unloadedRefusal, clean, load]) lanes, rfl, new, others,
      lanes, diverter, fun quiet => ?_, surroundings⟩
    simpa [Diverter.place, State.isFull] using decided quiet
  · exact exec_rewash_refused role head hv (r := .notPermitted) (by simp [Record.rewashRefusal, rejected, unload])
  · refine exec_rewash_refused role head hv (r := .wrongState) ?_
    rcases done with h | h <;> simp [Record.rewashRefusal, h]
  · have treat : (Record.rewashed v).treatment = some (.toSpur, true) := rfl
    obtain ⟨new, others, lanes, diverter, decided, surroundings⟩ := treatHead_changes head hv treat
    have none : v.rewashRefusal n = none := by
      rcases accepted with h | ⟨h, hn⟩
      · simp [Record.rewashRefusal, h]
      · simp [Record.rewashRefusal, h, hn]
    refine ⟨_, exec_rewash_ok role head hv none lanes, rfl, new.trans ?_, others, lanes, diverter, fun quiet => ?_,
      surroundings⟩
    · by_cases h : v.state = .clean <;> simp [Record.rewashed, h, Reasons.none]
    · simpa [Diverter.place, State.isFull] using decided quiet

end Sys2Proof.Machine
end

section
/-! RETIRE (R3, R47): a record leaves the place that holds it and its slot, and what stood for it is withdrawn. -/

namespace Sys2Proof.Machine

/-! ## A record seen at the head of UNL (R124, R125) -/

/-- What every block sees of the records after an event: the rejection check of a new head, and no other change. -/
theorem State.record_observe {s u : State} (working : u.working = s.working) (k : RecNo) :
    (u.observe s).record k = s.seenAtHead u.lanes u.record k := by
  rw [(u.observe_controlled s).record, State.record_takeNewHead, working]
  rfl

/-- A record is no more and no less allocated for being seen at the head. -/
theorem State.seenAtHead_isSome (s : State) (l : Lanes) (r : RecNo → Option Record) (k : RecNo) :
    (s.seenAtHead l r k).isSome = (r k).isSome := by
  unfold State.seenAtHead
  split
  · exact Option.isSome_map
  · rfl

theorem State.seenAtHead_congr {s : State} {l : Lanes} {r q : RecNo → Option Record} {k : RecNo} (h : r k = q k) :
    s.seenAtHead l r k = s.seenAtHead l q k := by
  unfold State.seenAtHead
  rw [h]

/-! ## What leaves a place (R30 to R35) -/

/-- Every place closes up, a loading position and a cell become empty. -/
theorem Lanes.contents_remove (l : Lanes) (n : RecNo) (p : Place) :
    (l.remove n).contents p = (l.contents p).filter fun k => decide (k ≠ n) := by
  have gone (o : Option RecNo) : (if o = some n then none else o).toList = o.toList.filter fun k => decide (k ≠ n) := by
    cases o with
    | none => rfl
    | some k => by_cases h : k = n <;> simp [h]
  cases p with
  | lp x => cases x <;> exact gone _
  | outfeed x => cases x <;> rfl
  | tun =>
    simp only [Lanes.contents, Lanes.remove]
    induction l.cells with
    | nil => rfl
    | cons o cells ih =>
      cases o with
      | none => simpa using ih
      | some k => by_cases h : k = n <;> simp_all
  | xt => simp [Lanes.contents, Lanes.remove, List.filter_map, Function.comp_def]
  | off => simp [Lanes.contents, Lanes.remove, List.filter_map, Function.comp_def]
  | _ => rfl

theorem head?_filter_ne {l : List RecNo} (n : RecNo) : (l.filter fun k => decide (k ≠ n)).head? ≠ some n := by
  intro h
  simpa using List.mem_of_head? h

theorem length_filter_ne {l : List RecNo} {n : RecNo} (h : n ∈ l) :
    (l.filter fun k => decide (k ≠ n)).length < l.length :=
  List.length_filter_lt_length_iff_exists.2 ⟨n, h, by simp⟩

theorem Lanes.lp_remove (l : Lanes) (n : RecNo) (x : Station) :
    (l.remove n).lp.get x = if l.lp.get x = some n then none else l.lp.get x := by
  cases x <;> rfl

/-! ## The state in which a retired record is gone -/

section
variable (s : State) (m : RecNo)

/-- The record is gone from its place and its slot, and no permission names it (R47). -/
def State.without : State := ((s.withdrawFor m).withLanes (s.lanes.remove m)).setSlot m none

theorem State.retire_eq : s.retire m = (s.without m).observe s := rfl

@[simp] theorem State.without_lanes : (s.without m).lanes = s.lanes.remove m := rfl
@[simp] theorem State.without_line : (s.without m).line = s.line := rfl

@[simp] theorem State.record_without (k : RecNo) : (s.without m).record k = if k = m then none else s.record k :=
  State.record_setSlot _ _ _ _

theorem State.without_merge : (s.without m).merge =
    if ∃ g ∈ s.merge, s.lanes.sourceHeadOf g.source = some m then none else s.merge := by
  show (if s.merge.any (fun g => s.lanes.sourceHeadOf g.source = some m) then none else s.merge) = _
  simp only [Option.any_eq_true_iff_get, decide_eq_true_eq]
  cases s.merge <;> simp

theorem State.without_dispatch : (s.without m).dispatch =
    if s.lanes.ret.head? = some m then { s.dispatch with grant := none } else s.dispatch := rfl

theorem State.without_release (r : Release) (h : (s.without m).unload.release = some r) : r.rack ≠ m := by
  have form : (s.without m).unload =
      if s.unload.release.any (fun g => g.rack = m) then { s.unload with release := none } else s.unload := rfl
  rw [form] at h
  split at h
  · cases h
  · rename_i other
    rw [h] at other
    simpa using other

theorem State.without_surroundings : s.surroundingsKept (s.without m) :=
  State.surroundingsKept_of_racks ⟨_, _, _, _, _, rfl⟩

/-- A loading position that held the record makes its station a claimant (R149). -/
theorem State.without_claimant {x : Station} (held : s.lanes.lp.get x = some m) (present : s.present (.station x) = true)
    (want : s.line.stationCode.get x = .want) : s.claimant x = false ∧ (s.without m).claimant x = true := by
  refine ⟨by simp [State.claimant, held], ?_⟩
  have empty : (s.lanes.remove m).lp.get x = none := by rw [Lanes.lp_remove, if_pos held]
  simpa [State.claimant, State.present, empty, want] using present

end

/-! ## RETIRE -/

section
variable {s : State} {m : RecNo}

theorem exec_retire_free (free : s.record m = none) :
    exec (.retire .panel (octet m.val)) s = .next { s with answer := some ⟨.panel, [0x08, 0x14]⟩ } := by
  have refused : s.serveRetire .panel (octet m.val) = s.refuse 0x08 .notFound := by
    unfold State.serveRetire
    rw [if_neg (by simp), recNoOf_octet]
    exact if_pos (by simp [free])
  show Host.Outcome.next ((s.serveRetire .panel (octet m.val)).answering .panel) = _
  rw [refused]
  rfl

theorem exec_retire_ok (taken : s.record m ≠ none) :
    exec (.retire .panel (octet m.val)) s = .next { s.retire m with answer := some ⟨.panel, [0x08, 0x00]⟩ } := by
  have accepted : s.serveRetire .panel (octet m.val) = ⟨s.retire m, response 0x08 .ok⟩ := by
    unfold State.serveRetire
    rw [if_neg (by simp), recNoOf_octet]
    exact if_neg (by simpa using taken)
  show Host.Outcome.next ((s.serveRetire .panel (octet m.val)).answering .panel) = _
  rw [accepted]
  rfl

/-- With no drain set, RETIRE is an event at which the Merge Arbiter decides where the grant, the count of ACC or the head
of the finish-order list has gone with the record (R140, R146). -/
theorem retire_merge (quiet : s.executor.drain = none) :
    (∀ g ∈ s.merge, s.lanes.sourceHeadOf g.source ≠ some m → (s.retire m).merge = s.merge)
      ∧ (∀ g ∈ s.merge, s.lanes.sourceHeadOf g.source = some m →
          (s.retire m).mergeFresh ∧ exec .mergeGrantOpen (s.retire m) = .next (s.retire m))
      ∧ (m ∈ s.lanes.acc ∨ s.lanes.finishOrder.head? = some m → s.merge = none →
          (s.retire m).mergeFresh ∧ exec .mergeGrantOpen (s.retire m) = .next (s.retire m)) := by
  have drain : (s.without m).executor.drain = none := quiet
  have decided (none : (s.without m).merge = none) (due : mergeDue s (s.without m) = true) :
      (s.retire m).mergeFresh ∧ exec .mergeGrantOpen (s.retire m) = .next (s.retire m) :=
    ⟨State.observe_mergeFresh drain none, State.mergeGrantOpen_next.2 (State.observe_mergeSettled drain due)⟩
  refine ⟨fun g hg other => ?_, fun g hg named => ?_, fun gone none => ?_⟩
  · have same : (s.without m).merge = s.merge := by
      rw [State.without_merge, if_neg]
      rintro ⟨f, hf, named⟩
      obtain rfl : g = f := Option.some.inj (hg.symm.trans hf)
      exact other named
    have stands : (s.without m).merge ≠ none := by rw [same, Option.mem_def.1 hg]; simp
    exact (State.observe_merge_kept drain (.inl stands)).trans same
  · have withdrawn : (s.without m).merge = none := by rw [State.without_merge, if_pos ⟨g, hg, named⟩]
    exact decided withdrawn (mergeDue_of_withdrawn (by rw [Option.mem_def.1 hg]; simp) withdrawn)
  · refine decided (by simp [State.without_merge, none]) ?_
    rcases gone with acc | first
    · exact mergeDue_of_acc (length_filter_ne acc)
    · refine mergeDue_of_order ?_
      rw [first]
      exact (head?_filter_ne m).symm

/-- With no drain set, RETIRE is an event at which the Dispatch Arbiter decides where the grant has gone with the record or
a station has become a claimant (R150, R156). -/
theorem retire_dispatch (quiet : s.executor.drain = none) :
    (∀ x, s.lanes.lp.get x = some m → s.present (.station x) = true → s.line.stationCode.get x = .want →
        s.dispatch.grant = none → s.dispatchDecided (s.retire m))
      ∧ (∀ g ∈ s.dispatch.grant, s.lanes.ret.head? ≠ some m → (s.retire m).dispatch = s.dispatch)
      ∧ (∀ g ∈ s.dispatch.grant, s.lanes.ret.head? = some m →
          exec .dispatchGrantOpen (s.retire m) = .next (s.retire m)
          ∧ ((s.retire m).dispatch.grant = none → (s.retire m).dispatch = { s.dispatch with grant := none })
          ∧ (s.retire m).dispatchFresh) := by
  have drain : (s.without m).executor.drain = none := quiet
  refine ⟨fun x held present want none => ?_, fun g hg other => ?_, fun g hg named => ?_⟩
  · have same : (s.without m).dispatch = s.dispatch := by
      rw [State.without_dispatch]
      split
      · rw [← none]
      · rfl
    obtain ⟨before, after⟩ := s.without_claimant m held present want
    exact State.observe_dispatchDecided drain same (dispatchDue_of_claimant before after)
  · have same : (s.without m).dispatch = s.dispatch := by rw [State.without_dispatch, if_neg other]
    refine (State.observe_dispatch_kept drain (.inl ?_)).trans same
    rw [same, Option.mem_def.1 hg]
    simp
  · have withdrawn : (s.without m).dispatch = { s.dispatch with grant := none } := by
      rw [State.without_dispatch, if_pos named]
    have none : (s.without m).dispatch.grant = none := by rw [withdrawn]
    obtain ⟨fresh, kept⟩ := State.observe_dispatchFresh (before := s) drain none
    have due := dispatchDue_of_withdrawn (s := s) (by rw [Option.mem_def.1 hg]; simp) none
    exact ⟨State.dispatchGrantOpen_next.2 (State.observe_dispatchSettled drain due),
      fun k => (kept k).trans withdrawn, fresh⟩

/-- The racks after RETIRE: the slot is free, the place has closed up, and the record behind a retired head is seen. -/
theorem retire_racks (taken : s.record m ≠ none) :
    (s.retire m).lanes = s.lanes.remove m ∧ (s.retire m).record m = none
      ∧ (∀ k, k ≠ m → (s.retire m).record k = s.seenAtHead (s.lanes.remove m) s.record k)
      ∧ (s.retire m).allocationCount + 1 = s.allocationCount := by
  have record := State.record_observe (s := s) (u := s.without m) rfl
  have lanes : (s.retire m).lanes = s.lanes.remove m :=
    ((s.without m).observe_controlled s).lanes.trans ((s.without m).takeNewHead_lanes s)
  have free : (s.retire m).record m = none := by
    rw [State.retire_eq, record, State.seenAtHead, if_neg fun h => head?_filter_ne m h.1]
    simp
  have others (k : RecNo) (hk : k ≠ m) : (s.retire m).record k = s.seenAtHead (s.lanes.remove m) s.record k := by
    rw [State.retire_eq, record]
    exact State.seenAtHead_congr (by rw [State.record_without, if_neg hk])
  refine ⟨lanes, free, others, (State.allocationCount_succ free taken fun k hk => ?_).symm⟩
  rw [others k hk, State.seenAtHead_isSome]

/-- No release after RETIRE names the record (R47): one that stood for it is withdrawn, and one given at the event is for
the head of UNL as it stands then. -/
theorem retire_release (d : Diverter) : (s.retire m).unload.release ≠ some ⟨m, d⟩ := by
  intro h
  rcases ((s.without m).observe_releaseFrom s).2 ⟨m, d⟩ h with old | ⟨_, head⟩
  · exact s.without_release m _ old rfl
  · exact head?_filter_ne m head

end

/-- Settles O14: RETIRE is one event, at the state in which the record is gone and no permission names it. -/
theorem retireFreesRecord : Obligations.RetireFreesRecord := by
  intro s m
  refine ⟨exec_retire_free, fun taken => ⟨_, exec_retire_ok taken, rfl, ?_⟩⟩
  obtain ⟨lanes, free, others, count⟩ := retire_racks taken
  have drain (quiet : s.executor.drain = none) : (s.without m).executor.drain = none := quiet
  refine ⟨free, count, fun p _ => ?_, ?_, ?_, ?_, fun k hk => ?_, retire_release, fun outside => ?_, fun quiet => ?_,
    State.observe_surroundings s (s.without_surroundings m), fun quiet => State.observe_executorKept (drain quiet)⟩
  · show (s.retire m).lanes.contents p = _
    rw [lanes, Lanes.contents_remove]
  · exact congrArg Lanes.cells lanes
  · exact congrArg Lanes.xt lanes
  · exact congrArg Lanes.off lanes
  · show (s.retire m).record k = s.seenAtHead (s.retire m).lanes s.record k
    rw [lanes]
    exact others k hk
  · have rests := State.observe_outsideRun (before := s) (s := s.without m) outside
    refine ⟨rests.merge.trans (s.without_merge m), ?_⟩
    show (s.retire m).dispatch.grant = _
    rw [State.retire_eq, rests.dispatch, State.without_dispatch]
    split <;> rfl
  · obtain ⟨stands, withdrawn, gone⟩ := retire_merge (m := m) quiet
    obtain ⟨claims, other, named⟩ := retire_dispatch (m := m) quiet
    refine ⟨stands, fun g hg h => ⟨(withdrawn g hg h).1, State.mergeGrantOpen_answer _ (withdrawn g hg h).2⟩,
      fun h none => ⟨(gone h none).1, State.mergeGrantOpen_answer _ (gone h none).2⟩,
      fun x held present want none => State.dispatchDecided_answer _ (claims x held present want none), other,
      fun g hg head => ?_⟩
    obtain ⟨settled, kept, fresh⟩ := named g hg head
    have working : (s.retire m).working = s.working := (State.observe_surroundings s (s.without_surroundings m)).2.1.2.1
    refine ⟨State.dispatchGrantOpen_answer _ settled, kept, fun f hf => ?_⟩
    rw [← working]
    exact fresh f hf

end Sys2Proof.Machine
end

section
/-! What a passage moves (R36 to R43): the head of its source or a phantom, to its destination or to OFF, with the anomalies
and the cause that go with it. -/

namespace Sys2Proof.Machine

/-! ## Permissions and places -/

section
variable {s : State} {e : Eye} {p : Place}

/-- The permission that covers a passage ends, and nothing else of the part changes with it (R36, R81). -/
theorem State.endPermission_form (s : State) (e : Eye) : ∃ admission release merge grant, s.endPermission e =
    { s with
      tunnel := { s.tunnel with admissionUsed := admission }, unload := { s.unload with release := release }
      merge := merge, dispatch := { s.dispatch with grant := grant } } := by
  unfold State.endPermission
  cases e with
  | outfeed x =>
    dsimp only
    split <;> exact ⟨_, _, _, _, rfl⟩
  | sp =>
    dsimp only
    split <;> exact ⟨_, _, _, _, rfl⟩
  | _ => exact ⟨_, _, _, _, rfl⟩

/-- The tunnel is the destination of EN, and of no other trackpoint (R36). -/
theorem State.destination_tun (dest : s.destination e = some p) : p = .tun ↔ e = .en := by
  cases e with
  | ul =>
    obtain rfl := Option.some.inj dest
    cases h : s.unload.diverter <;> simp [Diverter.place]
  | ds =>
    obtain ⟨x, _, rfl⟩ := Option.map_eq_some_iff.1 dest
    simp
  | _ =>
    obtain rfl := Option.some.inj dest
    simp

/-- The source of a passage is not its destination: the destination is as full as before the head left. -/
theorem State.isFull_pop (dest : s.destination e = some p) {t : State} (lanes : t.lanes = s.lanes.pop e)
    (working : t.working = s.working) : t.isFull p = s.isFull p := by
  cases e with
  | outfeed x =>
    obtain rfl := Option.some.inj dest
    have acc : (s.lanes.pop (.outfeed x)).acc = s.lanes.acc := by
      simp only [Lanes.pop]
      split <;> rfl
    simp [State.isFull, lanes, working, acc]
  | ul =>
    obtain rfl := Option.some.inj dest
    cases h : s.unload.diverter <;> simp [Diverter.place, State.isFull, lanes, working, Lanes.pop]
  | ds =>
    obtain ⟨x, _, rfl⟩ := Option.map_eq_some_iff.1 dest
    simp [State.isFull, lanes, Lanes.pop]
  | _ =>
    obtain rfl := Option.some.inj dest
    simp [State.isFull, lanes, working, Lanes.pop, Lanes.cellZeroEmpty]

/-! ## A landing (R39, R42) -/

/-- With room the record joins its destination; at DS the station's mark is raised (R154). -/
theorem State.land_room (n : RecNo) (room : s.isFull p = false) :
    (s.land e n (some p)).state.lanes = s.lanes.join p n ∧ (s.land e n (some p)).anomalies = []
      ∧ (s.land e n (some p)).cause = none := by
  unfold State.land
  dsimp only
  rw [if_neg (by simp [room])]
  refine ⟨?_, rfl, rfl⟩
  dsimp only
  repeat' split
  all_goals simp

/-- With none the record goes to OFF, an entry double at EN and an overflow elsewhere, and HOLD is raised. -/
theorem State.land_full (n : RecNo) (tun : p = .tun ↔ e = .en) (full : s.isFull p = true) :
    s.land e n (some p) =
      { state := s.withLanes (s.lanes.sendOff n (if e = .en then .entryDouble else .overflow))
        anomalies := [(if e = .en then .entryDouble else .overflow, some n)]
        cause := some (.hold (if e = .en then .entryDouble else .overflow)) } := by
  unfold State.land
  dsimp only
  rw [if_pos full]
  cases p with
  | tun => simp [tun.1 rfl]
  | _ => simp [mt tun.2 (by simp)]

/-- A landing writes the places, and at DS a mark. -/
theorem State.land_form (s : State) (e : Eye) (n : RecNo) (q : Option Place) :
    ∃ lanes nodes, (s.land e n q).state = { s with lanes := lanes, line := { s.line with nodes := nodes } } := by
  have marked (x : Station) (l : Lanes) : ∃ lanes nodes, (s.withLanes l).raiseMark (.station x) =
      { s with lanes := lanes, line := { s.line with nodes := nodes } } := by
    obtain ⟨nodes, h⟩ := (s.withLanes l).raiseMark_form (.station x)
    exact ⟨l, nodes, h⟩
  unfold State.land
  split
  · exact ⟨_, _, rfl⟩
  · split
    · split <;> exact ⟨_, _, rfl⟩
    · dsimp only
      split
      · split
        · exact marked _ _
        · exact ⟨_, _, rfl⟩
      · exact ⟨_, _, rfl⟩

theorem State.record_land (s : State) (e : Eye) (n : RecNo) (q : Option Place) (k : RecNo) :
    (s.land e n q).state.record k = s.record k := by
  obtain ⟨_, _, h⟩ := s.land_form e n q
  rw [h]
  rfl

/-- A delivery into a loading position raises the station's mark (R154). -/
theorem State.land_delivered (s : State) (n : RecNo) (x : Station) (room : s.isFull (.lp x) = false)
    (present : s.present (.station x) = true) :
    (s.land .ds n (some (.lp x))).state.attention (.station x) = true := by
  have e : (s.land .ds n (some (.lp x))).state = (s.withLanes (s.lanes.join (.lp x) n)).raiseMark (.station x) := by
    simp [State.land, room]
  have p : (s.withLanes (s.lanes.join (.lp x) n)).present (.station x) = true := present
  rw [e, State.attention_raiseMark, p]
  simp

end

/-! ## The movement of a passage -/

/-- `t` is `s` but for the records, the places, the permissions that a passage ends, and marks. -/
structure State.Movement (s t : State) : Prop where
  eyes : t.eyes = s.eyes
  executor : t.executor = s.executor
  working : t.working = s.working
  draws : t.draws = s.draws
  diverter : t.unload.diverter = s.unload.diverter

section
variable (s : State) (e : Eye)

/-- All that the movement of a passage writes (R36 to R42). -/
theorem State.reconcile_form : ∃ slots lanes nodes, (s.reconcile e).state =
    { s.endPermission e with
      slots := slots, lanes := lanes, line := { (s.endPermission e).line with nodes := nodes } } := by
  have landed (t : State) (n : RecNo) (q : Option Place) (h : ∃ slots lanes, t =
      { s.endPermission e with slots := slots, lanes := lanes }) : ∃ slots lanes nodes, (t.land e n q).state =
      { s.endPermission e with
        slots := slots, lanes := lanes, line := { (s.endPermission e).line with nodes := nodes } } := by
    obtain ⟨slots, lanes, h⟩ := h
    obtain ⟨lanes', nodes, k⟩ := t.land_form e n q
    exact ⟨slots, lanes', nodes, by rw [k, h]⟩
  unfold State.reconcile
  split
  · rename_i n _
    refine landed _ n _ ?_
    obtain ⟨slots, h⟩ := State.updateRecord_form ((s.endPermission e).withLanes ((s.endPermission e).lanes.pop e)) n
      fun r => r.passed e s.single.fixPoint s.unload.diverter
    exact ⟨slots, _, by rw [h]; rfl⟩
  · unfold State.phantomPassage
    dsimp only
    split
    · exact ⟨_, _, _, rfl⟩
    · split
      · exact landed _ _ _ ⟨_, _, rfl⟩
      · exact ⟨_, _, _, rfl⟩

theorem State.reconcile_movement : s.Movement (s.reconcile e).state := by
  obtain ⟨slots, lanes, nodes, h⟩ := s.reconcile_form e
  obtain ⟨admission, release, merge, grant, k⟩ := s.endPermission_form e
  constructor <;> rw [h, k]

theorem State.reconcile_merge : (s.reconcile e).state.merge = (s.endPermission e).merge := by
  obtain ⟨_, _, _, h⟩ := s.reconcile_form e
  rw [h]

theorem State.reconcile_dispatch : (s.reconcile e).state.dispatch = (s.endPermission e).dispatch := by
  obtain ⟨_, _, _, h⟩ := s.reconcile_form e
  rw [h]

theorem State.reconcile_release : (s.reconcile e).state.unload.release = (s.endPermission e).unload.release := by
  obtain ⟨_, _, _, h⟩ := s.reconcile_form e
  rw [h]

theorem State.reconcile_admission :
    (s.reconcile e).state.tunnel.admissionUsed = (s.tunnel.admissionUsed || decide (e = .en)) := by
  obtain ⟨_, _, _, h⟩ := s.reconcile_form e
  rw [h]
  unfold State.endPermission
  cases e with
  | outfeed x =>
    dsimp only
    split <;> simp
  | sp =>
    dsimp only
    split <;> simp
  | _ => simp

end

/-! ## What moves -/

section
variable {s : State} {e : Eye} {n : RecNo} {p : Place}

theorem State.reconcile_ordinary (head : s.lanes.sourceHead e = some n) : s.reconcile e = s.ordinaryPassage e n := by
  simp [State.reconcile, head]

theorem State.reconcile_phantom (head : s.lanes.sourceHead e = none) : s.reconcile e = s.phantomPassage e := by
  simp [State.reconcile, head]

/-- The state in which the head of a source lands: gone from there, and changed as the passage changes it (R37). -/
def State.moving (s : State) (e : Eye) (n : RecNo) : State :=
  ((s.endPermission e).withLanes ((s.endPermission e).lanes.pop e)).updateRecord n fun r =>
    r.passed e s.single.fixPoint s.unload.diverter

theorem State.moving_lanes (s : State) (e : Eye) (n : RecNo) : (s.moving e n).lanes = s.lanes.pop e := by
  obtain ⟨_, _, _, _, h⟩ := s.endPermission_form e
  rw [State.moving, State.updateRecord_lanes, State.withLanes_lanes, h]

theorem State.moving_working (s : State) (e : Eye) (n : RecNo) : (s.moving e n).working = s.working := by
  obtain ⟨_, _, _, _, h⟩ := s.endPermission_form e
  rw [State.moving, State.updateRecord_working, State.withLanes_working, h]

theorem State.record_moving (s : State) (e : Eye) (n k : RecNo) : (s.moving e n).record k =
    if k = n then (s.record n).map fun r => r.passed e s.single.fixPoint s.unload.diverter else s.record k := by
  have same (j : RecNo) : ((s.endPermission e).withLanes ((s.endPermission e).lanes.pop e)).record j = s.record j := by
    obtain ⟨_, _, _, _, h⟩ := s.endPermission_form e
    rw [State.record_withLanes, h]
    rfl
  rw [State.moving, State.record_updateRecord, same, same]

theorem State.ordinaryPassage_eq (s : State) (e : Eye) (n : RecNo) : s.ordinaryPassage e n =
    { (s.moving e n).land e n (s.destination e) with
      anomalies := ungranted (s.covers e) (some n) ++ s.unloadSkipped e n
        ++ ((s.moving e n).land e n (s.destination e)).anomalies } := rfl

/-- The records after an ordinary passage: the head changed as the passage changes it (R37). -/
theorem State.record_ordinary (head : s.lanes.sourceHead e = some n) (k : RecNo) : (s.reconcile e).state.record k =
    if k = n then (s.record n).map fun r => r.passed e s.single.fixPoint s.unload.diverter else s.record k := by
  rw [State.reconcile_ordinary head, State.ordinaryPassage_eq]
  show ((s.moving e n).land e n (s.destination e)).state.record k = _
  rw [State.record_land, State.record_moving]

/-- An ordinary passage with room at its destination (R37, R38). -/
theorem State.ordinary_joins (head : s.lanes.sourceHead e = some n) (dest : s.destination e = some p)
    (room : s.isFull p = false) :
    (s.reconcile e).state.lanes = (s.lanes.pop e).join p n
      ∧ (s.reconcile e).anomalies = ungranted (s.covers e) (some n) ++ s.unloadSkipped e n
      ∧ (s.reconcile e).cause = none := by
  have clear : (s.moving e n).isFull p = false :=
    (State.isFull_pop dest (s.moving_lanes e n) (s.moving_working e n)).trans room
  obtain ⟨lanes, anomalies, cause⟩ := State.land_room (e := e) n clear
  rw [State.reconcile_ordinary head, State.ordinaryPassage_eq, dest]
  dsimp only
  rw [lanes, anomalies, State.moving_lanes, List.append_nil]
  exact ⟨rfl, rfl, cause⟩

/-- An ordinary passage with no room at its destination (R42). -/
theorem State.ordinary_overflows (head : s.lanes.sourceHead e = some n) (dest : s.destination e = some p)
    (full : s.isFull p = true) :
    (s.reconcile e).state.lanes = (s.lanes.pop e).sendOff n (if e = .en then .entryDouble else .overflow)
      ∧ (s.reconcile e).anomalies = ungranted (s.covers e) (some n) ++ s.unloadSkipped e n
          ++ [(if e = .en then .entryDouble else .overflow, some n)]
      ∧ (s.reconcile e).cause = some (.hold (if e = .en then .entryDouble else .overflow)) := by
  have closed : (s.moving e n).isFull p = true :=
    (State.isFull_pop dest (s.moving_lanes e n) (s.moving_working e n)).trans full
  rw [State.reconcile_ordinary head, State.ordinaryPassage_eq, dest,
    State.land_full n (State.destination_tun dest) closed, State.moving_lanes]
  exact ⟨rfl, rfl, rfl⟩

/-! ## Phantoms (R25, R40, R41) -/

/-- At DS nothing is created (R41). -/
theorem State.phantom_ds (head : s.lanes.sourceHead .ds = none) :
    s.reconcile .ds = ⟨s.endPermission .ds, ungranted (s.covers .ds) none ++ [(.phantom, none)], none⟩ := by
  rw [State.reconcile_phantom head]
  rfl

/-- With no free slot nothing is created (R40, R136). -/
theorem State.phantom_tableFull (head : s.lanes.sourceHead e = none) (other : e ≠ .ds) (full : s.lowestFree = none) :
    s.reconcile e =
      ⟨s.endPermission e, ungranted (s.covers e) none ++ [(.tableFull, none)], some (.stop .tableFull)⟩ := by
  rw [State.reconcile_phantom head]
  unfold State.phantomPassage
  rw [if_neg other, full]

/-- The state in which a phantom lands: in the lowest free slot, with the values of R25. -/
def State.conjured (s : State) (e : Eye) (n : RecNo) : State :=
  (s.endPermission e).setSlot n (some (phantomRecord e s.single s.unload.diverter))

theorem State.conjured_lanes (s : State) (e : Eye) (n : RecNo) : (s.conjured e n).lanes = s.lanes := by
  obtain ⟨_, _, _, _, h⟩ := s.endPermission_form e
  rw [State.conjured, State.setSlot_lanes, h]

theorem State.conjured_isFull (s : State) (e : Eye) (n : RecNo) (p : Place) :
    (s.conjured e n).isFull p = s.isFull p := by
  obtain ⟨_, _, _, _, h⟩ := s.endPermission_form e
  rw [State.conjured, h]
  cases p <;> rfl

theorem State.phantomPassage_eq (other : e ≠ .ds) (free : s.lowestFree = some n) : s.phantomPassage e =
    { (s.conjured e n).land e n (s.destination e) with
      anomalies := ungranted (s.covers e) (some n) ++ [(.phantom, some n)]
        ++ ((s.conjured e n).land e n (s.destination e)).anomalies } := by
  unfold State.phantomPassage
  rw [if_neg other, free]
  rfl

/-- The records after a phantom passage: the phantom, and no other. -/
theorem State.record_phantom (head : s.lanes.sourceHead e = none) (other : e ≠ .ds) (free : s.lowestFree = some n)
    (k : RecNo) : (s.reconcile e).state.record k =
    if k = n then some (phantomRecord e s.single s.unload.diverter) else s.record k := by
  rw [State.reconcile_phantom head, State.phantomPassage_eq other free]
  show ((s.conjured e n).land e n (s.destination e)).state.record k = _
  rw [State.record_land, State.conjured, State.record_setSlot]
  obtain ⟨_, _, _, _, h⟩ := s.endPermission_form e
  rw [h]
  rfl

/-- A phantom with room at its destination (R40). -/
theorem State.phantom_joins (head : s.lanes.sourceHead e = none) (other : e ≠ .ds) (free : s.lowestFree = some n)
    (dest : s.destination e = some p) (room : s.isFull p = false) :
    (s.reconcile e).state.lanes = s.lanes.join p n
      ∧ (s.reconcile e).anomalies = ungranted (s.covers e) (some n) ++ [(.phantom, some n)]
      ∧ (s.reconcile e).cause = none := by
  obtain ⟨lanes, anomalies, cause⟩ := State.land_room (e := e) n ((s.conjured_isFull e n p).trans room)
  rw [State.reconcile_phantom head, State.phantomPassage_eq other free, dest]
  dsimp only
  rw [lanes, anomalies, State.conjured_lanes, List.append_nil]
  exact ⟨rfl, rfl, cause⟩

/-- A phantom with no room at its destination (R42). -/
theorem State.phantom_overflows (head : s.lanes.sourceHead e = none) (other : e ≠ .ds) (free : s.lowestFree = some n)
    (dest : s.destination e = some p) (full : s.isFull p = true) :
    (s.reconcile e).state.lanes = s.lanes.sendOff n (if e = .en then .entryDouble else .overflow)
      ∧ (s.reconcile e).anomalies = ungranted (s.covers e) (some n) ++ [(.phantom, some n)]
          ++ [(if e = .en then .entryDouble else .overflow, some n)]
      ∧ (s.reconcile e).cause = some (.hold (if e = .en then .entryDouble else .overflow)) := by
  have land := State.land_full n (State.destination_tun dest) ((s.conjured_isFull e n p).trans full)
  rw [State.reconcile_phantom head, State.phantomPassage_eq other free, dest, land, State.conjured_lanes]
  exact ⟨rfl, rfl, rfl⟩

/-- The lowest free slot is the one below which every slot is allocated (R2). -/
theorem State.lowestFree_eq (free : s.record n = none) (below : ∀ k < n, s.record k ≠ none) : s.lowestFree = some n := by
  cases h : s.lowestFree with
  | none => exact absurd free (State.lowestFree_none.1 h n)
  | some m =>
    obtain ⟨free', below'⟩ := State.lowestFree_some h
    rcases lt_trichotomy m n with lt | rfl | gt
    · exact absurd free' (below m lt)
    · rfl
    · exact absurd free (below' n gt)

theorem State.lowestFree_of_room (room : s.allocationCount < 64) : ∃ m, s.lowestFree = some m := by
  cases h : s.lowestFree with
  | none =>
    have := State.allocationCount_full.2 (State.lowestFree_none.1 h)
    omega
  | some m => exact ⟨m, rfl⟩

end

end Sys2Proof.Machine
end

section
/-! A passage as an event (R43, R44), and the clear edge that gives one or two of them (R53, R56, R60 to R63). -/

namespace Sys2Proof.Machine

/-! ## The anomalies of an event (R43, R66) -/

theorem Anomaly.after_append (a : Anomaly) (as bs : List (AnomalyKind × Option RecNo)) :
    (a.after as).after bs = a.after (as ++ bs) := by
  rcases List.eq_nil_or_concat bs with rfl | ⟨cs, b, rfl⟩
  · simp [Anomaly.after]
  · simp [Anomaly.after, List.concat_eq_append, ← List.append_assoc]

@[simp] theorem Anomaly.after_nil (a : Anomaly) : a.after [] = a := rfl

@[simp] theorem Anomaly.after_concat (a : Anomaly) (as : List (AnomalyKind × Option RecNo))
    (b : AnomalyKind × Option RecNo) : a.after (as ++ [b]) = ⟨b.1, b.2, true⟩ := by
  simp [Anomaly.after]

@[simp] theorem Anomaly.after_one (a : Anomaly) (b : AnomalyKind × Option RecNo) : a.after [b] = ⟨b.1, b.2, true⟩ :=
  a.after_concat [] b

section
variable (s : State) (e : Eye) (as : List (AnomalyKind × Option RecNo))

/-- After the anomalies of one event the trackpoint holds the last of them. -/
theorem State.recordAnomalies_eyes : (s.recordAnomalies e as).eyes =
    s.eyes.set e { s.eyes.get e with anomaly := (s.eyes.get e).anomaly.after as } := by
  induction as generalizing s with
  | nil =>
    refine PerEye.ext_get fun d => ?_
    by_cases h : d = e <;> simp [State.recordAnomalies, h]
  | cons a as ih =>
    have first : (a :: as) = [a] ++ as := rfl
    have next : s.recordAnomalies e (a :: as) = (s.recordAnomaly e a.1 a.2).recordAnomalies e as := rfl
    rw [next, ih, State.recordAnomaly_eyes, first, ← Anomaly.after_append]
    refine PerEye.ext_get fun d => ?_
    by_cases h : d = e <;> simp [h]

/-- An anomaly recorded raises the panel node's mark. -/
theorem State.recordAnomalies_mark (some : as ≠ []) (present : s.present .panel = true) :
    (s.recordAnomalies e as).attention .panel = true := by
  obtain ⟨bs, b, rfl⟩ := (List.eq_nil_or_concat as).resolve_left some
  have here : ((s.recordAnomalies e bs).setEye e { (s.recordAnomalies e bs).eyes.get e with
      anomaly := ⟨b.1, b.2, true⟩ }).present .panel = true :=
    ((s.recordAnomalies_kept e bs).marks.present .panel).trans present
  rw [List.concat_eq_append, State.recordAnomalies_concat, State.recordAnomaly, State.attention_raiseMark, here]
  simp

end

/-! ## A passage as an event -/

/-- The passage whose movement is `m` has led from `s` to `t`, but for the permissions and the executor. -/
structure State.Passed (s t : State) (e : Eye) (m : Landing) : Prop where
  lanes : t.lanes = m.state.lanes
  record : ∀ k, t.record k = s.seenAtHead m.state.lanes m.state.record k
  eyes : t.eyes = s.eyes.set e { s.eyes.get e with anomaly := (s.eyes.get e).anomaly.after m.anomalies }
  mark : m.anomalies ≠ [] → s.present .panel = true → t.attention .panel = true
  raised : ∀ n, m.state.attention n = true → t.attention n = true
  admission : t.tunnel.admissionUsed = m.state.tunnel.admissionUsed
  working : t.working = s.working
  kept : s.Kept t

/-- The state in which the movement of a passage and its anomalies are seen by every block. -/
def State.noted (s : State) (e : Eye) : State := (s.reconcile e).state.recordAnomalies e (s.reconcile e).anomalies

theorem State.passage_eq (s : State) (e : Eye) : s.passage e = (s.noted e).observe s (s.reconcile e).cause := rfl

section
variable (s : State) (e : Eye)

@[simp] theorem State.noted_lanes : (s.noted e).lanes = (s.reconcile e).state.lanes := State.recordAnomalies_lanes _ _ _
@[simp] theorem State.noted_merge : (s.noted e).merge = (s.endPermission e).merge :=
  (State.recordAnomalies_merge _ _ _).trans (s.reconcile_merge e)
@[simp] theorem State.noted_dispatch : (s.noted e).dispatch = (s.endPermission e).dispatch :=
  (State.recordAnomalies_dispatch _ _ _).trans (s.reconcile_dispatch e)
@[simp] theorem State.noted_working : (s.noted e).working = s.working :=
  (State.recordAnomalies_working _ _ _).trans (s.reconcile_movement e).working
@[simp] theorem State.noted_executor : (s.noted e).executor = s.executor :=
  (State.recordAnomalies_executor _ _ _).trans (s.reconcile_movement e).executor
@[simp] theorem State.noted_draws : (s.noted e).draws = s.draws :=
  (State.recordAnomalies_draws _ _ _).trans (s.reconcile_movement e).draws

theorem State.noted_release : (s.noted e).unload.release = (s.endPermission e).unload.release := by
  rw [State.noted, State.recordAnomalies_unload, State.reconcile_release]

theorem State.noted_diverter : (s.noted e).unload.diverter = s.unload.diverter := by
  rw [State.noted, State.recordAnomalies_unload, (s.reconcile_movement e).diverter]

theorem State.noted_inRun : (s.noted e).inRun = s.inRun := by simp [State.inRun]

theorem State.noted_kept : s.Kept (s.noted e) := (s.reconcile_kept e).trans (State.recordAnomalies_kept _ _ _)

theorem State.noted_eyes : (s.noted e).eyes =
    s.eyes.set e { s.eyes.get e with anomaly := (s.eyes.get e).anomaly.after (s.reconcile e).anomalies } := by
  rw [State.noted, State.recordAnomalies_eyes, (s.reconcile_movement e).eyes]

/-- Anomalies are no part of a blockage. -/
theorem State.noted_isBlocked (d : Eye) : (s.noted e).isBlocked d = s.isBlocked d := by
  unfold State.isBlocked
  rw [State.noted_eyes]
  by_cases h : d = e <;> simp [h]

end

/-- Where the event changes no more than control can, it leaves what the passage moved. -/
theorem State.passed_of_controlled {s t : State} {e : Eye} (h : ((s.noted e).takeNewHead s).Controlled t) :
    s.Passed t e (s.reconcile e) := by
  have head := (s.noted e).takeNewHead_kept s
  have marks : (s.reconcile e).state.OnlyMarks t :=
    ((State.recordAnomalies_kept _ _ _).marks.trans head.marks).trans h.marks
  refine ⟨?_, fun k => ?_, ?_, fun some present => ?_, marks.raised, ?_, ?_,
    ((s.noted_kept e).trans head).trans (.of_controlled h)⟩
  · rw [h.lanes, State.takeNewHead_lanes, State.noted_lanes]
  · rw [h.record, State.record_takeNewHead, State.noted_working, State.noted_lanes]
    simp only [State.noted, State.record_recordAnomalies]
    rfl
  · rw [h.eyes, State.takeNewHead_eyes, State.noted_eyes]
  · refine (head.marks.trans h.marks).raised .panel (State.recordAnomalies_mark _ e _ some ?_)
    exact ((s.reconcile_kept e).marks.present .panel).trans present
  · rw [h.admission, State.takeNewHead_tunnel, State.noted, State.recordAnomalies_tunnel]
  · rw [h.working, State.takeNewHead_working, State.noted_working]

/-- A passage that gives no cause is seen by every block, and the executor has no part in it (R44). -/
theorem State.passage_quiet {s : State} {e : Eye} (h : (s.reconcile e).cause = none) :
    s.passage e = (s.noted e).observe s := by
  rw [State.passage_eq, h]

theorem State.passage_passed {s : State} {e : Eye} (h : (s.reconcile e).cause = none) :
    s.Passed (s.passage e) e (s.reconcile e) := by
  rw [State.passage_quiet h]
  exact State.passed_of_controlled ((s.noted e).observe_controlled s)

/-- A record seen where the head of UNL is the one of before is as it was. -/
theorem State.seenAtHead_same {s : State} {l : Lanes} {r : RecNo → Option Record} (h : l.unl.head? = s.lanes.unl.head?)
    (k : RecNo) : s.seenAtHead l r k = r k := by
  rw [State.seenAtHead, h, if_neg fun c => c.2 c.1]

theorem State.slots_of_record {s t : State} (h : ∀ k, t.record k = s.record k) : t.slots = s.slots := by
  refine Vector.ext fun i hi => ?_
  exact h ⟨i, hi⟩

/-! ## The clear edge -/

/-- The trackpoint with its clear edge taken, the blockage still to be handed on (R56, R57). -/
def State.cleared (s : State) (e : Eye) : State :=
  s.setEye e
    { s.eyes.get e with
      blocked := false, runCount := 0, start := false, jamTimer := none
      blockage := (s.eyes.get e).blockage.map fun b => { b with length := lengthen b.length } }

/-- The clear edge of `e` is under way from `s`, and the anomaly record of the trackpoint reads `a`. -/
structure State.Edging (s t : State) (e : Eye) (a : Anomaly) : Prop where
  eye : t.eyes.get e = { (s.cleared e).eyes.get e with anomaly := a }
  others : ∀ d, d ≠ e → t.eyes.get d = s.eyes.get d
  sensors : s.sensorsKept t
  settings : s.settingsKept t
  marks : s.OnlyMarks t

section
variable {s t u : State} {e : Eye} {a : Anomaly}

theorem State.setEye_marks (s : State) (e : Eye) (x : Trackpoint) : s.OnlyMarks (s.setEye e x) :=
  ⟨rfl, fun _ => rfl, fun _ _ => rfl, fun _ h => h⟩

theorem State.Edging.start (s : State) (e : Eye) : s.Edging (s.cleared e) e (s.eyes.get e).anomaly :=
  ⟨by simp [State.cleared], fun d h => by simp [State.cleared, h], ⟨rfl, rfl, rfl⟩, ⟨rfl, rfl, rfl⟩, s.setEye_marks e _⟩

theorem State.Edging.note (h : s.Edging t e a) (k : AnomalyKind) (r : Option RecNo) :
    s.Edging (t.recordAnomaly e k r) e ⟨k, r, true⟩ where
  eye := by simp [h.eye]
  others d hd := by simpa [hd] using h.others d hd
  sensors := by
    unfold State.sensorsKept
    simpa using h.sensors
  settings := by
    unfold State.settingsKept
    simpa using h.settings
  marks := h.marks.trans (t.recordAnomaly_kept e k r).marks

theorem State.Edging.passage (h : s.Edging t e a) {m : Landing} (p : t.Passed u e m) :
    s.Edging u e (a.after m.anomalies) where
  eye := by simp [p.eyes, h.eye]
  others d hd := by simpa [p.eyes, hd] using h.others d hd
  sensors := ⟨p.kept.estop.trans h.sensors.1, p.kept.heat.trans h.sensors.2.1, p.kept.pitch.trans h.sensors.2.2⟩
  settings := ⟨p.kept.stored.trans h.settings.1, p.working.trans h.settings.2.1, p.kept.single.trans h.settings.2.2⟩
  marks := h.marks.trans p.kept.marks

/-- While the edge is under way the blockage is in progress (R60). -/
theorem State.Edging.isBlocked (h : s.Edging t e a) (blocked : s.isBlocked e = true) : t.isBlocked e = true := by
  unfold State.isBlocked at blocked ⊢
  rw [h.eye]
  simpa [State.cleared] using blocked

/-- All that the end of a blockage does beside ending it is control. -/
theorem State.endBlockage_controlled (t : State) (e : Eye) :
    (t.setEye e { t.eyes.get e with blockage := none }).Controlled (t.endBlockage e) := by
  unfold State.endBlockage
  cases e with
  | outfeed x => exact State.decideMerge_controlled _
  | sp => exact State.decideMerge_controlled _
  | ul => exact State.decideRelease_controlled _
  | ds => exact State.decideDispatch_controlled _
  | en => exact .refl _
  | ex => exact .refl _

@[simp] theorem State.endBlockage_executor (t : State) (e : Eye) : (t.endBlockage e).executor = t.executor := by
  unfold State.endBlockage
  cases e <;> simp

@[simp] theorem State.endBlockage_draws (t : State) (e : Eye) : (t.endBlockage e).draws = t.draws := by
  have release (u : State) : u.decideRelease.draws = u.draws := by
    obtain ⟨_, h⟩ := u.decideRelease_form
    rw [h]
  have merge (u : State) : u.decideMerge.draws = u.draws := by
    obtain ⟨_, h⟩ := u.decideMerge_form
    rw [h]
  have dispatch (u : State) : u.decideDispatch.draws = u.draws := by
    obtain ⟨_, h⟩ := u.decideDispatch_form
    rw [h]
  unfold State.endBlockage
  cases e <;> simp [release, merge, dispatch]

theorem State.endBlockage_lanes (t : State) (e : Eye) : (t.endBlockage e).lanes = t.lanes :=
  (t.endBlockage_controlled e).lanes

theorem State.endBlockage_record (t : State) (e : Eye) (k : RecNo) : (t.endBlockage e).record k = t.record k :=
  (t.endBlockage_controlled e).record k

/-- The edge has been taken (R53, R60): the blockage is over, and the rest stands as while it was under way. -/
theorem State.Edging.ended (h : s.Edging t e a) : s.edgeCleared (t.endBlockage e) e a
    ∧ s.sensorsKept (t.endBlockage e) ∧ s.settingsKept (t.endBlockage e) ∧ s.lineKept (t.endBlockage e) := by
  have c := t.endBlockage_controlled e
  have marks : s.OnlyMarks (t.endBlockage e) := (h.marks.trans (t.setEye_marks e _)).trans c.marks
  refine ⟨⟨?_, fun d _ hd => ?_⟩, ⟨c.estop.trans h.sensors.1, c.heat.trans h.sensors.2.1, c.pitch.trans h.sensors.2.2⟩,
    ⟨c.stored.trans h.settings.1, c.working.trans h.settings.2.1, c.single.trans h.settings.2.2⟩, marks.lineKept⟩
  · rw [c.eyes]
    simp [h.eye, State.cleared]
  · rw [c.eyes]
    simpa [hd] using h.others d hd

theorem State.endBlockage_attention (t : State) (e : Eye) {n : Node} (h : t.attention n = true) :
    (t.endBlockage e).attention n = true :=
  (t.endBlockage_controlled e).marks.raised n h

end

/-! ## What the clear edge hands on (R60 to R63) -/

section
variable {s : State} {e : Eye}

/-- A blockage that ends as one rack gives one passage. -/
theorem exec_clearEdge_rack (h : s.endsAsRack e) :
    exec (.clearEdge e) s = .next (((s.cleared e).passage e).endBlockage e) := by
  obtain ⟨blocked, b, hb, rack⟩ := h
  have one : Blockage.classify { b with length := lengthen b.length } (s.working.rackMin.get e) (s.working.rackMax.get e) =
      .one := by
    unfold Blockage.classify
    rcases rack with jam | reset | ⟨min, max⟩
    · simp [jam]
    · simp [reset]
    · have low : ¬lengthen b.length < s.working.rackMin.get e := Nat.not_lt.2 min
      have high : lengthen b.length ≤ s.working.rackMax.get e := max
      simp [low, high]
  show Host.Outcome.next (if (s.eyes.get e).blocked then s.clearEdge e else s) = _
  rw [if_pos blocked, State.clearEdge, State.cleared]
  simp only [Option.mem_def.1 hb, one]
  rfl

/-- A blockage that ends as two racks is recorded, and gives two passages in succession (R63). -/
theorem exec_clearEdge_double (h : s.endsAsDouble e) : exec (.clearEdge e) s =
    .next (((((s.cleared e).recordAnomaly e .double none).passage e).passage e).endBlockage e) := by
  obtain ⟨blocked, b, hb, jam, reset, min, max⟩ := h
  have two : Blockage.classify { b with length := lengthen b.length } (s.working.rackMin.get e) (s.working.rackMax.get e) =
      .double := by
    have low : ¬lengthen b.length < s.working.rackMin.get e := Nat.not_lt.2 min
    have high : ¬lengthen b.length ≤ s.working.rackMax.get e := Nat.not_le.2 max
    simp [Blockage.classify, jam, reset, low, high]
  show Host.Outcome.next (if (s.eyes.get e).blocked then s.clearEdge e else s) = _
  rw [if_pos blocked, State.clearEdge, State.cleared]
  simp only [Option.mem_def.1 hb, two]
  rfl

theorem State.isBlocked_of_double (h : s.endsAsDouble e) : s.isBlocked e = true := by
  obtain ⟨_, b, hb, _⟩ := h
  simp [State.isBlocked, Option.mem_def.1 hb]

end

/-! ## The executor at a passage -/

/-- With no drain set, a passage that gives no cause leaves the executor (R44). -/
theorem State.passage_executorKept {s : State} {e : Eye} (h : (s.reconcile e).cause = none)
    (quiet : s.executor.drain = none) : s.executorKept (s.passage e) := by
  have drain : (s.noted e).executor.drain = none := by rw [State.noted_executor]; exact quiet
  have kept := State.observe_executorKept (before := s) drain
  rw [State.passage_quiet h]
  exact ⟨kept.1.trans (s.noted_executor e), kept.2.trans (s.noted_draws e)⟩

end Sys2Proof.Machine
end

section
/-! A HOLD or a STOP that the executor raises itself (R162, R165, R166, R168, R169), with no command pending. -/

namespace Sys2Proof.Machine

theorem State.drainTest_none {s : State} (h : s.executor.drain = none) : s.drainTest = s := by
  simp [State.drainTest, h]

@[simp] theorem State.withExecutor_executor_eq (s : State) (x : Executor) : (s.withExecutor x).executor = x := rfl

@[simp] theorem State.enterLoop_executor (s : State) (l : LoopState) :
    (s.enterLoop l).executor = { s.executor with loop := l } := by
  unfold State.enterLoop
  dsimp only
  split <;> rfl

/-- Leaving RUN withdraws the permissions (R166). -/
theorem State.enterLoop_withdrawn {s : State} (l : LoopState) (h : s.inRun = true) :
    (s.enterLoop l).permissionsWithdrawn := by
  unfold State.enterLoop
  rw [h]
  exact ⟨rfl, rfl, rfl, rfl, rfl⟩

/-- The permissions rest where the executor's other parts and marks are written. -/
theorem State.permissionsWithdrawn_writeOutcome {s : State} {c : LineCommand} {k : OutcomeKind} {i : Issuer}
    (h : s.permissionsWithdrawn) : (s.writeOutcome c k i).permissionsWithdrawn := by
  simpa [State.permissionsWithdrawn] using h

theorem PerCommand.set_set {α : Type} (v : PerCommand α) (c : LineCommand) (x y : α) :
    (v.set c x).set c y = v.set c y := by
  cases c <;> rfl

/-! ## HOLD (R165, R168) -/

section
variable (s : State) (i : Issuer)

/-- The executor after HOLD with issuer `i`, no drain set. -/
def State.heldExecutor : Executor :=
  let done : OutcomeRecord := ⟨s.outcomeOfHold, some i, none⟩
  let held : Executor :=
    { s.executor with loop := s.loopAfterHold i, outcomes := s.executor.outcomes.set .hold done }
  match s.executor.loop with
  | .starting _ j =>
    { held with
      heatTimer := none, outcomes := (s.executor.outcomes.set .run ⟨.cancelled, some j, none⟩).set .hold done }
  | .run =>
    { held with settleTimer := if s.line.driveCode = .running then some s.working.settleTimeout else none }
  | .idle | .ready | .holding _ | .hold | .stopped => held

variable {s i}

theorem State.takeHold_executor (quiet : s.executor.drain = none) : (s.takeHold i).executor = s.heldExecutor i := by
  unfold State.takeHold State.heldExecutor
  cases loop : s.executor.loop with
  | starting o j =>
    dsimp only
    rw [State.drainTest_none (by simpa using quiet)]
    simp [State.loopAfterHold, State.outcomeOfHold, loop]
  | run =>
    dsimp only
    have marks := ((s.enterLoop_controlled (.holding i)).trans (State.withExecutor_controlled _
      { (s.enterLoop (.holding i)).executor with settleTimer := some (s.enterLoop (.holding i)).working.settleTimeout }))
    have drive : (((s.enterLoop (.holding i)).withExecutor
      { (s.enterLoop (.holding i)).executor with settleTimer := some (s.enterLoop (.holding i)).working.settleTimeout }).writeOutcome
        .hold .inProgress i).line.driveCode = s.line.driveCode := by
      rw [((marks.trans (State.writeOutcome_controlled _ _ _ _ _)).marks).line]
    have working := (s.enterLoop_controlled (.holding i)).working
    unfold State.holdingTest
    simp only [State.writeOutcome_executor, State.withExecutor_executor_eq, State.enterLoop_executor] at drive ⊢
    by_cases running : s.line.driveCode = .running
    · rw [if_pos (drive.trans running)]
      simp [State.loopAfterHold, State.outcomeOfHold, loop, running, working]
    · rw [if_neg (fun h => running (drive.symm.trans h)), State.endHolding, State.drainTest_none (by simpa using quiet)]
      simp [State.loopAfterHold, State.outcomeOfHold, loop, running, PerCommand.set_set]
  | _ => simp [State.loopAfterHold, State.outcomeOfHold, loop]

theorem State.holdTaken_heldExecutor {t : State} (quiet : s.executor.drain = none) (idle : s.nonePending)
    (h : t.executor = s.heldExecutor i) : s.holdTaken t i ∧ t.executor.holdCauses = s.executor.holdCauses := by
  have vector : s.executor.vector = PerCommand.const none := idle
  unfold State.holdTaken State.outcomesKept State.nonePending
  rw [h]
  unfold State.heldExecutor
  cases loop : s.executor.loop with
  | starting o j =>
    refine ⟨⟨rfl, rfl, rfl, fun c _ hc => ?_, rfl, rfl, rfl, quiet, vector⟩, rfl⟩
    simp only [List.mem_cons, List.not_mem_nil, or_false, not_or] at hc
    dsimp only
    rw [PerCommand.get_set, if_neg hc.1, PerCommand.get_set, if_neg hc.2]
  | _ =>
    refine ⟨⟨rfl, rfl, rfl, fun c _ hc => ?_, rfl, rfl, rfl, quiet, vector⟩, rfl⟩
    simp only [List.mem_cons, List.not_mem_nil, or_false, not_or] at hc
    dsimp only
    rw [PerCommand.get_set, if_neg hc.1]

/-- HOLD leaves RUN, and the permissions are withdrawn with it (R166). -/
theorem State.takeHold_withdrawn (quiet : s.executor.drain = none) :
    (s.takeHold i).inRun = false ∧ (s.inRun = true → (s.takeHold i).permissionsWithdrawn) := by
  constructor
  · rw [State.inRun, State.takeHold_executor quiet]
    unfold State.heldExecutor
    cases loop : s.executor.loop with
    | run =>
      by_cases running : s.line.driveCode = .running <;>
        simp [State.loopAfterHold, loop, running, LoopState.isRun]
    | _ => simp [State.loopAfterHold, loop, LoopState.isRun]
  · intro run
    have loop : s.executor.loop = .run := by
      cases h : s.executor.loop <;> simp [State.inRun, LoopState.isRun, h] at run ⊢
    have withdrawn := s.enterLoop_withdrawn (.holding i) run
    have still : (s.enterLoop (.holding i)).executor.drain = none := by simpa using quiet
    unfold State.takeHold
    rw [loop]
    dsimp only
    generalize s.enterLoop (.holding i) = u at withdrawn still ⊢
    have begun : ((u.withExecutor { u.executor with settleTimer := some u.working.settleTimeout }).writeOutcome
        .hold .inProgress i).permissionsWithdrawn := State.permissionsWithdrawn_writeOutcome withdrawn
    have drain : ((u.withExecutor { u.executor with settleTimer := some u.working.settleTimeout }).writeOutcome
        .hold .inProgress i).executor.drain = none := by simpa using still
    generalize (u.withExecutor { u.executor with settleTimer := some u.working.settleTimeout }).writeOutcome
        .hold .inProgress i = v at begun drain ⊢
    unfold State.holdingTest
    split
    · split
      · exact begun
      · rw [State.endHolding, State.drainTest_none (by simpa using drain)]
        exact State.permissionsWithdrawn_writeOutcome begun
    all_goals exact begun

end

/-! ## STOP (R165) -/

/-- The outcome records with an IN_PROGRESS DRAIN cancelled (R165). -/
def drainCancelled (o : PerCommand OutcomeRecord) : PerCommand OutcomeRecord :=
  match o.drain.kind, o.drain.issuer with
  | .inProgress, some i => o.set .drain ⟨.cancelled, some i, none⟩
  | _, _ => o

theorem drainCancelled_get (o : PerCommand OutcomeRecord) (c : LineCommand) (h : c ≠ .drain) :
    (drainCancelled o).get c = o.get c := by
  unfold drainCancelled
  split
  · rw [PerCommand.get_set, if_neg h]
  · rfl

theorem drainCancelled_drain (o : PerCommand OutcomeRecord) :
    (o.drain.kind = .inProgress → o.drain.issuer ≠ none →
        (drainCancelled o).drain = ⟨.cancelled, o.drain.issuer, none⟩)
      ∧ (o.drain.kind ≠ .inProgress → (drainCancelled o).drain = o.drain) := by
  unfold drainCancelled
  split
  · rename_i i kind issuer
    rw [kind, issuer]
    exact ⟨fun _ _ => rfl, fun h => absurd rfl h⟩
  · rename_i other
    refine ⟨fun kind issuer => ?_, fun _ => rfl⟩
    obtain ⟨i, hi⟩ := Option.ne_none_iff_exists'.1 issuer
    exact absurd hi (other i kind)

theorem State.clearDrain_executor (s : State) : s.clearDrain.executor =
    { s.executor with drain := none, outcomes := drainCancelled s.executor.outcomes } := by
  unfold State.clearDrain
  dsimp only
  split
  · rename_i i kind issuer
    have cancelled : drainCancelled s.executor.outcomes = s.executor.outcomes.set .drain ⟨.cancelled, some i, none⟩ := by
      simp [drainCancelled, kind, issuer]
    rw [cancelled]
    simp
  · rename_i other
    have same : drainCancelled s.executor.outcomes = s.executor.outcomes := by
      unfold drainCancelled
      split
      · rename_i i kind issuer
        exact (other i kind issuer).elim
      · rfl
    rw [same]
    rfl

section
variable (s : State) (i : Issuer)

/-- The executor after STOP with issuer `i`. -/
def State.stoppedExecutor : Executor :=
  let stopped (o : PerCommand OutcomeRecord) : Executor :=
    { s.executor with
      loop := s.loopAfterStop, drain := none
      outcomes := (drainCancelled o).set .stop ⟨.done, some i, none⟩ }
  match s.executor.loop with
  | .starting _ j => { stopped (s.executor.outcomes.set .run ⟨.cancelled, some j, none⟩) with heatTimer := none }
  | .holding j => { stopped (s.executor.outcomes.set .hold ⟨.cancelled, some j, none⟩) with settleTimer := none }
  | .idle | .ready | .run | .hold | .stopped => stopped s.executor.outcomes

theorem State.takeStop_executor : (s.takeStop i).executor = s.stoppedExecutor i := by
  unfold State.takeStop State.stoppedExecutor
  cases loop : s.executor.loop <;> simp [State.clearDrain_executor, State.loopAfterStop, loop]

variable {s i}

theorem State.stopTaken_stoppedExecutor {t : State} (idle : s.nonePending) (h : t.executor = s.stoppedExecutor i) :
    s.stopTaken t i ∧ t.executor.stopCauses = s.executor.stopCauses := by
  have vector : s.executor.vector = PerCommand.const none := idle
  have drain (o : PerCommand OutcomeRecord) (same : o.drain = s.executor.outcomes.drain) :
      (s.executor.outcomes.drain.kind = .inProgress → s.executor.outcomes.drain.issuer ≠ none →
          (drainCancelled o).drain = ⟨.cancelled, s.executor.outcomes.drain.issuer, none⟩)
        ∧ (s.executor.outcomes.drain.kind ≠ .inProgress → (drainCancelled o).drain = s.executor.outcomes.drain) := by
    rw [← same]
    exact drainCancelled_drain o
  have run (o : PerCommand OutcomeRecord) : (drainCancelled o).run = o.run := drainCancelled_get o .run (by simp)
  have hold (o : PerCommand OutcomeRecord) : (drainCancelled o).hold = o.hold := drainCancelled_get o .hold (by simp)
  unfold State.stopTaken State.outcomesKept State.nonePending
  rw [h]
  unfold State.stoppedExecutor
  cases loop : s.executor.loop with
  | starting o j =>
    refine ⟨⟨rfl, rfl, run _, hold _, fun c _ hc => ?_, drain _ rfl, rfl, rfl, vector, rfl, rfl⟩, rfl⟩
    simp only [List.mem_cons, List.not_mem_nil, or_false, not_or] at hc
    dsimp only
    rw [PerCommand.get_set, if_neg hc.1, drainCancelled_get _ _ hc.2.2.2, PerCommand.get_set, if_neg hc.2.1]
  | holding j =>
    refine ⟨⟨rfl, rfl, run _, hold _, fun c _ hc => ?_, drain _ rfl, rfl, rfl, vector, rfl, rfl⟩, rfl⟩
    simp only [List.mem_cons, List.not_mem_nil, or_false, not_or] at hc
    dsimp only
    rw [PerCommand.get_set, if_neg hc.1, drainCancelled_get _ _ hc.2.2.2, PerCommand.get_set, if_neg hc.2.2.1]
  | _ =>
    refine ⟨⟨rfl, rfl, run _, hold _, fun c _ hc => ?_, drain _ rfl, rfl, rfl, vector, rfl, rfl⟩, rfl⟩
    simp only [List.mem_cons, List.not_mem_nil, or_false, not_or] at hc
    dsimp only
    rw [PerCommand.get_set, if_neg hc.1, drainCancelled_get _ _ hc.2.2.2]

theorem State.permissionsWithdrawn_clearDrain (h : s.permissionsWithdrawn) : s.clearDrain.permissionsWithdrawn := by
  unfold State.clearDrain
  dsimp only
  split
  · exact State.permissionsWithdrawn_writeOutcome h
  · exact h

/-- STOP leaves RUN, and no permission stands after it that was withdrawn before (R166). -/
theorem State.takeStop_withdrawn : (s.takeStop i).inRun = false
    ∧ (s.inRun = true ∨ s.permissionsWithdrawn → (s.takeStop i).permissionsWithdrawn) := by
  constructor
  · rw [State.inRun, State.takeStop_executor]
    unfold State.stoppedExecutor
    cases loop : s.executor.loop <;> simp [State.loopAfterStop, loop, LoopState.isRun]
  · intro h
    have stop {u : State} (k : u.permissionsWithdrawn) : (u.clearDrain.writeOutcome .stop .done i).permissionsWithdrawn :=
      State.permissionsWithdrawn_writeOutcome (State.permissionsWithdrawn_clearDrain k)
    have outside (loop : s.inRun = false) : s.permissionsWithdrawn := h.resolve_left (by simp [loop])
    have entered : (s.enterLoop .stopped).permissionsWithdrawn := by
      cases run : s.inRun with
      | true => exact s.enterLoop_withdrawn .stopped run
      | false =>
        unfold State.enterLoop
        rw [run]
        exact outside run
    unfold State.takeStop
    cases loop : s.executor.loop with
    | idle => exact stop (outside (by simp [State.inRun, loop, LoopState.isRun]))
    | stopped => exact stop (outside (by simp [State.inRun, loop, LoopState.isRun]))
    | starting o j =>
      refine stop (State.permissionsWithdrawn_writeOutcome ?_)
      exact outside (by simp [State.inRun, loop, LoopState.isRun])
    | holding j =>
      refine stop (State.permissionsWithdrawn_writeOutcome ?_)
      exact outside (by simp [State.inRun, loop, LoopState.isRun])
    | _ => exact stop entered

end

/-! ## A cause raised at an event (R162, R169, R170) -/

theorem State.OnlyMarks.driveCode {s t : State} (h : s.OnlyMarks t) : t.line.driveCode = s.line.driveCode := by
  rw [h.line]

/-- What HOLD does is read from the executor, the drive's code and SETTLE_TIMEOUT: a cause noted before it is no part. -/
theorem State.heldBy_of_noted {s y t : State} {c : HoldCause}
    (executor : y.executor = { s.executor with holdCauses := s.executor.holdCauses.add c }) (marks : s.OnlyMarks y)
    (working : y.working = s.working) (h : y.holdTaken t .internal) (causes : t.executor.holdCauses = y.executor.holdCauses) :
    s.heldBy t c := by
  refine ⟨?_, by rw [causes, executor]⟩
  simpa only [State.holdTaken, State.loopAfterHold, State.outcomeOfHold, State.outcomesKept, executor, marks.driveCode,
    working] using h

/-- What STOP does is read from the executor: a cause noted before it is no part. -/
theorem State.stopTaken_of_noted {s y t : State} {c : StopCause}
    (executor : y.executor = { s.executor with stopCauses := s.executor.stopCauses.add c }) (h : y.stopTaken t .internal)
    (causes : t.executor.stopCauses = y.executor.stopCauses) :
    s.stopTaken t .internal ∧ t.executor.stopCauses = s.executor.stopCauses.add c := by
  refine ⟨?_, by rw [causes, executor]⟩
  simpa only [State.stopTaken, State.loopAfterStop, State.outcomesKept, executor] using h

section
variable {s : State}

/-- A hold cause raised with no command pending and no drain set (R162, R169). -/
theorem State.raiseHold_held (c : HoldCause) (quiet : s.executor.drain = none) (idle : s.nonePending) :
    s.heldBy (s.raiseHold c) c ∧ (s.raiseHold c).inRun = false
      ∧ (s.inRun = true → (s.raiseHold c).permissionsWithdrawn) ∧ s.Controlled (s.raiseHold c) := by
  have noted := (s.withExecutor_controlled { s.executor with holdCauses := s.executor.holdCauses.add c }).trans
    (State.raiseMark_controlled _ .panel)
  have executor : ((s.withExecutor { s.executor with holdCauses := s.executor.holdCauses.add c }).raiseMark
      .panel).executor = { s.executor with holdCauses := s.executor.holdCauses.add c } := by simp
  rw [State.raiseHold_eq c idle]
  generalize (s.withExecutor { s.executor with holdCauses := s.executor.holdCauses.add c }).raiseMark .panel = y
    at noted executor ⊢
  have still : y.executor.drain = none := by rw [executor]; exact quiet
  have none : y.nonePending := by rw [State.nonePending, executor]; exact idle
  obtain ⟨taken, causes⟩ := State.holdTaken_heldExecutor still none (State.takeHold_executor (i := .internal) still)
  obtain ⟨outside, withdrawn⟩ := State.takeHold_withdrawn (i := .internal) still
  refine ⟨State.heldBy_of_noted executor noted.marks noted.working taken causes, outside, fun run => withdrawn ?_,
    noted.trans (y.takeHold_controlled _)⟩
  rw [State.inRun, executor]
  exact run

/-- A stop cause raised with no command pending (R162, R170). -/
theorem State.raiseStop_stopped (c : StopCause) (idle : s.nonePending) :
    (s.stopTaken (s.raiseStop c) .internal ∧ (s.raiseStop c).executor.stopCauses = s.executor.stopCauses.add c)
      ∧ (s.raiseStop c).inRun = false
      ∧ (s.inRun = true ∨ s.permissionsWithdrawn → (s.raiseStop c).permissionsWithdrawn)
      ∧ s.Controlled (s.raiseStop c) := by
  have noted := (s.withExecutor_controlled { s.executor with stopCauses := s.executor.stopCauses.add c }).trans
    (State.raiseMark_controlled _ .panel)
  have executor : ((s.withExecutor { s.executor with stopCauses := s.executor.stopCauses.add c }).raiseMark
      .panel).executor = { s.executor with stopCauses := s.executor.stopCauses.add c } := by simp
  have permissions (h : s.permissionsWithdrawn) : ((s.withExecutor { s.executor with
      stopCauses := s.executor.stopCauses.add c }).raiseMark .panel).permissionsWithdrawn := by
    simpa [State.permissionsWithdrawn] using h
  rw [State.raiseStop_eq c idle]
  generalize (s.withExecutor { s.executor with stopCauses := s.executor.stopCauses.add c }).raiseMark .panel = y
    at noted executor permissions ⊢
  have none : y.nonePending := by rw [State.nonePending, executor]; exact idle
  obtain ⟨taken, causes⟩ := State.stopTaken_stoppedExecutor none (y.takeStop_executor .internal)
  obtain ⟨outside, withdrawn⟩ := State.takeStop_withdrawn (s := y) (i := .internal)
  refine ⟨State.stopTaken_of_noted executor taken causes, outside, fun h => withdrawn (h.imp (fun run => ?_) permissions),
    noted.trans (y.takeStop_controlled _)⟩
  rw [State.inRun, executor]
  exact run

end

/-- What HOLD does is read from the executor, the drive's code and SETTLE_TIMEOUT alone. -/
theorem State.heldBy_congr {s u t : State} {c : HoldCause} (executor : u.executor = s.executor)
    (drive : u.line.driveCode = s.line.driveCode) (working : u.working = s.working) (h : u.heldBy t c) : s.heldBy t c := by
  simpa only [State.heldBy, State.holdTaken, State.loopAfterHold, State.outcomeOfHold, State.outcomesKept, executor, drive,
    working] using h

theorem State.stopTaken_congr {s u t : State} (executor : u.executor = s.executor) (h : u.stopTaken t .internal) :
    s.stopTaken t .internal := by
  simpa only [State.stopTaken, State.loopAfterStop, State.outcomesKept, executor] using h

/-! ## A passage that raises a cause -/

section
variable {s : State} {e : Eye}

/-- The state in which the arbiters have decided at a passage, the cause still to be raised. -/
def State.weighed (s : State) (e : Eye) : State := ((s.noted e).seen s).decideAfter s

theorem State.weighed_executor (s : State) (e : Eye) : (s.weighed e).executor = s.executor := by
  rw [State.weighed, State.decideAfter_executor, State.seen_executor, State.noted_executor]

theorem State.weighed_controlled (s : State) (e : Eye) : ((s.noted e).takeNewHead s).Controlled (s.weighed e) :=
  (State.refreshPermit_controlled _).trans (State.decideAfter_controlled _ s)

/-- What a state that has seen a passage reads for the executor stands as before the passage. -/
theorem State.heldBy_weighed {t : State} {c : HoldCause} (h : (s.weighed e).heldBy t c) : s.heldBy t c := by
  have marks : s.OnlyMarks (s.weighed e) :=
    (((s.noted_kept e).trans ((s.noted e).takeNewHead_kept s)).marks).trans (s.weighed_controlled e).marks
  have working : (s.weighed e).working = s.working := by
    rw [(s.weighed_controlled e).working, State.takeNewHead_working, State.noted_working]
  exact State.heldBy_congr (s.weighed_executor e) marks.driveCode working h

/-- A passage that raises HOLD, with no command pending and no drain set. -/
theorem State.passage_held {c : HoldCause} (cause : (s.reconcile e).cause = some (.hold c))
    (quiet : s.executor.drain = none) (idle : s.nonePending) :
    s.heldBy (s.passage e) c ∧ (s.passage e).inRun = false ∧ (s.inRun = true → (s.passage e).permissionsWithdrawn)
      ∧ s.Passed (s.passage e) e (s.reconcile e) := by
  have still : (s.noted e).executor.drain = none := by rw [State.noted_executor]; exact quiet
  have form : s.passage e = (s.weighed e).raiseHold c := by
    rw [State.passage_eq, State.observe_quiet _ still, cause]
    rfl
  obtain ⟨held, outside, withdrawn, controlled⟩ := State.raiseHold_held (s := s.weighed e) c
    (by rw [State.weighed_executor]; exact quiet) (by rw [State.nonePending, State.weighed_executor]; exact idle)
  rw [form]
  refine ⟨State.heldBy_weighed held, outside, fun run => withdrawn ?_,
    State.passed_of_controlled ((s.weighed_controlled e).trans controlled)⟩
  rw [State.inRun, State.weighed_executor]
  exact run

/-- With no drain set, a passage that raises STOP with no command pending. -/
theorem State.passage_stopped {c : StopCause} (cause : (s.reconcile e).cause = some (.stop c))
    (quiet : s.executor.drain = none) (idle : s.nonePending) :
    s.stopTaken (s.passage e) .internal ∧ (s.passage e).executor.stopCauses = s.executor.stopCauses.add c := by
  have still : (s.noted e).executor.drain = none := by rw [State.noted_executor]; exact quiet
  have form : s.passage e = (s.weighed e).raiseStop c := by
    rw [State.passage_eq, State.observe_quiet _ still, cause]
    rfl
  obtain ⟨⟨taken, causes⟩, _⟩ := State.raiseStop_stopped (s := s.weighed e) c
    (by rw [State.nonePending, State.weighed_executor]; exact idle)
  rw [form, causes, State.weighed_executor]
  exact ⟨State.stopTaken_congr (s.weighed_executor e) taken, rfl⟩

end

/-! ## A STOP with any drain -/

/-- What holds before the other reactions to an event, and what they make of it, with the drain test on either side. -/
theorem State.reacting_leads {P Q : State → Prop} {s : State} {f : State → State} (draw : ∀ t, P t → P t.draw)
    (before : ∀ t, P t → P t.drainTest) (rest : ∀ t, P t → Q (f t)) (after : ∀ t, Q t → Q t.drainTest) (h : P s) :
    Q (s.reacting f) := by
  unfold State.reacting
  split
  · split
    · exact rest _ (before _ (draw _ h))
    · exact after _ (rest _ (draw _ h))
  · exact rest _ h

/-- The drain test leaves RUN with the permissions withdrawn, or leaves loop and permissions (R166, R175). -/
theorem State.drainTest_withdrawn {s : State} : (s.inRun = false → s.drainTest.inRun = false)
    ∧ (s.permissionsWithdrawn → s.drainTest.permissionsWithdrawn)
    ∧ (s.inRun = true → s.drainTest.inRun = true ∨ s.drainTest.permissionsWithdrawn) := by
  rcases s.drainTest_cases with same | ⟨i, form⟩
  · rw [same]
    exact ⟨id, id, .inl⟩
  · have ready : s.drainTest.inRun = false := by
      rw [form, State.inRun, State.writeOutcome_executor]
      split <;> rfl
    refine ⟨fun _ => ready, fun h => ?_, fun run => .inr ?_⟩
    · rw [form]
      refine State.permissionsWithdrawn_writeOutcome ?_
      split
      · exact ⟨rfl, rfl, rfl, rfl, rfl⟩
      · exact h
    · rw [form, run]
      exact State.permissionsWithdrawn_writeOutcome ⟨rfl, rfl, rfl, rfl, rfl⟩

section
variable {s : State} {e : Eye}

/-- `t` has followed from `s` by control, its commands none, and RUN left no permission standing. -/
structure State.Reached (s t : State) : Prop where
  controlled : s.Controlled t
  idle : t.nonePending
  left : s.inRun = true → t.inRun = true ∨ t.permissionsWithdrawn

/-- `t` has followed from `s` by control and STOP. -/
structure State.Stopped (s t : State) : Prop where
  controlled : s.Controlled t
  outside : t.inRun = false
  left : s.inRun = true → t.permissionsWithdrawn

theorem State.Reached.drainTest {t : State} (h : s.Reached t) : s.Reached t.drainTest := by
  obtain ⟨_, withdrawn, left⟩ := State.drainTest_withdrawn (s := t)
  exact ⟨h.controlled.trans t.drainTest_controlled, by rw [State.nonePending, State.drainTest_vector]; exact h.idle,
    fun run => (h.left run).elim left fun k => .inr (withdrawn k)⟩

theorem State.Reached.stop {t before : State} (h : s.Reached t) (c : StopCause) :
    s.Stopped ((t.decideAfter before).raiseStop c) := by
  have executor := t.decideAfter_executor before
  have decided := t.decideAfter_controlled before
  obtain ⟨_, outside, withdrawn, controlled⟩ := State.raiseStop_stopped (s := t.decideAfter before) c
    (by rw [State.nonePending, executor]; exact h.idle)
  refine ⟨(h.controlled.trans decided).trans controlled, outside, fun run => withdrawn ?_⟩
  cases still : t.inRun with
  | true =>
    refine .inl ?_
    rw [State.inRun, executor]
    exact still
  | false =>
    rw [State.decideAfter_outsideRun still]
    exact .inr ((h.left run).resolve_left (by simp [still]))

theorem State.Stopped.drainTest {t : State} (h : s.Stopped t) : s.Stopped t.drainTest := by
  obtain ⟨outside, withdrawn, _⟩ := State.drainTest_withdrawn (s := t)
  exact ⟨h.controlled.trans t.drainTest_controlled, outside h.outside, fun run => withdrawn (h.left run)⟩

/-- Whatever the drain: a passage that raises STOP leaves RUN, and what it moved stands. -/
theorem State.passage_leavesRun {c : StopCause} (cause : (s.reconcile e).cause = some (.stop c)) (idle : s.nonePending) :
    s.Passed (s.passage e) e (s.reconcile e) ∧ (s.passage e).inRun = false
      ∧ (s.inRun = true → (s.passage e).permissionsWithdrawn) := by
  generalize seen : (s.noted e).seen s = w
  have start : w.Reached w := by
    refine ⟨.refl w, ?_, .inl⟩
    rw [← seen, State.nonePending, State.seen_executor, State.noted_executor]
    exact idle
  have stopped : w.Stopped (s.passage e) := by
    rw [State.passage_eq, cause]
    show w.Stopped (((s.noted e).seen s).reacting fun t => (t.decideAfter s).raise (some (.stop c)))
    rw [seen]
    exact State.reacting_leads (P := w.Reached) (fun t h => ⟨h.controlled.trans t.draw_controlled, h.idle, h.left⟩)
      (fun t h => h.drainTest) (fun t h => h.stop c) (fun t h => h.drainTest) start
  have run : w.inRun = s.inRun := by rw [← seen, State.seen_inRun, State.noted_inRun]
  refine ⟨State.passed_of_controlled ?_, stopped.outside, fun h => stopped.left (run.trans h)⟩
  have permit : ((s.noted e).takeNewHead s).Controlled w := by
    rw [← seen]
    exact State.refreshPermit_controlled _
  exact permit.trans stopped.controlled

/-! ## The end of the blockage outside RUN -/

/-- Outside RUN nothing is decided at the end of a blockage. -/
theorem State.endBlockage_outsideRun {t : State} (e : Eye) (h : t.inRun = false) :
    t.endBlockage e = t.setEye e { t.eyes.get e with blockage := none } := by
  have outside : (t.setEye e { t.eyes.get e with blockage := none }).inRun = false := h
  unfold State.endBlockage
  cases e with
  | outfeed x => exact (State.decideMerge_eq_self _).2 (.inl (by simp [outside]))
  | sp => exact (State.decideMerge_eq_self _).2 (.inl (by simp [outside]))
  | ul => exact (State.decideRelease_eq_self _).2 (.inl (by simp [outside]))
  | ds => exact (State.decideDispatch_eq_self _).2 (.inl (by simp [outside]))
  | en => rfl
  | ex => rfl

theorem State.endBlockage_withdrawn {t : State} (e : Eye) (outside : t.inRun = false) (h : t.permissionsWithdrawn) :
    (t.endBlockage e).permissionsWithdrawn := by
  rw [State.endBlockage_outsideRun e outside]
  exact h

theorem State.heldBy_endBlockage {t : State} {c : HoldCause} (e : Eye) (h : s.heldBy t c) :
    s.heldBy (t.endBlockage e) c := by
  unfold State.heldBy State.holdTaken State.outcomesKept State.nonePending at h ⊢
  rw [State.endBlockage_executor]
  exact h

theorem State.stopTaken_endBlockage {t : State} (e : Eye) (h : s.stopTaken t .internal) :
    s.stopTaken (t.endBlockage e) .internal := by
  unfold State.stopTaken State.outcomesKept State.nonePending at h ⊢
  rw [State.endBlockage_executor]
  exact h

end

end Sys2Proof.Machine
end

section
/-! One rack at an eye of the merge (R19, R35 to R38, R42, R144). -/

namespace Sys2Proof.Machine

/-! ## One rack (R60) -/

/-- What the clear edge of one rack leaves, whatever the permissions and the executor do. -/
structure State.EdgeTaken (s t : State) (e : Eye) (m : Landing) : Prop where
  lanes : t.lanes = m.state.lanes
  record : ∀ k, t.record k = s.seenAtHead m.state.lanes m.state.record k
  edge : s.edgeCleared t e ((s.eyes.get e).anomaly.after m.anomalies)
  mark : m.anomalies ≠ [] → s.present .panel = true → t.attention .panel = true
  raised : ∀ n, m.state.attention n = true → t.attention n = true
  admission : t.tunnel.admissionUsed = m.state.tunnel.admissionUsed
  sensors : s.sensorsKept t
  settings : s.settingsKept t
  line : s.lineKept t

section
variable {s : State} {e : Eye}

/-- The passage of one rack, seen as what it makes of the state before the clear edge. -/
theorem State.edgeTaken (h : (s.cleared e).Passed ((s.cleared e).passage e) e ((s.cleared e).reconcile e)) :
    s.EdgeTaken (((s.cleared e).passage e).endBlockage e) e ((s.cleared e).reconcile e) := by
  obtain ⟨edge, sensors, settings, line⟩ := ((State.Edging.start s e).passage h).ended
  exact ⟨(State.endBlockage_lanes _ e).trans h.lanes, fun k => (State.endBlockage_record _ e k).trans (h.record k), edge,
    fun some present => State.endBlockage_attention _ e (h.mark some present),
    fun n raised => State.endBlockage_attention _ e (h.raised n raised),
    (State.endBlockage_controlled _ e).admission.trans h.admission, sensors, settings, line⟩

/-- With no drain set, one rack that gives no cause leaves the executor. -/
theorem State.edge_executorKept (cause : ((s.cleared e).reconcile e).cause = none) (quiet : s.executor.drain = none) :
    s.executorKept (((s.cleared e).passage e).endBlockage e) := by
  have kept := State.passage_executorKept cause quiet
  rw [State.executorKept, State.endBlockage_executor, State.endBlockage_draws]
  exact ⟨kept.1, kept.2⟩

/-- One rack that raises HOLD, with no command pending and no drain set. -/
theorem State.edge_held {c : HoldCause} (cause : ((s.cleared e).reconcile e).cause = some (.hold c))
    (quiet : s.executor.drain = none) (idle : s.nonePending) :
    s.heldBy (((s.cleared e).passage e).endBlockage e) c
      ∧ (s.inRun = true → (((s.cleared e).passage e).endBlockage e).permissionsWithdrawn)
      ∧ s.EdgeTaken (((s.cleared e).passage e).endBlockage e) e ((s.cleared e).reconcile e) := by
  obtain ⟨held, outside, withdrawn, passed⟩ := State.passage_held cause quiet idle
  refine ⟨State.heldBy_congr (u := s.cleared e) rfl rfl rfl (State.heldBy_endBlockage e held), fun run => ?_,
    State.edgeTaken passed⟩
  exact State.endBlockage_withdrawn e outside (withdrawn run)

theorem State.EdgeTaken.slots {t : State} {m : Landing} (h : s.EdgeTaken t e m) (slots : m.state.slots = s.slots)
    (head : m.state.lanes.unl.head? = s.lanes.unl.head?) : t.slots = s.slots := by
  refine State.slots_of_record fun k => ?_
  rw [h.record, State.seenAtHead_same head, State.record_congr slots]

end

/-! ## The source, the destination and the permission of a merge eye (R36, R144) -/

section
variable {s : State} {src : MergeSource} {n : RecNo}

theorem MergeSource.eye_ne_en (src : MergeSource) : src.eye ≠ .en := by cases src <;> simp [MergeSource.eye]

theorem MergeSource.eye_ne_ul (src : MergeSource) : src.eye ≠ .ul := by cases src <;> simp [MergeSource.eye]

theorem MergeSource.eye_ne_ds (src : MergeSource) : src.eye ≠ .ds := by cases src <;> simp [MergeSource.eye]

theorem Lanes.sourceHead_merge (l : Lanes) (src : MergeSource) : l.sourceHead src.eye = l.sourceHeadOf src := by
  cases src <;> rfl

theorem State.destination_merge (s : State) (src : MergeSource) : s.destination src.eye = some .acc := by
  cases src <;> rfl

theorem State.covers_merge (s : State) (src : MergeSource) :
    s.covers src.eye = true ↔ ∃ g ∈ s.merge, g.source = src := by
  cases h : s.merge <;> cases src <;> simp [MergeSource.eye, State.covers, h]

theorem State.endPermission_merge (s : State) (src : MergeSource) :
    (s.endPermission src.eye).merge = if s.covers src.eye then none else s.merge := by
  cases src with
  | station x => by_cases h : s.covers (.outfeed x) = true <;> simp [MergeSource.eye, State.endPermission, h]
  | spur => by_cases h : s.covers .sp = true <;> simp [MergeSource.eye, State.endPermission, h]

theorem State.unloadSkipped_merge (s : State) (src : MergeSource) (n : RecNo) : s.unloadSkipped src.eye n = [] := by
  simp [State.unloadSkipped, src.eye_ne_ul]

theorem Record.passed_merge (r : Record) (src : MergeSource) (fix : FixPoint) (d : Diverter) :
    r.passed src.eye fix d = { r with fixed := r.fixed || decide (fix = .merge) } := by
  cases src <;> rfl

theorem State.endBlockage_merge (t : State) (src : MergeSource) : t.endBlockage src.eye =
    (t.setEye src.eye { t.eyes.get src.eye with blockage := none }).decideMerge := by
  cases src <;> rfl

theorem Lanes.pop_station {l : Lanes} {x : Station} (head : l.sourceHeadOf (.station x) = some n) :
    l.pop (.outfeed x) = { l with
      outfeed := l.outfeed.set x (l.outfeed.get x).tail, finishOrder := l.finishOrder.filter fun k => decide (k ≠ n) } := by
  cases h : l.outfeed.get x with
  | nil => simp [Lanes.sourceHeadOf, h] at head
  | cons k rest =>
    obtain rfl : k = n := by simpa [Lanes.sourceHeadOf, h] using head
    simp [Lanes.pop, h]

/-- The head leaves its source, and an outfeed's head leaves the finish-order list too (R35, R37). -/
def Lanes.leftBy (l : Lanes) (src : MergeSource) (n : RecNo) (q : Lanes) : Prop :=
  (∀ x, src = .station x → q.outfeed = l.outfeed.set x (l.outfeed.get x).tail
      ∧ q.finishOrder = l.finishOrder.filter (fun k => decide (k ≠ n)) ∧ q.spur = l.spur)
    ∧ (src = .spur → q.outfeed = l.outfeed ∧ q.finishOrder = l.finishOrder ∧ q.spur = l.spur.tail)

/-- What a record that joins ACC, or goes to OFF, leaves as the passage at the merge has left it. -/
theorem Lanes.pop_merge {l : Lanes} (head : l.sourceHeadOf src = some n) :
    l.leftBy src n (l.pop src.eye) ∧ (l.pop src.eye).acc = l.acc ∧ (l.pop src.eye).unl = l.unl
      ∧ (∀ q, q = (l.pop src.eye).join .acc n → l.leftBy src n q
          ∧ q = { l with outfeed := q.outfeed, finishOrder := q.finishOrder, spur := q.spur, acc := l.acc ++ [n] })
      ∧ (∀ q r, q = (l.pop src.eye).sendOff n r → l.leftBy src n q
          ∧ q = { l with
              outfeed := q.outfeed, finishOrder := q.finishOrder, spur := q.spur, off := l.off ++ [⟨n, r⟩] }) := by
  have left : l.leftBy src n (l.pop src.eye) := by
    cases src with
    | spur => exact ⟨fun x h => (by cases h), fun _ => ⟨rfl, rfl, rfl⟩⟩
    | station x =>
      rw [MergeSource.eye, Lanes.pop_station head]
      refine ⟨fun y h => ?_, fun h => (by cases h)⟩
      obtain rfl : x = y := by simpa using h
      exact ⟨rfl, rfl, rfl⟩
  have rest : l.pop src.eye = { l with
      outfeed := (l.pop src.eye).outfeed, finishOrder := (l.pop src.eye).finishOrder, spur := (l.pop src.eye).spur } := by
    cases src with
    | spur => rfl
    | station x =>
      rw [MergeSource.eye, Lanes.pop_station head]
  generalize l.pop src.eye = p at left rest ⊢
  refine ⟨left, by rw [rest], by rw [rest], fun q hq => ?_, fun q r hq => ?_⟩
  · subst hq
    refine ⟨left, ?_⟩
    rw [rest]
    rfl
  · subst hq
    refine ⟨left, ?_⟩
    rw [rest]
    rfl

/-! ## The Merge Arbiter at a merge passage (R140, R144, R145) -/

theorem State.noted_merge_other (other : ¬∃ g ∈ s.merge, g.source = src) : (s.noted src.eye).merge = s.merge := by
  rw [State.noted_merge, State.endPermission_merge, if_neg (mt (State.covers_merge s src).1 other)]

theorem State.noted_merge_covered (only : ∀ g ∈ s.merge, g.source = src) : (s.noted src.eye).merge = none := by
  rw [State.noted_merge, State.endPermission_merge]
  split
  · rfl
  · rename_i bare
    refine Option.eq_none_iff_forall_not_mem.2 fun g hg => bare ?_
    exact (State.covers_merge s src).2 ⟨g, hg, only g hg⟩

/-- With no drain set: a grant to another source stays over the passage and the end of the blockage, and a grant that the
passage has ended, or none, makes way for a decision. -/
theorem merge_decided (quiet : s.executor.drain = none) (cause : ((s.cleared src.eye).reconcile src.eye).cause = none) :
    let t := ((s.cleared src.eye).passage src.eye).endBlockage src.eye
    (∀ g ∈ s.merge, g.source ≠ src → t.merge = s.merge)
      ∧ ((∀ g ∈ s.merge, g.source = src) → t.mergeFresh ∧ exec .mergeGrantOpen t = .next t) := by
  intro t
  have still : ((s.cleared src.eye).noted src.eye).executor.drain = none := by
    rw [State.noted_executor]
    exact quiet
  have ended : t = (((s.cleared src.eye).passage src.eye).setEye src.eye
      { ((s.cleared src.eye).passage src.eye).eyes.get src.eye with blockage := none }).decideMerge :=
    State.endBlockage_merge _ src
  clear_value t
  rw [State.passage_quiet cause] at ended
  refine ⟨fun g hg other => ?_, fun only => ?_⟩
  · have noted : ((s.cleared src.eye).noted src.eye).merge = s.merge := by
      refine State.noted_merge_other (s := s.cleared src.eye) ?_
      rintro ⟨f, hf, same⟩
      obtain rfl : g = f := Option.some.inj (hg.symm.trans hf)
      exact other same
    have stands : ((s.cleared src.eye).noted src.eye).merge ≠ none := by
      rw [noted, Option.mem_def.1 hg]
      simp
    have kept := State.observe_merge_kept (before := s.cleared src.eye) still (.inl stands)
    rw [ended, State.decideMerge_of_grant]
    · exact kept.trans noted
    · show (((s.cleared src.eye).noted src.eye).observe (s.cleared src.eye)).merge ≠ none
      rw [kept]
      exact stands
  · have none : ((s.cleared src.eye).noted src.eye).merge = none := State.noted_merge_covered (s := s.cleared src.eye) only
    have fresh := State.observe_mergeFresh (before := s.cleared src.eye) still none
    rw [ended]
    exact ⟨State.decideMerge_fresh (State.mergeFresh_congr fresh rfl rfl rfl rfl),
      State.mergeGrantOpen_next.2 (State.decideMerge_idem _)⟩

end

/-- Settles O29: one rack at an eye of the merge, into ACC or onto OFF. -/
theorem mergePassage : Obligations.MergePassage := by
  intro s src n v ends head hv left moved
  have source : (s.cleared src.eye).lanes.sourceHead src.eye = some n := (Lanes.sourceHead_merge _ src).trans head
  have dest := (s.cleared src.eye).destination_merge src
  obtain ⟨_, _, unl, joins, overflows⟩ := Lanes.pop_merge head
  have records (k : RecNo) := State.record_ordinary source k
  have covers := (s.cleared src.eye).covers_merge src
  have record {t : State} (taken : s.EdgeTaken t src.eye ((s.cleared src.eye).reconcile src.eye))
      (same : ((s.cleared src.eye).reconcile src.eye).state.lanes.unl = s.lanes.unl) :
      t.record n = some moved ∧ s.othersKept t n := by
    refine ⟨?_, fun k hk => ?_⟩
    · rw [taken.record, State.seenAtHead_same (by rw [same]), records, if_pos rfl]
      show (s.record n).map _ = _
      rw [hv]
      exact congrArg some (Record.passed_merge v src s.single.fixPoint s.unload.diverter)
    · rw [taken.record, State.seenAtHead_same (by rw [same]), records, if_neg hk]
      rfl
  have admission := State.reconcile_admission (s.cleared src.eye) src.eye
  simp only [src.eye_ne_en, decide_false, Bool.or_false] at admission
  refine ⟨fun room => ?_, fun full idle quiet => ?_⟩
  · have open_ : (s.cleared src.eye).isFull .acc = false := by
      show decide (s.working.accumCap ≤ s.lanes.acc.length) = false
      simpa using room
    obtain ⟨lanes, anomalies, cause⟩ := State.ordinary_joins source dest open_
    have taken := State.edgeTaken (State.passage_passed cause)
    rw [State.unloadSkipped_merge, List.append_nil] at anomalies
    have joined : (((s.cleared src.eye).passage src.eye).endBlockage src.eye).lanes =
        (s.lanes.pop src.eye).join .acc n := taken.lanes.trans lanes
    obtain ⟨new, others⟩ := record taken (by rw [lanes]; exact unl)
    refine ⟨_, exec_clearEdge_rack ends, (joins _ joined).1, (joins _ joined).2, new, others, fun covered => ?_,
      fun bare => ⟨?_, fun present => ?_⟩, fun quiet => ?_, taken.admission.trans admission, taken.sensors, taken.settings, taken.line⟩
    · have edge := taken.edge
      rw [anomalies, ungranted, if_pos (covers.2 covered)] at edge
      exact edge
    · have edge := taken.edge
      rw [anomalies, ungranted, if_neg (mt covers.1 bare)] at edge
      exact edge
    · refine taken.mark ?_ present
      rw [anomalies, ungranted, if_neg (mt covers.1 bare)]
      simp
    · obtain ⟨stands, decided⟩ := merge_decided quiet cause
      exact ⟨stands, decided, State.edge_executorKept cause quiet⟩
  · have closed : (s.cleared src.eye).isFull .acc = true := by
      show decide (s.working.accumCap ≤ s.lanes.acc.length) = true
      simpa using full
    obtain ⟨lanes, anomalies, cause⟩ := State.ordinary_overflows source dest closed
    simp only [src.eye_ne_en, if_false] at lanes anomalies cause
    obtain ⟨held, withdrawn, taken⟩ := State.edge_held cause quiet idle
    have joined : (((s.cleared src.eye).passage src.eye).endBlockage src.eye).lanes =
        (s.lanes.pop src.eye).sendOff n .overflow := taken.lanes.trans lanes
    obtain ⟨new, others⟩ := record taken (by rw [lanes]; exact unl)
    refine ⟨_, exec_clearEdge_rack ends, (overflows _ _ joined).1, (overflows _ _ joined).2, new, others, ?_,
      taken.mark ?_, held, withdrawn, taken.admission.trans admission, taken.sensors, taken.settings, taken.line⟩
    · have edge := taken.edge
      rw [anomalies, Anomaly.after_concat] at edge
      exact edge
    · rw [anomalies]
      simp

end Sys2Proof.Machine
end

section
/-! One rack at UL (R11 to R13, R36 to R38, R42, R43, R124 to R128). -/

namespace Sys2Proof.Machine

/-! ## A new head of UNL (R124 to R126) -/

/-- The diverter turns to where the head calls for (R126). -/
theorem State.setDiverter_matches (s : State) : s.setDiverter.diverterMatchesHead := by
  intro n head v hv
  rw [State.setDiverter_lanes] at head
  rw [State.record_congr s.setDiverter_slots] at hv
  have seen : s.unloadHead = some (n, v) := State.unloadHead_of head hv
  unfold State.setDiverter
  rw [seen]
  cases state : v.state <;> simp [Record.treatment, state]

theorem State.diverterMatchesHead_congr {s t : State} (lanes : t.lanes = s.lanes) (record : ∀ k, t.record k = s.record k)
    (diverter : t.unload.diverter = s.unload.diverter) (h : s.diverterMatchesHead) : t.diverterMatchesHead := by
  unfold State.diverterMatchesHead
  rw [lanes, diverter]
  simpa only [record] using h

/-- A record that has become the head turns the diverter and raises the unload node's mark (R124, R126). -/
theorem State.takeNewHead_new {s before : State} {m : RecNo} (head : s.lanes.unl.head? = some m)
    (new : before.lanes.unl.head? ≠ some m) : (s.takeNewHead before).diverterMatchesHead
      ∧ (s.present .unload = true → (s.takeNewHead before).attention .unload = true) := by
  have form : s.takeNewHead before =
      ((s.updateRecord m fun r => r.rejectedAt s.working.rewashLimit).setDiverter).raiseMark .unload := by
    unfold State.takeNewHead
    rw [head]
    exact if_neg new
  rw [form]
  generalize hu : s.updateRecord m (fun r => r.rejectedAt s.working.rewashLimit) = u
  have marked := u.setDiverter.raiseMark_controlled .unload
  refine ⟨State.diverterMatchesHead_congr marked.lanes marked.record marked.diverter u.setDiverter_matches,
    fun present => ?_⟩
  have here : u.setDiverter.present .unload = true := by
    rw [u.setDiverter_kept.marks.present, ← hu, (s.updateRecord_kept m _).marks.present]
    exact present
  rw [State.attention_raiseMark, here]
  simp

theorem State.takeNewHead_empty {s before : State} (h : s.lanes.unl = []) : s.takeNewHead before = s := by
  unfold State.takeNewHead
  rw [h]
  rfl

/-- At a passage that gives no cause: with no record left on UNL the diverter stands, and a record that has become the head
is seen there. -/
theorem State.passage_newHead {s : State} {e : Eye} (cause : (s.reconcile e).cause = none) {l : Lanes}
    (lanes : (s.reconcile e).state.lanes = l) :
    (l.unl = [] → (s.passage e).unload.diverter = s.unload.diverter)
      ∧ ∀ m ∈ l.unl.head?, s.lanes.unl.head? ≠ some m → (s.passage e).diverterMatchesHead
          ∧ (s.present .unload = true → (s.passage e).attention .unload = true) := by
  have here : (s.noted e).lanes = l := by rw [State.noted_lanes, lanes]
  have seen := (s.noted e).observe_controlled s
  rw [← State.passage_quiet cause] at seen
  refine ⟨fun empty => ?_, fun m hm new => ?_⟩
  · rw [State.takeNewHead_empty (by rw [here]; exact empty)] at seen
    exact seen.diverter.trans (s.noted_diverter e)
  · obtain ⟨turned, marked⟩ := State.takeNewHead_new (s := s.noted e) (before := s) (by rw [here]; exact hm) new
    refine ⟨State.diverterMatchesHead_congr seen.lanes seen.record seen.diverter turned, fun present => ?_⟩
    exact seen.marks.raised .unload (marked (((s.noted_kept e).marks.present .unload).trans present))

theorem State.diverterMatchesHead_endBlockage {t : State} (e : Eye) (h : t.diverterMatchesHead) :
    (t.endBlockage e).diverterMatchesHead :=
  State.diverterMatchesHead_congr (t.endBlockage_lanes e) (t.endBlockage_record e) (t.endBlockage_controlled e).diverter h

/-! ## What UL leads to (R36) -/

section
variable {s : State} {n : RecNo}

theorem State.endPermission_ul (s : State) :
    s.endPermission .ul = { s with unload := { s.unload with release := none } } := rfl

/-- The record after a passage at UL: the column of R11 for its destination. -/
theorem Record.passed_ul (v : Record) (fix : FixPoint) (d : Diverter) : v.passed .ul fix d =
    if d = .toReturn then ⟨.empty, none, false, [], 0, 0, none, 0, false, Reasons.none, 0, false⟩
    else { v with
      state := .loaded, credit := 0, rinseMin := none, rinseSamples := 0, sensorFault := false
      reasons := Reasons.none, rewash := min 7 (v.rewash + 1), fixed := true } := by
  cases d <;> rfl

/-- The head of UNL gone to its destination. -/
theorem Lanes.ul_joins {l : Lanes} {rest : List RecNo} (h : l.unl = n :: rest) (d : Diverter) :
    (l.pop .ul).join d.place n =
      if d = .toReturn then { l with unl := rest, ret := l.ret ++ [n] }
      else { l with unl := rest, spur := l.spur ++ [n] } := by
  cases d <;> simp [Lanes.pop, Lanes.join, Diverter.place, h]

theorem Lanes.ul_overflows {l : Lanes} {rest : List RecNo} (h : l.unl = n :: rest) (r : OffReason) :
    (l.pop .ul).sendOff n r = { l with unl := rest, off := l.off ++ [⟨n, r⟩] } := by
  simp [Lanes.pop, Lanes.sendOff, h]

theorem State.isFull_ul (s : State) (d : Diverter) : s.isFull d.place = true ↔
    if d = .toReturn then s.working.returnCap ≤ s.lanes.ret.length else s.working.spurCap ≤ s.lanes.spur.length := by
  cases d <;> simp [State.isFull, Diverter.place]

/-- The anomalies of an ordinary passage at UL, in the order of R43. -/
theorem State.ul_anomalies {v : Record} (hv : s.record n = some v) :
    ungranted (s.covers .ul) (some n) ++ s.unloadSkipped .ul n =
      (if s.unload.release = none then [(.ungranted, some n)] else [])
        ++ (if s.unload.diverter = .toReturn ∧ v.load ≠ [] then [(.unloadSkipped, some n)] else []) := by
  congr 1
  · cases h : s.unload.release <;> simp [ungranted, State.covers, h]
  · simp [State.unloadSkipped, hv]

end

/-! ## The arbiters and the release at UL (R127, R140, R150) -/

section
variable {s t : State}

theorem State.isBlocked_setEye {s : State} {e d : Eye} {x : Trackpoint} (h : d ≠ e) :
    (s.setEye e x).isBlocked d = s.isBlocked d := by
  simp [State.isBlocked, h]

/-- The end of the blockage at UL is a decision of the release and of nothing else. -/
theorem State.endBlockage_ul (t : State) : ∃ r, t.endBlockage .ul =
    { t.setEye .ul { t.eyes.get .ul with blockage := none } with unload := { t.unload with release := r } } := by
  obtain ⟨r, h⟩ := State.decideRelease_form (t.setEye .ul { t.eyes.get .ul with blockage := none })
  exact ⟨r, h⟩

theorem State.mergeDecided_endBlockage_ul (h : s.mergeDecided t) : s.mergeDecided (t.endBlockage .ul) := by
  obtain ⟨r, form⟩ := t.endBlockage_ul
  rw [form]
  refine ⟨fun none => ⟨State.mergeFresh_congr (h.1 none).1 rfl rfl rfl rfl, State.mergeGrantOpen_next.2 ?_⟩, h.2⟩
  refine State.decideMerge_stable (State.mergeGrantOpen_next.1 (h.1 none).2) rfl rfl (fun m => ?_) rfl rfl
  exact State.isBlocked_setEye m.eye_ne_ul

theorem State.dispatchDecided_endBlockage_ul (h : s.dispatchDecided t) : s.dispatchDecided (t.endBlockage .ul) := by
  obtain ⟨r, form⟩ := t.endBlockage_ul
  rw [form]
  refine ⟨fun none => ⟨(h.1 none).1, State.dispatchGrantOpen_next.2 ?_, (h.1 none).2.2⟩, h.2⟩
  refine State.decideDispatch_stable (State.dispatchGrantOpen_next.1 (h.1 none).2.1) rfl rfl ?_ rfl rfl
  exact State.isBlocked_setEye (e := .ul) (d := .ds) (by simp)

theorem State.merge_endBlockage_ul (t : State) : (t.endBlockage .ul).merge = t.merge := by
  obtain ⟨r, form⟩ := t.endBlockage_ul
  rw [form]
  rfl

theorem State.dispatch_endBlockage_ul (t : State) : (t.endBlockage .ul).dispatch = t.dispatch := by
  obtain ⟨r, form⟩ := t.endBlockage_ul
  rw [form]
  rfl

/-- The passage has ended the release, and what stands after the blockage is for the head as it stands then, with nothing
left to decide (R36, R127). -/
theorem ul_release {s : State} (cause : (s.reconcile .ul).cause = none) :
    ((s.passage .ul).endBlockage .ul).releaseAtHead
      ∧ exec .unloadReleaseOpen ((s.passage .ul).endBlockage .ul) = .next ((s.passage .ul).endBlockage .ul) := by
  obtain ⟨lanes, stood⟩ := (s.noted .ul).observe_releaseFrom s
  rw [← State.passage_quiet cause] at lanes stood
  have passed : (s.passage .ul).releaseAtHead := by
    intro r hr
    rw [lanes]
    refine (stood r hr).resolve_left fun old => ?_
    rw [State.noted_release, State.endPermission_ul] at old
    cases old
  exact ⟨State.decideRelease_atHead passed, State.unloadReleaseOpen_next.2 (State.decideRelease_idem _)⟩

/-- With no drain set, an arbiter has decided at a passage at UL where its input has become non-empty, and else stands. -/
theorem ul_decided (quiet : s.executor.drain = none) (cause : ((s.cleared .ul).reconcile .ul).cause = none) {l : Lanes}
    (lanes : ((s.cleared .ul).reconcile .ul).state.lanes = l) (order : l.finishOrder = s.lanes.finishOrder)
    (acc : l.acc = s.lanes.acc) (lp : l.lp = s.lanes.lp) :
    let t := ((s.cleared .ul).passage .ul).endBlockage .ul
    (s.lanes.spur = [] → l.spur ≠ [] → s.mergeDecided t)
      ∧ ((s.lanes.spur = [] → l.spur = []) → t.merge = s.merge)
      ∧ (s.lanes.ret = [] → l.ret ≠ [] → s.dispatchDecided t)
      ∧ ((s.lanes.ret = [] → l.ret = []) → t.dispatch = s.dispatch) := by
  have still : ((s.cleared .ul).noted .ul).executor.drain = none := by
    rw [State.noted_executor]
    exact quiet
  have here : ((s.cleared .ul).noted .ul).lanes = l := by rw [State.noted_lanes, lanes]
  have merge : ((s.cleared .ul).noted .ul).merge = s.merge := by rw [State.noted_merge]; rfl
  have dispatch : ((s.cleared .ul).noted .ul).dispatch = s.dispatch := by rw [State.noted_dispatch]; rfl
  have claims (x : Station) : ((s.cleared .ul).noted .ul).claimant x = (s.cleared .ul).claimant x :=
    State.claimant_congr ((s.cleared .ul).noted_kept .ul).marks (by rw [here, lp]; rfl) x
  have quietly := State.passage_quiet cause
  refine ⟨fun empty some => ?_, fun same => ?_, fun empty some => ?_, fun same => ?_⟩
  · refine State.mergeDecided_endBlockage_ul ?_
    rw [quietly]
    have due : mergeDue (s.cleared .ul) ((s.cleared .ul).noted .ul) = true :=
      mergeDue_of_spur empty (by rw [here]; exact some)
    have decided := State.observe_mergeDecided still merge due
    exact ⟨decided.1, decided.2⟩
  · rw [State.merge_endBlockage_ul, quietly]
    refine (State.observe_merge_kept still (.inr (mergeDue_false merge ?_ ?_ ?_))).trans merge
    · rw [here]
      exact same
    · rw [here, order]
    · rw [here, acc]
  · refine State.dispatchDecided_endBlockage_ul ?_
    rw [quietly]
    have due : dispatchDue (s.cleared .ul) ((s.cleared .ul).noted .ul) = true :=
      dispatchDue_of_ret empty (by rw [here]; exact some)
    have decided := State.observe_dispatchDecided still dispatch due
    exact ⟨decided.1, decided.2⟩
  · rw [State.dispatch_endBlockage_ul, quietly]
    have due := dispatchDue_false (s := s.cleared .ul) (u := (s.cleared .ul).noted .ul) (by rw [dispatch]; rfl) ?_ fun x h => ?_
    refine (State.observe_dispatch_kept still (.inr due)).trans dispatch
    · rw [here]
      exact same
    · rw [← claims]
      exact h

end

/-- Settles O31: one rack at UL, where the diverter points or onto OFF. -/
theorem unloadPassage : Obligations.UnloadPassage := by
  intro s n rest v ends hunl hv toRet changed full noted
  have source : (s.cleared .ul).lanes.sourceHead .ul = some n := congrArg List.head? hunl
  have dest : (s.cleared .ul).destination .ul = some s.unload.diverter.place := rfl
  have records (k : RecNo) : ((s.cleared .ul).reconcile .ul).state.record k =
      if k = n then some changed else s.record k := by
    rw [State.record_ordinary source]
    show (if k = n then (s.record n).map fun r => r.passed .ul s.single.fixPoint s.unload.diverter else s.record k) = _
    rw [hv, Option.map_some, Record.passed_ul]
  have record {t : State} (taken : s.EdgeTaken t .ul ((s.cleared .ul).reconcile .ul)) (k : RecNo) :
      t.record k = s.seenAtHead t.lanes (fun j => if j = n then some changed else s.record j) k := by
    rw [taken.record, taken.lanes]
    exact State.seenAtHead_congr (records k)
  have fullness : (s.cleared .ul).isFull s.unload.diverter.place = true ↔ full := State.isFull_ul _ _
  have recorded : ungranted ((s.cleared .ul).covers .ul) (some n) ++ (s.cleared .ul).unloadSkipped .ul n = noted :=
    State.ul_anomalies (s := s.cleared .ul) hv
  have admission := State.reconcile_admission (s.cleared .ul) .ul
  simp only [reduceCtorEq, decide_false, Bool.or_false] at admission
  refine ⟨fun room => ?_, fun closed idle quiet => ?_⟩
  · have open_ : (s.cleared .ul).isFull s.unload.diverter.place = false := by
      simpa using mt fullness.1 room
    obtain ⟨lanes, anomalies, cause⟩ := State.ordinary_joins source dest open_
    have taken := State.edgeTaken (State.passage_passed cause)
    have joined := lanes.trans (Lanes.ul_joins hunl s.unload.diverter)
    rw [recorded] at anomalies
    have unl : ((s.cleared .ul).reconcile .ul).state.lanes.unl = rest := by
      rw [joined]
      split <;> rfl
    obtain ⟨stands, newHead⟩ := State.passage_newHead cause joined
    obtain ⟨release, settled⟩ := ul_release cause
    refine ⟨_, exec_clearEdge_rack ends, taken.lanes.trans joined, record taken, ?_, ?_, fun empty => ?_,
      fun m hm new => ?_, fun r hr => ?_, settled, taken.admission.trans admission, taken.sensors, taken.settings,
      taken.line, fun quiet => ⟨State.edge_executorKept cause quiet, ?_⟩⟩
    · rw [← anomalies]
      exact taken.edge
    · rw [← anomalies]
      exact taken.mark
    · exact (State.endBlockage_controlled _ .ul).diverter.trans (stands (by rw [← joined, unl]; exact empty))
    · have other : s.lanes.unl.head? ≠ some m := by
        rw [hunl]
        exact fun h => new (Option.some.inj h).symm
      obtain ⟨turned, marked⟩ := newHead m (by rw [← joined, unl]; exact hm) other
      exact ⟨State.diverterMatchesHead_endBlockage .ul turned,
        fun present => State.endBlockage_attention _ .ul (marked present)⟩
    · obtain ⟨run, head⟩ := release r hr
      rw [taken.lanes, unl] at head
      exact ⟨run, head⟩
    · obtain ⟨spur, merge, ret, dispatch⟩ := ul_decided quiet cause joined (by split <;> rfl) (by split <;> rfl)
        (by split <;> rfl)
      refine ⟨fun other empty => spur empty ?_, fun other => merge fun empty => ?_, fun back empty => ret empty ?_,
        fun other => dispatch fun empty => ?_⟩
      · simp [show s.unload.diverter ≠ .toReturn from other]
      · have back : s.unload.diverter = .toReturn := other.resolve_right (fun some => some empty)
        simpa [back] using empty
      · simp [show s.unload.diverter = .toReturn from back]
      · have away : s.unload.diverter ≠ .toReturn := other.resolve_right (fun some => some empty)
        simpa [away] using empty
  · obtain ⟨lanes, anomalies, cause⟩ := State.ordinary_overflows source dest (fullness.2 closed)
    simp only [reduceCtorEq, if_false] at lanes anomalies cause
    obtain ⟨held, withdrawn, taken⟩ := State.edge_held cause quiet idle
    refine ⟨_, exec_clearEdge_rack ends, (taken.lanes.trans lanes).trans (Lanes.ul_overflows hunl .overflow),
      record taken, ?_, taken.mark ?_, held, withdrawn, taken.admission.trans admission, taken.sensors, taken.settings,
      taken.line⟩
    · have edge := taken.edge
      rw [anomalies, Anomaly.after_concat] at edge
      exact edge
    · rw [anomalies]
      simp

end Sys2Proof.Machine
end

section
/-! A passage with an empty source (R2, R25, R40, R41, R43, R136). -/

namespace Sys2Proof.Machine

section
variable {s : State} {e : Eye}

theorem State.endPermission_slots_lanes (s : State) (e : Eye) :
    (s.endPermission e).slots = s.slots ∧ (s.endPermission e).lanes = s.lanes := by
  obtain ⟨_, _, _, _, h⟩ := s.endPermission_form e
  rw [h]
  exact ⟨rfl, rfl⟩

/-- One rack that raises STOP, with no command pending (R136, R170). -/
theorem State.edge_stopped {c : StopCause} (cause : ((s.cleared e).reconcile e).cause = some (.stop c))
    (idle : s.nonePending) :
    (s.executor.drain = none → s.stopTaken (((s.cleared e).passage e).endBlockage e) .internal
        ∧ (((s.cleared e).passage e).endBlockage e).executor.stopCauses = s.executor.stopCauses.add c)
      ∧ (s.inRun = true → (((s.cleared e).passage e).endBlockage e).permissionsWithdrawn)
      ∧ s.EdgeTaken (((s.cleared e).passage e).endBlockage e) e ((s.cleared e).reconcile e) := by
  obtain ⟨passed, outside, withdrawn⟩ := State.passage_leavesRun cause idle
  refine ⟨fun quiet => ?_, fun run => ?_, State.edgeTaken passed⟩
  · obtain ⟨taken, causes⟩ := State.passage_stopped cause quiet idle
    refine ⟨State.stopTaken_congr (u := s.cleared e) rfl (State.stopTaken_endBlockage e taken), ?_⟩
    rw [State.endBlockage_executor]
    exact causes
  · exact State.endBlockage_withdrawn e outside (withdrawn run)

/-! ## The phantom of a trackpoint, and where it goes (R25, R40) -/

theorem State.covers_cleared (s : State) (e d : Eye) : (s.cleared e).covers d = s.covers d := by
  cases d <;> rfl

theorem phantomRecord_ul (single : SingleSettings) (d : Diverter) : phantomRecord .ul single d =
    if d = .toSpur then ⟨.loaded, none, true, [], single.unknownClass, 0, none, 0, false, Reasons.none, 0, true⟩
    else ⟨.empty, none, true, [], 0, 0, none, 0, false, Reasons.none, 0, false⟩ := by
  cases d <;> rfl

theorem Diverter.place_eq (d : Diverter) : d.place = if d = .toSpur then .spur else .ret := by
  cases d <;> rfl

/-- A phantom changes UNL at EX alone, and the rest of what the arbiters at UL read nowhere but there. -/
theorem Lanes.join_diverter (l : Lanes) (d : Diverter) (m : RecNo) :
    (l.join d.place m).finishOrder = l.finishOrder ∧ (l.join d.place m).acc = l.acc ∧ (l.join d.place m).lp = l.lp := by
  cases d <;> exact ⟨rfl, rfl, rfl⟩

/-- With no drain set, the arbiters have decided where a phantom has made SPUR or RET non-empty (R140, R150). -/
theorem phantom_decided {m : RecNo} (quiet : s.executor.drain = none)
    (cause : ((s.cleared .ul).reconcile .ul).cause = none)
    (lanes : ((s.cleared .ul).reconcile .ul).state.lanes = s.lanes.join s.unload.diverter.place m) :
    (s.unload.diverter = .toSpur → s.lanes.spur = [] →
        s.mergeDecided (((s.cleared .ul).passage .ul).endBlockage .ul))
      ∧ (s.unload.diverter = .toReturn → s.lanes.ret = [] →
        s.dispatchDecided (((s.cleared .ul).passage .ul).endBlockage .ul)) := by
  obtain ⟨order, acc, lp⟩ := s.lanes.join_diverter s.unload.diverter m
  obtain ⟨spur, _, ret, _⟩ := ul_decided quiet cause lanes order acc lp
  refine ⟨fun d empty => spur empty ?_, fun d empty => ret empty ?_⟩
  · simp [d, Diverter.place, Lanes.join]
  · simp [d, Diverter.place, Lanes.join]

end

/-- Settles O33: at DS nothing is created; elsewhere the lowest free slot, or none, decides. -/
theorem phantomPassage : Obligations.PhantomPassage := by
  intro s e ends empty covered noted unknown phantom place
  have source : (s.cleared e).lanes.sourceHead e = none := empty
  have record (h : e ≠ .ds) : phantomRecord e s.single s.unload.diverter = phantom := by
    cases e with
    | ds => exact absurd rfl h
    | ul => exact phantomRecord_ul _ _
    | _ => rfl
  have dest (h : e ≠ .ds) : (s.cleared e).destination e = some place := by
    cases e with
    | ds => exact absurd rfl h
    | ul => exact congrArg some (Diverter.place_eq _)
    | _ => rfl
  have recorded (m : Option RecNo) : ungranted ((s.cleared e).covers e) m = noted m := by
    rw [State.covers_cleared]
    rfl
  have admission := State.reconcile_admission (s.cleared e) e
  refine ⟨fun h => ?_, fun h count room => ?_, fun h count full idle quiet => ?_, fun h count idle => ?_⟩
  · subst h
    have form := State.phantom_ds source
    have cause : ((s.cleared .ds).reconcile .ds).cause = none := by rw [form]
    have anomalies : ((s.cleared .ds).reconcile .ds).anomalies = noted none ++ [(.phantom, none)] := by
      rw [form, recorded]
    have slots : ((s.cleared .ds).reconcile .ds).state.slots = s.slots := by rw [form]; rfl
    have lanes : ((s.cleared .ds).reconcile .ds).state.lanes = s.lanes := by rw [form]; rfl
    have taken := State.edgeTaken (State.passage_passed cause)
    have edge := taken.edge
    rw [anomalies, Anomaly.after_concat] at edge
    exact ⟨_, exec_clearEdge_rack ends, taken.slots slots (by rw [lanes]), taken.lanes.trans lanes, edge,
      taken.mark (by rw [anomalies]; simp), taken.sensors, taken.settings, taken.line, State.edge_executorKept cause⟩
  · obtain ⟨m, free⟩ := State.lowestFree_of_room (s := s.cleared e) count
    obtain ⟨freeSlot, below⟩ := State.lowestFree_some free
    obtain ⟨lanes, anomalies, cause⟩ := State.phantom_joins source h free (dest h) room
    have taken := State.edgeTaken (State.passage_passed cause)
    have edge := taken.edge
    rw [anomalies, Anomaly.after_concat] at edge
    refine ⟨_, exec_clearEdge_rack ends, m, freeSlot, below, taken.lanes.trans lanes, fun k => ?_, edge,
      taken.mark (by rw [anomalies]; simp), taken.admission.trans admission, taken.sensors, taken.settings, taken.line,
      fun quiet => ⟨State.edge_executorKept cause quiet, fun hp => ?_, fun hp => ?_⟩⟩
    · rw [taken.record, taken.lanes]
      refine State.seenAtHead_congr ?_
      rw [State.record_phantom source h free, ← record h]
      rfl
    · cases e with
      | ul =>
        have d : s.unload.diverter = .toSpur := by
          by_contra other
          simp [place, other] at hp
        have joined : place = s.unload.diverter.place := (Diverter.place_eq _).symm
        rw [joined] at lanes
        exact (phantom_decided quiet cause lanes).1 d
      | _ => simp [place] at hp
    · cases e with
      | ul =>
        have d : s.unload.diverter = .toReturn := by
          cases d : s.unload.diverter with
          | toReturn => rfl
          | toSpur => simp [place, d] at hp
        have joined : place = s.unload.diverter.place := (Diverter.place_eq _).symm
        rw [joined] at lanes
        exact (phantom_decided quiet cause lanes).2 d
      | ds => exact absurd rfl h
      | _ => simp [place] at hp
  · obtain ⟨m, free⟩ := State.lowestFree_of_room (s := s.cleared e) count
    obtain ⟨freeSlot, below⟩ := State.lowestFree_some free
    obtain ⟨lanes, anomalies, cause⟩ := State.phantom_overflows source h free (dest h) full
    obtain ⟨held, withdrawn, taken⟩ := State.edge_held cause quiet idle
    have same : ((s.cleared e).reconcile e).state.lanes.unl.head? = s.lanes.unl.head? := by rw [lanes]; rfl
    have records (k : RecNo) : (((s.cleared e).passage e).endBlockage e).record k =
        if k = m then some phantom else s.record k := by
      rw [taken.record, State.seenAtHead_same same, State.record_phantom source h free, ← record h]
      rfl
    have edge := taken.edge
    rw [anomalies, Anomaly.after_concat] at edge
    refine ⟨_, exec_clearEdge_rack ends, m, freeSlot, below, taken.lanes.trans lanes, ?_, fun k hk => ?_, edge, held,
      withdrawn, taken.sensors, taken.settings, taken.line⟩
    · rw [records, if_pos rfl]
    · rw [records, if_neg hk]
  · have full : (s.cleared e).lowestFree = none :=
      State.lowestFree_none.2 (State.allocationCount_full.1 count)
    have form := State.phantom_tableFull source h full
    have cause : ((s.cleared e).reconcile e).cause = some (.stop .tableFull) := by rw [form]
    have anomalies : ((s.cleared e).reconcile e).anomalies = noted none ++ [(.tableFull, none)] := by
      rw [form, recorded]
    obtain ⟨slots, lanes⟩ := (s.cleared e).endPermission_slots_lanes e
    have slots' : ((s.cleared e).reconcile e).state.slots = s.slots := by rw [form]; exact slots
    have lanes' : ((s.cleared e).reconcile e).state.lanes = s.lanes := by rw [form]; exact lanes
    obtain ⟨stopped, withdrawn, taken⟩ := State.edge_stopped cause idle
    refine ⟨_, exec_clearEdge_rack ends, taken.slots slots' (by rw [lanes']), taken.lanes.trans lanes', ?_,
      taken.mark (by rw [anomalies]; simp), stopped, withdrawn, taken.sensors, taken.settings, taken.line⟩
    rw [← anomalies]
    exact taken.edge

end Sys2Proof.Machine
end

section
/-! A blockage longer than RACK_MAX (R60, R63): DOUBLE, and two passages in succession. -/

namespace Sys2Proof.Machine

/-! ## The state between two passages -/

/-- The clear edge taken and DOUBLE recorded, both passages to come (R63). -/
def State.doubled (s : State) (e : Eye) : State := (s.cleared e).recordAnomaly e .double none

section
variable (s : State) (e : Eye)

@[simp] theorem State.doubled_lanes : (s.doubled e).lanes = s.lanes := State.recordAnomaly_lanes _ _ _ _
@[simp] theorem State.doubled_working : (s.doubled e).working = s.working := State.recordAnomaly_working _ _ _ _
@[simp] theorem State.doubled_executor : (s.doubled e).executor = s.executor := State.recordAnomaly_executor _ _ _ _
@[simp] theorem State.doubled_unload : (s.doubled e).unload = s.unload := State.recordAnomaly_unload _ _ _ _
@[simp] theorem State.doubled_dispatch : (s.doubled e).dispatch = s.dispatch := State.recordAnomaly_dispatch _ _ _ _
@[simp] theorem State.doubled_single : (s.doubled e).single = s.single := State.recordAnomaly_single _ _ _ _
@[simp] theorem State.doubled_draws : (s.doubled e).draws = s.draws := State.recordAnomaly_draws _ _ _ _
@[simp] theorem State.record_doubled (k : RecNo) : (s.doubled e).record k = s.record k :=
  State.record_recordAnomaly _ _ _ _ _

theorem State.doubled_edging : s.Edging (s.doubled e) e ⟨.double, none, true⟩ :=
  (State.Edging.start s e).note .double none

theorem State.doubled_mark (present : s.present .panel = true) : (s.doubled e).attention .panel = true :=
  State.recordAnomalies_mark (s.cleared e) e [(.double, none)] (by simp) present

/-- The state after the first passage of two. -/
def State.halved : State := (s.doubled e).passage e

end

/-- What the clear edge of two racks leaves, whatever the permissions and the executor do. -/
structure State.BothTaken (s t : State) (e : Eye) (first second : Landing) : Prop where
  lanes : t.lanes = second.state.lanes
  record : ∀ k, t.record k = (s.halved e).seenAtHead second.state.lanes second.state.record k
  edge : s.edgeCleared t e (Anomaly.after ⟨.double, none, true⟩ (first.anomalies ++ second.anomalies))
  mark : s.present .panel = true → t.attention .panel = true
  raised : ∀ n, first.state.attention n = true → t.attention n = true
  admission : t.tunnel.admissionUsed = second.state.tunnel.admissionUsed
  sensors : s.sensorsKept t
  settings : s.settingsKept t
  line : s.lineKept t

section
variable {s : State} {e : Eye}

/-- What the first passage of two leaves for the second. -/
theorem State.halved_passed (first : ((s.doubled e).reconcile e).cause = none) :
    (s.doubled e).Passed (s.halved e) e ((s.doubled e).reconcile e) :=
  State.passage_passed first

theorem State.halved_edging (first : ((s.doubled e).reconcile e).cause = none) :
    s.Edging (s.halved e) e (Anomaly.after ⟨.double, none, true⟩ ((s.doubled e).reconcile e).anomalies) :=
  (s.doubled_edging e).passage (State.halved_passed first)

theorem State.halved_working (first : ((s.doubled e).reconcile e).cause = none) : (s.halved e).working = s.working :=
  (State.halved_edging first).settings.2.1

theorem State.halved_single (first : ((s.doubled e).reconcile e).cause = none) : (s.halved e).single = s.single :=
  (State.halved_edging first).settings.2.2

theorem State.halved_executorKept (first : ((s.doubled e).reconcile e).cause = none) (quiet : s.executor.drain = none) :
    s.executorKept (s.halved e) := by
  obtain ⟨executor, draws⟩ := State.passage_executorKept first (by rw [State.doubled_executor]; exact quiet)
  exact ⟨executor.trans (s.doubled_executor e), draws.trans (s.doubled_draws e)⟩

/-- Two passages, seen as what they make of the state before the clear edge. -/
theorem State.bothTaken (first : ((s.doubled e).reconcile e).cause = none)
    (second : (s.halved e).Passed ((s.halved e).passage e) e ((s.halved e).reconcile e)) :
    s.BothTaken (((s.halved e).passage e).endBlockage e) e ((s.doubled e).reconcile e) ((s.halved e).reconcile e) := by
  have passed := State.halved_passed first
  obtain ⟨edge, sensors, settings, line⟩ := ((State.halved_edging first).passage second).ended
  rw [Anomaly.after_append] at edge
  have marks := passed.kept.marks.trans second.kept.marks
  exact ⟨(State.endBlockage_lanes _ e).trans second.lanes,
    fun k => (State.endBlockage_record _ e k).trans (second.record k), edge,
    fun present => State.endBlockage_attention _ e (marks.raised .panel (s.doubled_mark e present)),
    fun n raised => State.endBlockage_attention _ e (second.kept.marks.raised n (passed.raised n raised)),
    (State.endBlockage_controlled _ e).admission.trans second.admission, sensors, settings, line⟩

theorem State.both_executorKept (first : ((s.doubled e).reconcile e).cause = none)
    (second : ((s.halved e).reconcile e).cause = none) (quiet : s.executor.drain = none) :
    s.executorKept (((s.halved e).passage e).endBlockage e) := by
  have half := State.halved_executorKept first quiet
  have kept := State.passage_executorKept second (by rw [half.1]; exact quiet)
  rw [State.executorKept, State.endBlockage_executor, State.endBlockage_draws]
  exact ⟨kept.1.trans half.1, kept.2.trans half.2⟩

/-- Two racks of which the second raises HOLD, with no command pending and no drain set. -/
theorem State.both_held {c : HoldCause} (first : ((s.doubled e).reconcile e).cause = none)
    (second : ((s.halved e).reconcile e).cause = some (.hold c)) (quiet : s.executor.drain = none) (idle : s.nonePending) :
    s.heldBy (((s.halved e).passage e).endBlockage e) c
      ∧ (s.inRun = true → (((s.halved e).passage e).endBlockage e).permissionsWithdrawn)
      ∧ s.BothTaken (((s.halved e).passage e).endBlockage e) e ((s.doubled e).reconcile e) ((s.halved e).reconcile e) := by
  have half := State.halved_executorKept first quiet
  obtain ⟨held, outside, withdrawn, passed⟩ := State.passage_held second (by rw [half.1]; exact quiet)
    (by rw [State.nonePending, half.1]; exact idle)
  refine ⟨State.heldBy_congr half.1 (State.halved_edging first).marks.driveCode (State.halved_working first)
    (State.heldBy_endBlockage e held), fun run => State.endBlockage_withdrawn e outside (withdrawn ?_),
    State.bothTaken first passed⟩
  rw [State.inRun, half.1]
  exact run

/-- While the edge is under way, the blockage in progress closes every decision at the trackpoint (R127, R142, R151). -/
theorem State.doubled_isBlocked (ends : s.endsAsDouble e) : (s.doubled e).isBlocked e = true :=
  (s.doubled_edging e).isBlocked (State.isBlocked_of_double ends)

end

/-! ## What a blockage in progress keeps closed -/

section
variable {s : State}

theorem State.decideMerge_notBlocked (s : State) :
    ∀ g ∈ s.decideMerge.merge, s.merge = some g ∨ s.isBlocked g.source.eye = false := by
  intro g hg
  unfold State.decideMerge at hg
  split at hg
  · exact .inl hg
  · split at hg
    · split at hg
      · exact .inl hg
      · rename_i m _ clear
        obtain rfl := (Option.some.inj hg).symm
        exact .inr (by simpa using clear)
    · exact .inl hg

/-- A grant that stands in `t` stood in `s`, or is to a source whose eye is clear. -/
structure State.MergeFrom (s t : State) : Prop where
  eyes : t.eyes = s.eyes
  stood : ∀ g ∈ t.merge, s.merge = some g ∨ s.isBlocked g.source.eye = false

theorem State.MergeFrom.drainTest {t : State} (h : s.MergeFrom t) : s.MergeFrom t.drainTest := by
  refine ⟨t.drainTest_controlled.eyes.trans h.eyes, fun g hg => h.stood g ?_⟩
  rcases t.drainTest_cases with same | ⟨i, form⟩
  · rw [same] at hg
    exact hg
  · rw [form, State.writeOutcome_merge] at hg
    split at hg
    · cases hg
    · exact hg

theorem State.MergeFrom.decideAfter {t : State} (h : s.MergeFrom t) (before : State) :
    s.MergeFrom (t.decideAfter before) := by
  refine ⟨(t.decideAfter_controlled before).eyes.trans h.eyes, fun g hg => ?_⟩
  have rest (u : State) : (if dispatchDue before t then u.decideDispatch else u).merge = u.merge := by
    obtain ⟨d, hd⟩ := u.decideDispatch_form
    rw [hd]
    split <;> rfl
  obtain ⟨r, hr⟩ := t.decideRelease_form
  have released : t.decideRelease.merge = t.merge ∧ t.decideRelease.eyes = t.eyes := by
    rw [hr]
    exact ⟨rfl, rfl⟩
  unfold State.decideAfter at hg
  dsimp only at hg
  rw [rest] at hg
  split at hg
  · rcases t.decideRelease.decideMerge_notBlocked g hg with stood | clear
    · exact h.stood g (released.1 ▸ stood)
    · rw [State.isBlocked, released.2, h.eyes] at clear
      exact .inr clear
  · exact h.stood g (released.1 ▸ hg)

/-- A merge grant after an event stood before it, or is to a source whose eye is clear (R142). -/
theorem State.observe_mergeFrom (s before : State) : s.MergeFrom (s.observe before) := by
  refine State.reacting_keeps (P := s.MergeFrom) (fun t h => ⟨h.eyes, h.stood⟩) (fun t h => h.drainTest)
    (fun t h => h.decideAfter before) ⟨s.seen_eyes before, fun g hg => .inl ?_⟩
  rw [← s.seen_merge before]
  exact hg

/-- No grant covers a second passage at an eye of the merge: the first has ended it, and none opens to a blocked eye. -/
theorem State.passage_notCovered {src : MergeSource} (cause : (s.reconcile src.eye).cause = none)
    (blocked : s.isBlocked src.eye = true) : (s.passage src.eye).covers src.eye = false := by
  by_contra covers
  obtain ⟨g, hg, same⟩ := (State.covers_merge _ src).1 (by simpa using covers)
  rw [State.passage_quiet cause] at hg
  rcases ((s.noted src.eye).observe_mergeFrom s).stood g hg with stood | clear
  · rw [State.noted_merge, State.endPermission_merge] at stood
    split at stood
    · cases stood
    · rename_i bare
      exact bare ((State.covers_merge s src).2 ⟨g, stood, same⟩)
  · rw [State.noted_isBlocked, same, blocked] at clear
    cases clear

/-- The release of a blocked UL, and the grant of a blocked DS, stay ended after an event. -/
structure State.ClosedFrom (s t : State) : Prop where
  eyes : t.eyes = s.eyes
  release : s.isBlocked .ul = true → s.unload.release = none → t.unload.release = none
  dispatch : s.isBlocked .ds = true → s.dispatch.grant = none → t.dispatch = s.dispatch

theorem State.ClosedFrom.drainTest {t : State} (h : s.ClosedFrom t) : s.ClosedFrom t.drainTest := by
  rcases t.drainTest_cases with same | ⟨i, form⟩
  · rw [same]
    exact h
  · refine ⟨t.drainTest_controlled.eyes.trans h.eyes, fun blocked none => ?_, fun blocked none => ?_⟩
    · rw [form, State.writeOutcome_unload]
      split
      · rfl
      · exact h.release blocked none
    · rw [form, State.writeOutcome_dispatch]
      have kept := h.dispatch blocked none
      split
      · show { t.dispatch with grant := Option.none } = s.dispatch
        rw [kept, ← none]
      · exact kept

theorem State.ClosedFrom.decideAfter {t : State} (h : s.ClosedFrom t) (before : State) :
    s.ClosedFrom (t.decideAfter before) := by
  have eyes := (t.decideAfter_controlled before).eyes.trans h.eyes
  refine ⟨eyes, fun blocked none => ?_, fun blocked none => ?_⟩
  · have still : t.decideRelease = t := by
      refine (State.decideRelease_eq_self t).2 (.inl ?_)
      rw [State.isBlocked, h.eyes]
      simpa [State.isBlocked] using .inr blocked
    rw [(t.decideAfter_release before).2, still]
    exact h.release blocked none
  · have kept := h.dispatch blocked none
    obtain ⟨r, hr⟩ := t.decideRelease_form
    obtain ⟨g, hg⟩ : ∃ g, (if mergeDue before t then t.decideRelease.decideMerge else t.decideRelease) =
        { t with unload := { t.unload with release := r }, merge := g } := by
      obtain ⟨g, hg⟩ := t.decideRelease.decideMerge_form
      rw [hg, hr]
      split
      · exact ⟨g, rfl⟩
      · exact ⟨t.merge, rfl⟩
    have still : ({ t with unload := { t.unload with release := r }, merge := g } : State).decideDispatch =
        { t with unload := { t.unload with release := r }, merge := g } := by
      refine (State.decideDispatch_eq_self _).2 (.inl ?_)
      have ds : t.isBlocked .ds = true := by rw [State.isBlocked, h.eyes]; exact blocked
      simp only [Bool.or_eq_true]
      exact .inr ds
    unfold State.decideAfter
    dsimp only
    rw [hg, still]
    split <;> exact kept

theorem State.observe_closedFrom (s before : State) : s.ClosedFrom (s.observe before) :=
  State.reacting_keeps (P := s.ClosedFrom) (fun _ h => ⟨h.eyes, h.release, h.dispatch⟩) (fun _ h => h.drainTest)
    (fun _ h => h.decideAfter before)
    ⟨s.seen_eyes before, fun _ none => (s.seen_release before).trans none, fun _ _ => s.seen_dispatch before⟩

/-- No release covers a second passage at UL (R127). -/
theorem State.passage_unreleased (cause : (s.reconcile .ul).cause = none) (blocked : s.isBlocked .ul = true) :
    (s.passage .ul).unload.release = none := by
  rw [State.passage_quiet cause]
  refine ((s.noted .ul).observe_closedFrom s).release (by rw [State.noted_isBlocked]; exact blocked) ?_
  rw [State.noted_release]
  rfl

/-- The first passage at DS has ended the grant, and none opens while DS is blocked (R151). -/
theorem State.passage_ungranted (cause : (s.reconcile .ds).cause = none) (blocked : s.isBlocked .ds = true) :
    (s.passage .ds).dispatch = { s.dispatch with grant := none } := by
  have noted : (s.noted .ds).dispatch = { s.dispatch with grant := none } := s.noted_dispatch .ds
  rw [State.passage_quiet cause, ← noted]
  exact ((s.noted .ds).observe_closedFrom s).dispatch (by rw [State.noted_isBlocked]; exact blocked) (by rw [noted])

end

end Sys2Proof.Machine
end

section
/-! Two racks in one blockage, trackpoint by trackpoint (R36 to R43, R60, R63, R144). -/

namespace Sys2Proof.Machine

/-! ## The first of two -/

section
variable {s : State} {e : Eye} {n : RecNo} {p : Place}

theorem exec_clearEdge_both (h : s.endsAsDouble e) :
    exec (.clearEdge e) s = .next (((s.halved e).passage e).endBlockage e) := exec_clearEdge_double h

theorem State.isFull_doubled (s : State) (e : Eye) (p : Place) : (s.doubled e).isFull p = s.isFull p := by
  cases p <;> simp [State.isFull]

theorem State.destination_doubled (s : State) (e d : Eye) : (s.doubled e).destination d = s.destination d := by
  cases d <;> simp [State.destination]

theorem State.seenAtHead_doubled (s : State) (e : Eye) (l : Lanes) (r : RecNo → Option Record) (k : RecNo) :
    (s.doubled e).seenAtHead l r k = s.seenAtHead l r k := by
  simp [State.seenAtHead]

/-- The records after an ordinary passage, before a new head is seen. -/
def State.movedRecord (s : State) (e : Eye) (n k : RecNo) : Option Record :=
  if k = n then (s.record n).map fun r => r.passed e s.single.fixPoint s.unload.diverter else s.record k

theorem State.movedRecord_isSome (s : State) (e : Eye) (n k : RecNo) :
    (s.movedRecord e n k).isSome = (s.record k).isSome := by
  unfold State.movedRecord
  split
  · rename_i h
    rw [Option.isSome_map, h]
  · rfl

/-- The first of two racks, with room at its destination. -/
theorem State.halved_joins (head : s.lanes.sourceHead e = some n) (dest : s.destination e = some p)
    (room : s.isFull p = false) :
    ((s.doubled e).reconcile e).cause = none ∧ (s.halved e).lanes = (s.lanes.pop e).join p n
      ∧ (∀ k, (s.halved e).record k = s.seenAtHead ((s.lanes.pop e).join p n) (s.movedRecord e n) k)
      ∧ ((s.doubled e).reconcile e).anomalies = ungranted ((s.doubled e).covers e) (some n)
          ++ (s.doubled e).unloadSkipped e n := by
  have source : (s.doubled e).lanes.sourceHead e = some n := by rw [State.doubled_lanes]; exact head
  obtain ⟨lanes, anomalies, cause⟩ := State.ordinary_joins source ((s.destination_doubled e e).trans dest)
    ((s.isFull_doubled e p).trans room)
  rw [State.doubled_lanes] at lanes
  have passed := State.halved_passed cause
  refine ⟨cause, passed.lanes.trans lanes, fun k => ?_, anomalies⟩
  rw [passed.record, State.seenAtHead_doubled, lanes]
  refine State.seenAtHead_congr ?_
  rw [State.record_ordinary source]
  simp [State.movedRecord]

theorem State.lowestFree_congr {s t : State} (h : ∀ k, (t.record k).isSome = (s.record k).isSome) :
    t.lowestFree = s.lowestFree := by
  have same (k : RecNo) : (t.record k).isNone = (s.record k).isNone := by
    rw [← Option.not_isSome, ← Option.not_isSome, h]
  simp only [State.lowestFree, same]

/-- A first rack that is no phantom takes no slot. -/
theorem State.halved_lowestFree {m : RecNo} {l : Lanes}
    (record : ∀ k, (s.halved e).record k = s.seenAtHead l (s.movedRecord e n) k) (free : s.record m = none)
    (below : ∀ k < m, s.record k ≠ none) : (s.halved e).lowestFree = some m := by
  rw [State.lowestFree_congr (s := s), State.lowestFree_eq free below]
  intro k
  rw [record, State.seenAtHead_isSome, State.movedRecord_isSome]

end

/-! ## Two racks at an eye of the merge -/

section
variable {s : State} {src : MergeSource} {n m : RecNo} {rest : List RecNo}

/-- The place a merge source takes its racks from (R36). -/
def Lanes.queue (l : Lanes) : MergeSource → List RecNo
  | .station x => l.outfeed.get x
  | .spur => l.spur

theorem Lanes.sourceHeadOf_queue (l : Lanes) (src : MergeSource) : l.sourceHeadOf src = (l.queue src).head? := by
  cases src <;> rfl

/-- The next record of the source is its head once the first has joined ACC. -/
theorem Lanes.queue_pop {l : Lanes} (h : l.queue src = n :: rest) (k : RecNo) :
    ((l.pop src.eye).join .acc k).queue src = rest := by
  cases src with
  | spur => exact congrArg List.tail h
  | station x =>
    have head : l.sourceHeadOf (.station x) = some n := by rw [Lanes.sourceHeadOf_queue, h]; rfl
    have same : l.outfeed.get x = n :: rest := h
    rw [MergeSource.eye, Lanes.pop_station head]
    simp [Lanes.queue, Lanes.join, same]

/-- The two heads of a source in ACC, each gone from the finish-order list (R35, R37). -/
theorem Lanes.both_merge {l : Lanes} (h : l.queue src = n :: m :: rest) :
    let q := (((l.pop src.eye).join .acc n).pop src.eye).join .acc m
    q.acc = l.acc ++ [n, m] ∧ q.unl = l.unl
      ∧ (∀ x, src = .station x → q = { l with
          acc := q.acc, outfeed := l.outfeed.set x rest
          finishOrder := l.finishOrder.filter fun k => decide (k ≠ n ∧ k ≠ m) })
      ∧ (src = .spur → q = { l with acc := q.acc, spur := rest }) := by
  cases src with
  | spur =>
    have same : l.spur = n :: m :: rest := h
    have q : ((((l.pop .sp).join .acc n).pop .sp).join .acc m) = { l with acc := l.acc ++ [n, m], spur := rest } := by
      simp [Lanes.pop, Lanes.join, same]
    intro q'
    have form : q' = { l with acc := l.acc ++ [n, m], spur := rest } := q
    rw [form]
    exact ⟨rfl, rfl, fun x hx => (by cases hx), fun _ => rfl⟩
  | station x =>
    have same : l.outfeed.get x = n :: m :: rest := h
    have head : l.sourceHeadOf (.station x) = some n := by rw [Lanes.sourceHeadOf_queue, h]; rfl
    have next : ((l.pop (.outfeed x)).join .acc n).sourceHeadOf (.station x) = some m := by
      rw [Lanes.sourceHeadOf_queue]
      exact congrArg List.head? (Lanes.queue_pop (src := .station x) h n)
    have form : (((l.pop (.outfeed x)).join .acc n).pop (.outfeed x)).join .acc m = { l with
        acc := l.acc ++ [n, m], outfeed := l.outfeed.set x rest
        finishOrder := l.finishOrder.filter fun k => decide (k ≠ n ∧ k ≠ m) } := by
      have order : (l.finishOrder.filter fun k => decide (k ≠ n)).filter (fun k => decide (k ≠ m)) =
          l.finishOrder.filter fun k => decide (k ≠ n ∧ k ≠ m) := by
        rw [List.filter_filter]
        refine List.filter_congr fun k _ => ?_
        simp [Bool.and_comm]
      have twice (v : PerStation (List RecNo)) (a b : List RecNo) : (v.set x a).set x b = v.set x b := by
        cases x <;> rfl
      rw [Lanes.pop_station next, Lanes.pop_station head]
      simp only [Lanes.join, PerStation.get_set, if_pos, twice, order, same, List.tail_cons, List.append_assoc,
        List.cons_append, List.nil_append]
    intro q'
    have form' : q' = _ := form
    rw [form']
    refine ⟨rfl, rfl, fun y hy => ?_, fun hs => (by cases hs)⟩
    obtain rfl : x = y := by simpa using hy
    rfl

/-- The record of a rack that has passed the merge (R19). -/
def Record.merged (fix : FixPoint) (v : Record) : Record := { v with fixed := v.fixed || decide (fix = .merge) }

theorem State.movedRecord_merge (s : State) (src : MergeSource) (n k : RecNo) :
    s.movedRecord src.eye n k = if k = n then (s.record n).map (Record.merged s.single.fixPoint) else s.record k := by
  have same : (fun r : Record => r.passed src.eye s.single.fixPoint s.unload.diverter) =
      Record.merged s.single.fixPoint := funext fun r => r.passed_merge src _ _
  rw [State.movedRecord, same]

/-- The first of two racks at an eye of the merge: in ACC, the grant ended, none open to the blocked eye. -/
theorem halved_merge (ends : s.endsAsDouble src.eye) (head : s.lanes.sourceHeadOf src = some n)
    (room : s.lanes.acc.length < s.working.accumCap) :
    ((s.doubled src.eye).reconcile src.eye).cause = none
      ∧ (s.halved src.eye).lanes = (s.lanes.pop src.eye).join .acc n
      ∧ (∀ k, (s.halved src.eye).record k = s.movedRecord src.eye n k)
      ∧ (s.halved src.eye).covers src.eye = false ∧ (s.halved src.eye).lanes.acc = s.lanes.acc ++ [n] := by
  have open_ : s.isFull .acc = false := by simpa [State.isFull] using room
  obtain ⟨cause, lanes, record, _⟩ := State.halved_joins ((Lanes.sourceHead_merge _ src).trans head)
    (s.destination_merge src) open_
  obtain ⟨_, acc, unl, _, _⟩ := Lanes.pop_merge head
  refine ⟨cause, lanes, fun k => (record k).trans (State.seenAtHead_same ?_ k),
    State.passage_notCovered cause (State.doubled_isBlocked ends), ?_⟩
  · exact congrArg List.head? unl
  · rw [lanes]
    show (s.lanes.pop src.eye).acc ++ [n] = _
    rw [acc]

/-- With room for two, the second rack of a merge source finds room in ACC. -/
theorem halved_merge_room {t : State} (room : s.lanes.acc.length + 2 ≤ s.working.accumCap)
    (acc : t.lanes.acc = s.lanes.acc ++ [n]) (working : t.working = s.working) : t.isFull .acc = false := by
  have shorter : s.lanes.acc.length + 1 < s.working.accumCap := room
  simpa [State.isFull, acc, working] using shorter

/-- Two racks at an eye of the merge, both of its source (R35 to R38, R63, R144). -/
theorem doubleAtMerge (ends : s.endsAsDouble src.eye) (other : n ≠ m) (queue : s.lanes.queue src = n :: m :: rest)
    (room : s.lanes.acc.length + 2 ≤ s.working.accumCap) :
    ∃ t, exec (.clearEdge src.eye) s = .next t
      ∧ t.lanes.acc = s.lanes.acc ++ [n, m]
      ∧ (∀ x, src = .station x → t.lanes = { s.lanes with
          acc := t.lanes.acc
          outfeed := s.lanes.outfeed.set x rest
          finishOrder := s.lanes.finishOrder.filter fun k => decide (k ≠ n ∧ k ≠ m) })
      ∧ (src = .spur → t.lanes = { s.lanes with acc := t.lanes.acc, spur := rest })
      ∧ s.edgeCleared t src.eye ⟨.ungranted, some m, true⟩ ∧ (s.present .panel = true → t.attention .panel = true)
      ∧ (∀ k, k ≠ n → k ≠ m → t.record k = s.record k)
      ∧ (∀ k, (k = n ∨ k = m) → t.record k = (s.record k).map fun v =>
          { v with fixed := v.fixed || decide (s.single.fixPoint = .merge) })
      ∧ s.sensorsKept t ∧ s.settingsKept t ∧ s.lineKept t ∧ (s.executor.drain = none → s.executorKept t) := by
  have head : s.lanes.sourceHeadOf src = some n := by rw [Lanes.sourceHeadOf_queue, queue]; rfl
  obtain ⟨first, lanes, record, covers, acc⟩ := halved_merge ends head (by omega)
  have source : (s.halved src.eye).lanes.sourceHead src.eye = some m := by
    rw [lanes, Lanes.sourceHead_merge, Lanes.sourceHeadOf_queue, Lanes.queue_pop queue]
    rfl
  obtain ⟨joined, anomalies, second⟩ := State.ordinary_joins source ((s.halved src.eye).destination_merge src)
    (halved_merge_room room acc (State.halved_working first))
  rw [lanes] at joined
  obtain ⟨both, unl, station, spur⟩ := Lanes.both_merge queue
  obtain ⟨_, _, popped, _, _⟩ := Lanes.pop_merge head
  have taken := State.bothTaken first (State.passage_passed second)
  have final := taken.lanes.trans joined
  have edge := taken.edge
  rw [anomalies, State.unloadSkipped_merge, List.append_nil, ungranted, covers, if_neg (by simp),
    Anomaly.after_concat] at edge
  have records (k : RecNo) : (((s.halved src.eye).passage src.eye).endBlockage src.eye).record k =
      if k = m then (s.movedRecord src.eye n m).map (Record.merged s.single.fixPoint) else s.movedRecord src.eye n k := by
    have same : ((s.halved src.eye).reconcile src.eye).state.lanes.unl.head? = (s.halved src.eye).lanes.unl.head? := by
      rw [joined, unl, lanes]
      exact (congrArg List.head? popped).symm
    rw [taken.record, State.seenAtHead_same same, State.record_ordinary source]
    show (s.halved src.eye).movedRecord src.eye m k = _
    rw [State.movedRecord_merge, State.halved_single first, record, record]
  refine ⟨_, exec_clearEdge_both ends, by rw [final]; exact both, fun x hx => ?_, fun hx => ?_, edge, taken.mark,
    fun k hn hm => ?_, fun k hk => ?_, taken.sensors, taken.settings, taken.line,
    State.both_executorKept first second⟩
  · rw [final]
    exact station x hx
  · rw [final]
    exact spur hx
  · rw [records, if_neg hm, State.movedRecord_merge, if_neg hn]
  · rw [records]
    rcases hk with rfl | rfl
    · rw [if_neg other, State.movedRecord_merge, if_pos rfl]
      rfl
    · rw [if_pos rfl, State.movedRecord_merge, if_neg other.symm]
      rfl

/-- A second rack at an eye of the merge whose source is empty: a phantom in ACC (R25, R40). -/
theorem phantomAtMerge (free : s.record m = none) (below : ∀ k < m, s.record k ≠ none) (other : n ≠ m)
    (ends : s.endsAsDouble src.eye) (queue : s.lanes.queue src = [n])
    (room : s.lanes.acc.length + 2 ≤ s.working.accumCap) :
    ∃ t, exec (.clearEdge src.eye) s = .next t
      ∧ t.lanes.acc = s.lanes.acc ++ [n, m] ∧ t.lanes.off = s.lanes.off
      ∧ t.record n = (s.record n).map (fun v => { v with fixed := v.fixed || decide (s.single.fixPoint = .merge) })
      ∧ t.record m = some ⟨.loaded, none, true, [], s.single.unknownClass, 0, none, 0, false, Reasons.none, 0,
          decide (s.single.fixPoint = .merge)⟩
      ∧ s.edgeCleared t src.eye ⟨.phantom, some m, true⟩
      ∧ s.sensorsKept t ∧ s.settingsKept t ∧ s.lineKept t ∧ (s.executor.drain = none → s.executorKept t) := by
  have head : s.lanes.sourceHeadOf src = some n := by rw [Lanes.sourceHeadOf_queue, queue]; rfl
  obtain ⟨first, lanes, record, _, acc⟩ := halved_merge ends head (by omega)
  obtain ⟨_, _, _, joins, _⟩ := Lanes.pop_merge head
  have source : (s.halved src.eye).lanes.sourceHead src.eye = none := by
    rw [lanes, Lanes.sourceHead_merge, Lanes.sourceHeadOf_queue, Lanes.queue_pop queue]
    rfl
  have lowest : (s.halved src.eye).lowestFree = some m := by
    rw [State.lowestFree_congr (s := s), State.lowestFree_eq free below]
    intro k
    rw [record, State.movedRecord_isSome]
  obtain ⟨joined, anomalies, second⟩ := State.phantom_joins source src.eye_ne_ds lowest
    ((s.halved src.eye).destination_merge src) (halved_merge_room room acc (State.halved_working first))
  have taken := State.bothTaken first (State.passage_passed second)
  have edge := taken.edge
  rw [anomalies, ← List.append_assoc, Anomaly.after_concat] at edge
  have records (k : RecNo) := taken.record k
  simp only [State.seenAtHead_same (congrArg (fun l => l.unl.head?) joined),
    State.record_phantom source src.eye_ne_ds lowest] at records
  refine ⟨_, exec_clearEdge_both ends, ?_, ?_, ?_, ?_, edge, taken.sensors, taken.settings, taken.line,
    State.both_executorKept first second⟩
  · rw [taken.lanes, joined]
    show (s.halved src.eye).lanes.acc ++ [m] = _
    rw [acc, List.append_assoc]
    rfl
  · rw [taken.lanes, joined]
    show (s.halved src.eye).lanes.off = _
    rw [lanes]
    have off := congrArg Lanes.off (joins _ rfl).2
    exact off
  · rw [records, if_neg other, record, State.movedRecord_merge, if_pos rfl]
    rfl
  · rw [records, if_pos rfl, State.halved_single first]
    cases src <;> rfl

end

end Sys2Proof.Machine
end

section
/-! Two racks in one blockage at EN, EX and DS (R37 to R42, R63). -/

namespace Sys2Proof.Machine

section
variable {s : State} {n m : RecNo} {rest : List RecNo}

/-! ## EN -/

/-- The first of two racks at EN: in cell 0, IN_WASH and fixed, and cell 0 is full for the second. -/
theorem halved_en (head : s.lanes.acc.head? = some n) (room : s.lanes.cells.head? = some none) :
    ((s.doubled .en).reconcile .en).cause = none
      ∧ (s.halved .en).lanes = { s.lanes with acc := s.lanes.acc.tail, cells := s.lanes.cells.set 0 (some n) }
      ∧ (∀ k, (s.halved .en).record k =
          if k = n then (s.record n).map fun v => { v with state := .inWash, fixed := true } else s.record k)
      ∧ (s.halved .en).isFull .tun = true := by
  have open_ : s.isFull .tun = false := by simp [State.isFull, Lanes.cellZeroEmpty, room]
  obtain ⟨cause, lanes, record, _⟩ := State.halved_joins (e := .en) (p := .tun) head rfl open_
  refine ⟨cause, lanes, fun k => (record k).trans (State.seenAtHead_same rfl k), ?_⟩
  have taken : (s.lanes.cells.set 0 (some n)).head? ≠ some none := by
    cases h : s.lanes.cells with
    | nil => simp
    | cons c cells => simp
  have cells : (s.halved .en).lanes.cells = s.lanes.cells.set 0 (some n) := by
    rw [lanes]
    rfl
  rw [State.isFull, Lanes.cellZeroEmpty, cells]
  simpa using taken

/-- Two racks at EN: the second finds cell 0 taken (R42). -/
theorem doubleAtEntry {v w : Record} (ends : s.endsAsDouble .en) (other : n ≠ m) (acc : s.lanes.acc = n :: m :: rest)
    (room : s.lanes.cells.head? = some none) (hv : s.record n = some v) (hw : s.record m = some w) (idle : s.nonePending)
    (quiet : s.executor.drain = none) : ∃ t, exec (.clearEdge .en) s = .next t
      ∧ t.lanes = { s.lanes with
          acc := rest, cells := s.lanes.cells.set 0 (some n), off := s.lanes.off ++ [⟨m, .entryDouble⟩] }
      ∧ t.record n = some { v with state := .inWash, fixed := true }
      ∧ t.record m = some { w with state := .inWash, fixed := true }
      ∧ (∀ k, k ≠ n → k ≠ m → t.record k = s.record k) ∧ t.tunnel.admissionUsed = true
      ∧ s.edgeCleared t .en ⟨.entryDouble, some m, true⟩ ∧ (s.present .panel = true → t.attention .panel = true)
      ∧ s.heldBy t .entryDouble ∧ (s.inRun = true → t.permissionsWithdrawn)
      ∧ s.sensorsKept t ∧ s.settingsKept t ∧ s.lineKept t := by
  obtain ⟨first, lanes, record, full⟩ := halved_en (s := s) (n := n) (by rw [acc]; rfl) room
  have source : (s.halved .en).lanes.sourceHead .en = some m := by
    rw [lanes]
    show s.lanes.acc.tail.head? = some m
    rw [acc]
    rfl
  obtain ⟨joined, anomalies, second⟩ := State.ordinary_overflows source rfl full
  simp only [if_pos] at joined anomalies second
  obtain ⟨held, withdrawn, taken⟩ := State.both_held first second quiet idle
  have edge := taken.edge
  rw [anomalies, ← List.append_assoc, Anomaly.after_concat] at edge
  have records (k : RecNo) : (((s.halved .en).passage .en).endBlockage .en).record k = if k = m then
      ((s.halved .en).record m).map fun v => { v with state := .inWash, fixed := true } else (s.halved .en).record k := by
    rw [taken.record, State.seenAtHead_same (by rw [joined]; rfl), State.record_ordinary source]
    rfl
  refine ⟨_, exec_clearEdge_both ends, ?_, ?_, ?_, fun k hn hm => ?_, ?_, edge, taken.mark, held, withdrawn, taken.sensors,
    taken.settings, taken.line⟩
  · rw [taken.lanes, joined, lanes, acc]
    rfl
  · rw [records, if_neg other, record, if_pos rfl, hv]
    rfl
  · rw [records, if_pos rfl, record, if_neg other.symm, hw]
    rfl
  · rw [records, if_neg hm, record, if_neg hn]
  · rw [taken.admission, State.reconcile_admission]
    simp

/-- A second rack at EN with ACC empty: a phantom that finds cell 0 taken (R25, R42). -/
theorem phantomAtEntry (free : s.record m = none) (below : ∀ k < m, s.record k ≠ none) (other : n ≠ m)
    (ends : s.endsAsDouble .en) (acc : s.lanes.acc = [n]) (room : s.lanes.cells.head? = some none) (idle : s.nonePending)
    (quiet : s.executor.drain = none) : ∃ t, exec (.clearEdge .en) s = .next t
      ∧ t.lanes = { s.lanes with
          acc := [], cells := s.lanes.cells.set 0 (some n), off := s.lanes.off ++ [⟨m, .entryDouble⟩] }
      ∧ t.record n = (s.record n).map (fun v => { v with state := .inWash, fixed := true })
      ∧ t.record m = some ⟨.inWash, none, true, [], s.single.unknownClass, 0, none, 0, false, Reasons.none, 0, true⟩
      ∧ s.edgeCleared t .en ⟨.entryDouble, some m, true⟩
      ∧ s.heldBy t .entryDouble ∧ (s.inRun = true → t.permissionsWithdrawn)
      ∧ s.sensorsKept t ∧ s.settingsKept t ∧ s.lineKept t := by
  obtain ⟨first, lanes, record, full⟩ := halved_en (s := s) (n := n) (by rw [acc]; rfl) room
  have source : (s.halved .en).lanes.sourceHead .en = none := by
    rw [lanes]
    show s.lanes.acc.tail.head? = none
    rw [acc]
    rfl
  have lowest : (s.halved .en).lowestFree = some m := by
    rw [State.lowestFree_congr (s := s), State.lowestFree_eq free below]
    intro k
    rw [record]
    split
    · rename_i h
      rw [Option.isSome_map, h]
    · rfl
  obtain ⟨joined, anomalies, second⟩ := State.phantom_overflows source (by simp) lowest rfl full
  simp only [if_pos] at joined anomalies second
  obtain ⟨held, withdrawn, taken⟩ := State.both_held first second quiet idle
  have edge := taken.edge
  rw [anomalies, ← List.append_assoc, Anomaly.after_concat] at edge
  have records (k : RecNo) : (((s.halved .en).passage .en).endBlockage .en).record k = if k = m then
      some (phantomRecord .en (s.halved .en).single (s.halved .en).unload.diverter) else (s.halved .en).record k := by
    rw [taken.record, State.seenAtHead_same (by rw [joined]; rfl), State.record_phantom source (by simp) lowest]
  refine ⟨_, exec_clearEdge_both ends, ?_, ?_, ?_, edge, held, withdrawn, taken.sensors, taken.settings, taken.line⟩
  · rw [taken.lanes, joined, lanes, acc]
    rfl
  · rw [records, if_neg other, record, if_pos rfl]
  · rw [records, if_pos rfl, State.halved_single first]
    rfl

/-! ## EX -/

/-- At EX and DS a record keeps its fields (R37). -/
theorem State.movedRecord_same {e : Eye} (h : e = .ex ∨ e = .ds) (k : RecNo) : s.movedRecord e n k = s.record k := by
  have same : (fun r : Record => r.passed e s.single.fixPoint s.unload.diverter) = fun r => r := by
    rcases h with rfl | rfl <;> rfl
  unfold State.movedRecord
  split
  · rename_i k
    rw [same, Option.map_id', k]
  · rfl

/-- Which record is seen as a new head is told by the head alone. -/
theorem State.seenAtHead_head {l q : Lanes} (h : l.unl.head? = q.unl.head?) (r : RecNo → Option Record) (k : RecNo) :
    s.seenAtHead l r k = s.seenAtHead q r k := by
  simp only [State.seenAtHead, h]

/-- The first of two racks at EX: on UNL, its record as it was but for the rejection check. -/
theorem halved_ex {x : XtEntry} {xt : List XtEntry} (hxt : s.lanes.xt = x :: xt)
    (room : s.lanes.unl.length < s.working.unloadCap) :
    ((s.doubled .ex).reconcile .ex).cause = none
      ∧ (s.halved .ex).lanes = { s.lanes with xt := xt, unl := s.lanes.unl ++ [x.rack] }
      ∧ (∀ k, (s.halved .ex).record k = s.seenAtHead (s.halved .ex).lanes s.record k)
      ∧ ((s.doubled .ex).reconcile .ex).anomalies = [] := by
  have head : s.lanes.sourceHead .ex = some x.rack := by
    show s.lanes.xt.head?.map _ = _
    rw [hxt]
    rfl
  have open_ : s.isFull .unl = false := by simpa [State.isFull] using room
  obtain ⟨cause, lanes, record, anomalies⟩ := State.halved_joins (p := .unl) head rfl open_
  have moved : s.movedRecord .ex x.rack = s.record := funext fun k => State.movedRecord_same (.inl rfl) k
  refine ⟨cause, lanes.trans ?_, fun k => ?_, anomalies.trans ?_⟩
  · show ({ s.lanes with xt := s.lanes.xt.tail, unl := s.lanes.unl ++ [x.rack] } : Lanes) = _
    rw [hxt]
    rfl
  · rw [record, moved, lanes]
  · simp [ungranted, State.covers, State.unloadSkipped]

/-- The second rack of two at EX finds the head of UNL that the first has left there. -/
theorem head?_append_two {l : List RecNo} : (l ++ [n, m]).head? = (l ++ [n]).head? := by
  cases l <;> rfl

theorem halved_ex_room {t : State} (room : s.lanes.unl.length + 2 ≤ s.working.unloadCap)
    (unl : t.lanes.unl = s.lanes.unl ++ [n]) (working : t.working = s.working) : t.isFull .unl = false := by
  have shorter : s.lanes.unl.length + 1 < s.working.unloadCap := room
  simpa [State.isFull, unl, working] using shorter

/-- Two racks at EX, both onto UNL; a passage at EX needs no permission (R36, R124, R125). -/
theorem doubleAtExit {x y : XtEntry} {xt : List XtEntry} (ends : s.endsAsDouble .ex) (hxt : s.lanes.xt = x :: y :: xt)
    (room : s.lanes.unl.length + 2 ≤ s.working.unloadCap) : ∃ t, exec (.clearEdge .ex) s = .next t
      ∧ t.lanes = { s.lanes with xt := xt, unl := s.lanes.unl ++ [x.rack, y.rack] }
      ∧ (∀ k, t.record k = s.seenAtHead t.lanes s.record k)
      ∧ s.edgeCleared t .ex ⟨.double, none, true⟩ ∧ (s.present .panel = true → t.attention .panel = true)
      ∧ s.sensorsKept t ∧ s.settingsKept t ∧ s.lineKept t ∧ (s.executor.drain = none → s.executorKept t) := by
  obtain ⟨first, lanes, record, quietly⟩ := halved_ex hxt (by omega)
  have source : (s.halved .ex).lanes.sourceHead .ex = some y.rack := by rw [lanes]; rfl
  obtain ⟨joined, anomalies, second⟩ := State.ordinary_joins (p := .unl) source rfl
    (halved_ex_room (n := x.rack) room (by rw [lanes]) (State.halved_working first))
  have taken := State.bothTaken first (State.passage_passed second)
  have final : (((s.halved .ex).passage .ex).endBlockage .ex).lanes =
      { s.lanes with xt := xt, unl := s.lanes.unl ++ [x.rack, y.rack] } := by
    rw [taken.lanes, joined, lanes]
    simp [Lanes.pop, Lanes.join]
  have edge := taken.edge
  rw [quietly, anomalies] at edge
  refine ⟨_, exec_clearEdge_both ends, final, fun k => ?_, edge, taken.mark, taken.sensors, taken.settings, taken.line,
    State.both_executorKept first second⟩
  have kept : ((s.halved .ex).reconcile .ex).state.record k = (s.halved .ex).record k :=
    (State.record_ordinary source k).trans (State.movedRecord_same (.inl rfl) k)
  rw [taken.record, State.seenAtHead_same, kept, record]
  · refine State.seenAtHead_head ?_ _ _
    rw [final, lanes]
    exact head?_append_two.symm
  · rw [← taken.lanes, final, lanes]
    exact head?_append_two

/-- A second rack at EX with XT empty: a phantom on UNL (R25, R40). -/
theorem phantomAtExit (free : s.record m = none) (below : ∀ k < m, s.record k ≠ none) (other : n ≠ m)
    (ends : s.endsAsDouble .ex) (hxt : s.lanes.xt.map (·.rack) = [n])
    (room : s.lanes.unl.length + 2 ≤ s.working.unloadCap) :
    ∃ t, exec (.clearEdge .ex) s = .next t
      ∧ t.lanes = { s.lanes with xt := [], unl := s.lanes.unl ++ [n, m] }
      ∧ t.record n = s.seenAtHead t.lanes s.record n
      ∧ t.record m = some ⟨.short, none, true, [], s.single.unknownClass, 0, none, 0, false,
          ⟨true, true, false, false, false⟩, 0, true⟩
      ∧ s.edgeCleared t .ex ⟨.phantom, some m, true⟩
      ∧ s.sensorsKept t ∧ s.settingsKept t ∧ s.lineKept t ∧ (s.executor.drain = none → s.executorKept t) := by
  obtain ⟨x, one, rfl⟩ : ∃ x, s.lanes.xt = [x] ∧ x.rack = n := by
    cases h : s.lanes.xt with
    | nil => simp [h] at hxt
    | cons x xt =>
      rw [h, List.map_cons, List.cons.injEq, List.map_eq_nil_iff] at hxt
      exact ⟨x, by rw [hxt.2], hxt.1⟩
  obtain ⟨first, lanes, record, quietly⟩ := halved_ex one (by omega)
  have source : (s.halved .ex).lanes.sourceHead .ex = none := by rw [lanes]; rfl
  have lowest : (s.halved .ex).lowestFree = some m := by
    rw [State.lowestFree_congr (s := s), State.lowestFree_eq free below]
    intro k
    rw [record, State.seenAtHead_isSome]
  obtain ⟨joined, anomalies, second⟩ := State.phantom_joins (p := .unl) source (by simp) lowest rfl
    (halved_ex_room (n := x.rack) room (by rw [lanes]) (State.halved_working first))
  have taken := State.bothTaken first (State.passage_passed second)
  have final : (((s.halved .ex).passage .ex).endBlockage .ex).lanes =
      { s.lanes with xt := [], unl := s.lanes.unl ++ [x.rack, m] } := by
    rw [taken.lanes, joined, lanes]
    simp [Lanes.join]
  have edge := taken.edge
  rw [anomalies, ← List.append_assoc, Anomaly.after_concat] at edge
  have same : ((s.halved .ex).reconcile .ex).state.lanes.unl.head? = (s.halved .ex).lanes.unl.head? := by
    rw [← taken.lanes, final, lanes]
    exact head?_append_two
  refine ⟨_, exec_clearEdge_both ends, final, ?_, ?_, edge, taken.sensors, taken.settings, taken.line,
    State.both_executorKept first second⟩
  · rw [taken.record, State.seenAtHead_same same, State.record_phantom source (by simp) lowest, if_neg other, record]
    refine State.seenAtHead_head ?_ _ _
    rw [final, lanes]
    exact head?_append_two.symm
  · rw [taken.record, State.seenAtHead_same same, State.record_phantom source (by simp) lowest, if_pos rfl,
      State.halved_single first]
    rfl

/-! ## DS -/

/-- A delivery by DS raises the station's mark (R154). -/
theorem State.ordinary_delivered {x : Station} (head : s.lanes.sourceHead .ds = some n)
    (dest : s.destination .ds = some (.lp x)) (room : s.isFull (.lp x) = false) (present : s.present (.station x) = true) :
    (s.reconcile .ds).state.attention (.station x) = true := by
  rw [State.reconcile_ordinary head, State.ordinaryPassage_eq, dest]
  refine State.land_delivered _ n x ((State.isFull_pop dest (s.moving_lanes .ds n) (s.moving_working .ds n)).trans room) ?_
  rw [State.moving, (State.updateRecord_kept _ n _).marks.present]
  exact present

/-- The first of two racks at DS: delivered, the grant ended, the last target standing. -/
theorem halved_ds {x : Station} (ends : s.endsAsDouble .ds) (ret : s.lanes.ret = n :: rest)
    (room : s.lanes.lp.get x = none) (last : s.dispatch.lastTarget = some x) (target : ∀ g ∈ s.dispatch.grant, g.target = x) :
    ((s.doubled .ds).reconcile .ds).cause = none
      ∧ (s.halved .ds).lanes = { s.lanes with ret := rest, lp := s.lanes.lp.set x (some n) }
      ∧ (∀ k, (s.halved .ds).record k = s.record k) ∧ (s.halved .ds).destination .ds = some (.lp x)
      ∧ (s.present (.station x) = true → ((s.doubled .ds).reconcile .ds).state.attention (.station x) = true) := by
  have head : s.lanes.sourceHead .ds = some n := congrArg List.head? ret
  have toward : s.dispatch.deliversTo = some x := by
    unfold Dispatch.deliversTo
    cases h : s.dispatch.grant with
    | none => exact last
    | some g => exact congrArg some (target g h)
  have dest : s.destination .ds = some (.lp x) := by
    show s.dispatch.deliversTo.map Sys2Proof.Place.lp = _
    rw [toward]
    rfl
  have open_ : s.isFull (.lp x) = false := by simp [State.isFull, room]
  obtain ⟨cause, lanes, record, _⟩ := State.halved_joins head dest open_
  have dispatch : (s.halved .ds).dispatch = { s.dispatch with grant := none } := by
    have ended := State.passage_ungranted cause (State.doubled_isBlocked ends)
    rw [State.doubled_dispatch] at ended
    exact ended
  refine ⟨cause, lanes.trans ?_, fun k => (record k).trans ((State.seenAtHead_same rfl k).trans
    (State.movedRecord_same (.inr rfl) k)), ?_, fun present => ?_⟩
  · show ({ s.lanes with ret := s.lanes.ret.tail, lp := s.lanes.lp.set x (some n) } : Lanes) = _
    rw [ret]
    rfl
  · show (s.halved .ds).dispatch.deliversTo.map Sys2Proof.Place.lp = _
    rw [dispatch]
    show s.dispatch.lastTarget.map Sys2Proof.Place.lp = _
    rw [last]
    rfl
  · refine State.ordinary_delivered (by rw [State.doubled_lanes]; exact head) ((s.destination_doubled .ds .ds).trans dest)
      ((s.isFull_doubled .ds _).trans open_) ?_
    rw [(s.doubled_edging .ds).marks.present]
    exact present

/-- Two racks at DS: the second finds the loading position taken by the first (R39, R42). -/
theorem doubleAtDispatch {x : Station} (ends : s.endsAsDouble .ds) (ret : s.lanes.ret = n :: rest)
    (room : s.lanes.lp.get x = none) (last : s.dispatch.lastTarget = some x) (target : ∀ g ∈ s.dispatch.grant, g.target = x)
    (idle : s.nonePending) (quiet : s.executor.drain = none) (hm : m ∈ rest.head?) :
    ∃ t, exec (.clearEdge .ds) s = .next t
      ∧ t.slots = s.slots ∧ (s.present (.station x) = true → t.attention (.station x) = true)
      ∧ (s.present .panel = true → t.attention .panel = true) ∧ s.sensorsKept t ∧ s.settingsKept t ∧ s.lineKept t
      ∧ t.lanes = { s.lanes with
          lp := s.lanes.lp.set x (some n), ret := rest.tail, off := s.lanes.off ++ [⟨m, .overflow⟩] }
      ∧ s.edgeCleared t .ds ⟨.overflow, some m, true⟩
      ∧ s.heldBy t .overflow ∧ (s.inRun = true → t.permissionsWithdrawn) := by
  obtain ⟨first, lanes, record, dest, delivered⟩ := halved_ds ends ret room last target
  have source : (s.halved .ds).lanes.sourceHead .ds = some m := by
    rw [lanes]
    exact hm
  have full : (s.halved .ds).isFull (.lp x) = true := by simp [State.isFull, lanes]
  obtain ⟨joined, anomalies, second⟩ := State.ordinary_overflows source dest full
  simp only [reduceCtorEq, if_false] at joined anomalies second
  obtain ⟨held, withdrawn, taken⟩ := State.both_held first second quiet idle
  have edge := taken.edge
  rw [anomalies, ← List.append_assoc, Anomaly.after_concat] at edge
  refine ⟨_, exec_clearEdge_both ends, State.slots_of_record fun k => ?_, fun present => taken.raised _ (delivered present),
    taken.mark, taken.sensors, taken.settings, taken.line, ?_, edge, held, withdrawn⟩
  · have kept : ((s.halved .ds).reconcile .ds).state.record k = (s.halved .ds).record k :=
      (State.record_ordinary source k).trans (State.movedRecord_same (.inr rfl) k)
    rw [taken.record, State.seenAtHead_same (by rw [joined]; rfl), kept, record]
  · rw [taken.lanes, joined, lanes]
    rfl

/-- A second rack at DS with RET empty: nothing is created (R41). -/
theorem phantomAtDispatch {x : Station} (ends : s.endsAsDouble .ds) (ret : s.lanes.ret = [n])
    (room : s.lanes.lp.get x = none) (last : s.dispatch.lastTarget = some x) (target : ∀ g ∈ s.dispatch.grant, g.target = x)
    (quiet : s.executor.drain = none) : ∃ t, exec (.clearEdge .ds) s = .next t
      ∧ t.slots = s.slots ∧ (s.present (.station x) = true → t.attention (.station x) = true)
      ∧ (s.present .panel = true → t.attention .panel = true) ∧ s.sensorsKept t ∧ s.settingsKept t ∧ s.lineKept t
      ∧ t.lanes = { s.lanes with lp := s.lanes.lp.set x (some n), ret := [] }
      ∧ s.edgeCleared t .ds ⟨.phantom, none, true⟩ ∧ s.executorKept t := by
  obtain ⟨first, lanes, record, _, delivered⟩ := halved_ds ends ret room last target
  have source : (s.halved .ds).lanes.sourceHead .ds = none := by rw [lanes]; rfl
  have form := State.phantom_ds source
  have second : ((s.halved .ds).reconcile .ds).cause = none := by rw [form]
  have taken := State.bothTaken first (State.passage_passed second)
  obtain ⟨slots, kept⟩ := (s.halved .ds).endPermission_slots_lanes .ds
  have joined : ((s.halved .ds).reconcile .ds).state.lanes = (s.halved .ds).lanes := by rw [form]; exact kept
  have edge := taken.edge
  rw [form, ← List.append_assoc, Anomaly.after_concat] at edge
  refine ⟨_, exec_clearEdge_both ends, State.slots_of_record fun k => ?_, fun present => taken.raised _ (delivered present),
    taken.mark, taken.sensors, taken.settings, taken.line, ?_, edge, State.both_executorKept first second quiet⟩
  · rw [taken.record, State.seenAtHead_same (by rw [joined]), form]
    exact (State.record_congr slots k).trans (record k)
  · rw [taken.lanes, joined, lanes]

end

end Sys2Proof.Machine
end

section
/-! Two racks in one blockage at UL (R36 to R43, R63, R124 to R126). -/

namespace Sys2Proof.Machine

section
variable {s : State} {n m : RecNo} {rest : List RecNo}

/-- A record that is not the head of UNL is not seen there. -/
theorem State.seenAtHead_away {l : Lanes} {k : RecNo} (h : l.unl.head? ≠ some k) (r : RecNo → Option Record) :
    s.seenAtHead l r k = r k := by
  rw [State.seenAtHead, if_neg fun c => h c.1]

/-- The record of a rack that has left UNL toward `d`: the column of R11. -/
def Record.unloaded (v : Record) (d : Diverter) : Record :=
  if d = .toReturn then ⟨.empty, none, false, [], 0, 0, none, 0, false, Reasons.none, 0, false⟩
  else { v with
    state := .loaded, credit := 0, rinseMin := none, rinseSamples := 0, sensorFault := false
    reasons := Reasons.none, rewash := min 7 (v.rewash + 1), fixed := true }

theorem State.movedRecord_ul (s : State) (n k : RecNo) : s.movedRecord .ul n k =
    if k = n then (s.record n).map fun v => v.unloaded s.unload.diverter else s.record k := by
  have same : (fun r : Record => r.passed .ul s.single.fixPoint s.unload.diverter) =
      fun v => v.unloaded s.unload.diverter := funext fun r => r.passed_ul _ _
  rw [State.movedRecord, same]

/-- A rejected record leaves UNL as it would have, not rejected. -/
theorem Record.unloaded_rejected (v : Record) (limit : Nat) (d : Diverter) :
    (v.rejectedAt limit).unloaded d = v.unloaded d := by
  unfold Record.rejectedAt
  split <;> rfl

theorem Record.rejectedAt_load (v : Record) (limit : Nat) : (v.rejectedAt limit).load = v.load := by
  unfold Record.rejectedAt
  split <;> rfl

/-- With room for two at both places of the diverter there is room for one wherever it points. -/
theorem isFull_diverter {t : State} (ret : t.lanes.ret.length < t.working.returnCap)
    (spur : t.lanes.spur.length < t.working.spurCap) (d : Diverter) : t.isFull d.place = false := by
  cases d <;> simp [State.isFull, Diverter.place, ret, spur]

/-- The first of two racks at UL. -/
theorem halved_ul (ends : s.endsAsDouble .ul) (unl : s.lanes.unl = n :: rest)
    (ret : s.lanes.ret.length + 2 ≤ s.working.returnCap) (spur : s.lanes.spur.length + 2 ≤ s.working.spurCap) :
    ((s.doubled .ul).reconcile .ul).cause = none
      ∧ (s.halved .ul).lanes = (s.lanes.pop .ul).join s.unload.diverter.place n
      ∧ (s.halved .ul).lanes.unl = rest
      ∧ (∀ k, (s.halved .ul).record k = s.seenAtHead (s.halved .ul).lanes (s.movedRecord .ul n) k)
      ∧ (∀ d : Diverter, (s.halved .ul).isFull d.place = false) ∧ (s.halved .ul).unload.release = none := by
  have open_ := isFull_diverter (t := s) (by omega) (by omega) s.unload.diverter
  obtain ⟨cause, lanes, record, _⟩ := State.halved_joins (e := .ul) (congrArg List.head? unl) rfl open_
  have here : (s.halved .ul).lanes.unl = rest ∧ (s.halved .ul).lanes.ret.length ≤ s.lanes.ret.length + 1
      ∧ (s.halved .ul).lanes.spur.length ≤ s.lanes.spur.length + 1 := by
    rw [lanes, Lanes.ul_joins unl]
    split <;> simp
  obtain ⟨behind, shortRet, shortSpur⟩ := here
  have working := State.halved_working cause
  refine ⟨cause, lanes, behind, fun k => by rw [record, lanes], isFull_diverter ?_ ?_,
    State.passage_unreleased cause (State.doubled_isBlocked ends)⟩
  · rw [working]
    omega
  · rw [working]
    omega

/-- Where the diverter stands for the second of two racks at UL (R123, R126). -/
def Record.callsFor (w : Record) : Diverter := if w.state = .empty ∨ w.state = .clean then .toReturn else .toSpur

/-- The record behind the first is seen at the head: rejected where it is to be, and the diverter turned for it. -/
theorem halved_ul_head {w : Record} (other : n ≠ m) (unl : s.lanes.unl = n :: m :: rest) (hw : s.record m = some w)
    (state : w.state ∈ [RackState.empty, .clean, .short, .rejected]) (cause : ((s.doubled .ul).reconcile .ul).cause = none)
    (behind : (s.halved .ul).lanes.unl = m :: rest)
    (record : ∀ k, (s.halved .ul).record k = s.seenAtHead (s.halved .ul).lanes (s.movedRecord .ul n) k) :
    (s.halved .ul).record m = some (w.rejectedAt s.working.rewashLimit)
      ∧ (s.halved .ul).unload.diverter = w.callsFor := by
  have new : s.lanes.unl.head? ≠ some m := by
    rw [unl]
    exact fun h => other (Option.some.inj h)
  have head : (s.halved .ul).lanes.unl.head? = some m := by rw [behind]; rfl
  have seen : (s.halved .ul).record m = some (w.rejectedAt s.working.rewashLimit) := by
    rw [record, State.seenAtHead, if_pos ⟨head, new⟩, State.movedRecord_ul, if_neg other.symm, hw]
    rfl
  refine ⟨seen, ?_⟩
  have passed := (State.halved_passed cause).lanes
  obtain ⟨turned, _⟩ := (State.passage_newHead cause passed.symm).2 m head (by rw [State.doubled_lanes]; exact new)
  obtain ⟨toReturn, toSpur⟩ := turned m head _ seen
  have away (h : w.state ≠ .short) : w.rejectedAt s.working.rewashLimit = w := by simp [Record.rejectedAt, h]
  simp only [List.mem_cons, List.not_mem_nil, or_false] at state
  rcases state with h | h | h | h
  · rw [away (by simp [h])] at toReturn
    rw [Record.callsFor, if_pos (.inl h)]
    exact toReturn (.inr h)
  · rw [away (by simp [h])] at toReturn
    rw [Record.callsFor, if_pos (.inr h)]
    exact toReturn (.inl h)
  · rw [Record.callsFor, if_neg (by simp [h])]
    refine toSpur ?_
    unfold Record.rejectedAt
    split
    · exact .inr rfl
    · exact .inl h
  · rw [away (by simp [h])] at toSpur
    rw [Record.callsFor, if_neg (by simp [h])]
    exact toSpur (.inr h)

/-- Two racks at UL, each to where the diverter stands for it. -/
theorem doubleAtUnload {v w : Record} (ends : s.endsAsDouble .ul) (other : n ≠ m) (unl : s.lanes.unl = n :: m :: rest)
    (hn : n ∉ rest) (hm : m ∉ rest) (hv : s.record n = some v) (hw : s.record m = some w)
    (ret : s.lanes.ret.length + 2 ≤ s.working.returnCap) (spur : s.lanes.spur.length + 2 ≤ s.working.spurCap)
    (state : w.state ∈ [RackState.empty, .clean, .short, .rejected]) : ∃ t, exec (.clearEdge .ul) s = .next t
      ∧ t.lanes = { s.lanes with
          unl := rest
          ret := s.lanes.ret ++ (if s.unload.diverter = .toReturn then [n] else [])
            ++ (if w.callsFor = .toReturn then [m] else [])
          spur := s.lanes.spur ++ (if s.unload.diverter = .toReturn then [] else [n])
            ++ (if w.callsFor = .toReturn then [] else [m]) }
      ∧ t.record n = some (v.unloaded s.unload.diverter) ∧ t.record m = some (w.unloaded w.callsFor)
      ∧ s.edgeCleared t .ul
          ⟨if w.callsFor = .toReturn ∧ w.load ≠ [] then .unloadSkipped else .ungranted, some m, true⟩
      ∧ (s.present .panel = true → t.attention .panel = true)
      ∧ s.sensorsKept t ∧ s.settingsKept t ∧ s.lineKept t ∧ (s.executor.drain = none → s.executorKept t) := by
  obtain ⟨first, lanes, behind, record, open_, release⟩ := halved_ul ends unl ret spur
  obtain ⟨seen, diverter⟩ := halved_ul_head other unl hw state first behind record
  have source : (s.halved .ul).lanes.sourceHead .ul = some m := congrArg List.head? behind
  obtain ⟨joined, anomalies, second⟩ := State.ordinary_joins source rfl (open_ _)
  rw [State.ul_anomalies seen, if_pos release, diverter, Record.rejectedAt_load] at anomalies
  have taken := State.bothTaken first (State.passage_passed second)
  have edge := taken.edge
  rw [anomalies] at edge
  have final : (((s.halved .ul).passage .ul).endBlockage .ul).lanes =
      if w.callsFor = .toReturn then
        { (s.halved .ul).lanes with unl := rest, ret := (s.halved .ul).lanes.ret ++ [m] }
      else { (s.halved .ul).lanes with unl := rest, spur := (s.halved .ul).lanes.spur ++ [m] } := by
    rw [taken.lanes, joined, ← diverter]
    exact Lanes.ul_joins behind _
  have unlast : ((s.halved .ul).reconcile .ul).state.lanes.unl = rest := by
    rw [← taken.lanes, final]
    split <;> rfl
  have records (k : RecNo) (hk : k ∉ rest) : (((s.halved .ul).passage .ul).endBlockage .ul).record k =
      if k = m then some (w.unloaded w.callsFor) else (s.halved .ul).record k := by
    have away : ((s.halved .ul).reconcile .ul).state.lanes.unl.head? ≠ some k := by
      rw [unlast]
      exact fun h => hk (List.mem_of_head? h)
    rw [taken.record, State.seenAtHead_away away, State.record_ordinary source]
    show (s.halved .ul).movedRecord .ul m k = _
    rw [State.movedRecord_ul, seen, diverter, Option.map_some, Record.unloaded_rejected]
  refine ⟨_, exec_clearEdge_both ends, final.trans ?_, ?_, ?_, ?_, taken.mark, taken.sensors, taken.settings, taken.line,
    State.both_executorKept first second⟩
  · rw [lanes, Lanes.ul_joins unl]
    cases s.unload.diverter <;> cases w.callsFor <;> simp
  · have away : (s.halved .ul).lanes.unl.head? ≠ some n := by
      rw [behind]
      exact fun h => other (Option.some.inj h).symm
    rw [records n hn, if_neg other, record, State.seenAtHead_away away, State.movedRecord_ul, if_pos rfl, hv]
    rfl
  · rw [records m hm, if_pos rfl]
  · by_cases skipped : w.callsFor = .toReturn ∧ w.load ≠ []
    · rw [if_pos skipped, ← List.append_assoc, Anomaly.after_concat] at edge
      rw [if_pos skipped]
      exact edge
    · rw [if_neg skipped, List.append_nil, Anomaly.after_concat] at edge
      rw [if_neg skipped]
      exact edge

/-- A second rack at UL with UNL empty: a phantom where the diverter stood (R25, R40). -/
theorem phantomAtUnload (free : s.record m = none) (below : ∀ k < m, s.record k ≠ none) (other : n ≠ m)
    (ends : s.endsAsDouble .ul) (unl : s.lanes.unl = [n])
    (ret : s.lanes.ret.length + 2 ≤ s.working.returnCap) (spur : s.lanes.spur.length + 2 ≤ s.working.spurCap) :
    ∃ t, exec (.clearEdge .ul) s = .next t
      ∧ t.unload.diverter = s.unload.diverter ∧ t.unload.release = none
      ∧ t.lanes = (if s.unload.diverter = .toReturn then { s.lanes with unl := [], ret := s.lanes.ret ++ [n, m] }
          else { s.lanes with unl := [], spur := s.lanes.spur ++ [n, m] })
      ∧ (∀ v ∈ s.record n, t.record n = some (v.unloaded s.unload.diverter))
      ∧ t.record m = some (phantomRecord .ul s.single s.unload.diverter)
      ∧ s.edgeCleared t .ul ⟨.phantom, some m, true⟩
      ∧ s.sensorsKept t ∧ s.settingsKept t ∧ s.lineKept t ∧ (s.executor.drain = none → s.executorKept t) := by
  obtain ⟨first, lanes, behind, record, open_, _⟩ := halved_ul ends unl ret spur
  have diverter : (s.halved .ul).unload.diverter = s.unload.diverter := by
    have stands := (State.passage_newHead first (State.halved_passed first).lanes.symm).1 behind
    rw [State.doubled_unload] at stands
    exact stands
  have source : (s.halved .ul).lanes.sourceHead .ul = none := congrArg List.head? behind
  have lowest : (s.halved .ul).lowestFree = some m := State.halved_lowestFree record free below
  obtain ⟨joined, anomalies, second⟩ := State.phantom_joins source (by simp) lowest rfl (open_ _)
  have taken := State.bothTaken first (State.passage_passed second)
  have edge := taken.edge
  rw [anomalies, ← List.append_assoc, Anomaly.after_concat] at edge
  have final : (((s.halved .ul).passage .ul).endBlockage .ul).lanes =
      if s.unload.diverter = .toReturn then { s.lanes with unl := [], ret := s.lanes.ret ++ [n, m] }
      else { s.lanes with unl := [], spur := s.lanes.spur ++ [n, m] } := by
    rw [taken.lanes, joined, diverter, lanes, Lanes.ul_joins unl]
    cases s.unload.diverter <;> simp [Lanes.join, Diverter.place]
  have unlast : ((s.halved .ul).reconcile .ul).state.lanes.unl = [] := by
    rw [← taken.lanes, final]
    split <;> rfl
  have records (k : RecNo) : (((s.halved .ul).passage .ul).endBlockage .ul).record k = if k = m then
      some (phantomRecord .ul s.single s.unload.diverter) else (s.halved .ul).record k := by
    rw [taken.record, State.seenAtHead_away (by rw [unlast]; simp), State.record_phantom source (by simp) lowest,
      State.halved_single first, diverter]
  refine ⟨_, exec_clearEdge_both ends, ?_, ?_, final, fun v hv => ?_, ?_, edge, taken.sensors, taken.settings, taken.line,
    State.both_executorKept first second⟩
  · have stands := (State.passage_newHead second rfl).1 unlast
    exact ((State.endBlockage_controlled _ .ul).diverter.trans stands).trans diverter
  · refine Option.eq_none_iff_forall_not_mem.2 fun r hr => ?_
    obtain ⟨_, head⟩ := (ul_release second).1 r hr
    rw [taken.lanes, unlast] at head
    cases head
  · rw [records, if_neg other, record, State.seenAtHead_away (by rw [behind]; simp), State.movedRecord_ul, if_pos rfl,
      Option.mem_def.1 hv]
    rfl
  · rw [records, if_pos rfl]

end

/-- Settles O34: two racks in one blockage, trackpoint by trackpoint, and a second rack that no record stands for. -/
theorem doubleIsTwoPassages : Obligations.DoubleIsTwoPassages := by
  refine ⟨fun s src n m rest ends other queue room => ?_, fun s n m rest v w ends other acc room hv hw idle quiet =>
      doubleAtEntry ends other acc room hv hw idle quiet,
    fun s x y rest ends _ hxt room => doubleAtExit ends hxt room,
    fun s n m rest v w ends other unl hn hm hv hw ret spur state => ?_,
    fun s n rest x ends ret room last target idle quiet => ⟨fun m hm => ?_, fun empty => ?_⟩,
    fun s n m free below other => ⟨fun src ends queue room => ?_, fun ends hxt room _ =>
        phantomAtExit free below other ends hxt room,
      fun ends acc room idle quiet => phantomAtEntry free below other ends acc room idle quiet,
      fun ends unl ret spur => ?_⟩⟩
  · exact doubleAtMerge ends other (by cases src <;> exact queue) room
  · exact doubleAtUnload ends other unl hn hm hv hw ret spur state
  · obtain ⟨t, step, slots, station, panel, sensors, settings, line, lanes, edge, held, withdrawn⟩ :=
      doubleAtDispatch ends ret room last target idle quiet hm
    have lp := congrArg Lanes.lp lanes
    refine ⟨t, step, ⟨lp, slots, station, panel, sensors, settings, line⟩, ?_, edge, held, withdrawn⟩
    rw [lp, lanes]
  · subst empty
    obtain ⟨t, step, slots, station, panel, sensors, settings, line, lanes, edge, kept⟩ :=
      phantomAtDispatch ends ret room last target quiet
    have lp := congrArg Lanes.lp lanes
    refine ⟨t, step, ⟨lp, slots, station, panel, sensors, settings, line⟩, ?_, edge, kept⟩
    rw [lp, lanes]
  · exact phantomAtMerge free below other ends (by cases src <;> exact queue) room
  · obtain ⟨t, step, diverter, release, lanes, head, phantom, rest⟩ := phantomAtUnload free below other ends unl ret spur
    refine ⟨t, step, diverter, release, fun d => ?_, fun d => ?_, rest⟩
    · rw [d] at lanes head phantom
      exact ⟨lanes, head, phantom⟩
    · rw [d] at lanes head phantom
      exact ⟨lanes, head, phantom⟩

end Sys2Proof.Machine
end
section
/-! What every step does, said once for any relation between the state before and after. A relation that holds over the
few elementary events (`ControlClosed`, `MoveClosed`, `StepClosed`) holds over every command and over every millisecond: a
frame or an invariant is proved for those events alone. -/

namespace Sys2Proof.Machine

/-! ## What leaves the racks, the settings and COMMIT alone -/

/-- All that the executor and the owners of permissions do but for COMMIT: control, with COMMIT as pending as it was and
its outcome as it was. -/
structure State.Aside (s t : State) : Prop where
  controlled : s.Controlled t
  bit : t.executor.vector.commit = s.executor.vector.commit
  outcome : t.executor.outcomes.commit = s.executor.outcomes.commit

/-- No record, no place and no setting changes from `s` to `t`, nor whether COMMIT is pending, nor its outcome. -/
structure State.Beside (s t : State) : Prop where
  slots : t.slots = s.slots
  lanes : t.lanes = s.lanes
  stored : t.stored = s.stored
  working : t.working = s.working
  single : t.single = s.single
  bit : t.executor.vector.commit = s.executor.vector.commit
  outcome : t.executor.outcomes.commit = s.executor.outcomes.commit

namespace State.Aside

variable {s t u : State}

theorem refl (s : State) : s.Aside s := ⟨.refl s, rfl, rfl⟩

theorem trans (h : s.Aside t) (k : t.Aside u) : s.Aside u :=
  ⟨h.controlled.trans k.controlled, k.bit.trans h.bit, k.outcome.trans h.outcome⟩

theorem of_executor (h : s.Controlled t) (executor : t.executor = s.executor) : s.Aside t :=
  ⟨h, by rw [executor], by rw [executor]⟩

theorem beside (h : s.Aside t) : s.Beside t :=
  ⟨h.controlled.slots, h.controlled.lanes, h.controlled.stored, h.controlled.working, h.controlled.single, h.bit,
    h.outcome⟩

end State.Aside

namespace State.Beside

variable {s t u : State}

theorem refl (s : State) : s.Beside s := ⟨rfl, rfl, rfl, rfl, rfl, rfl, rfl⟩

theorem trans (h : s.Beside t) (k : t.Beside u) : s.Beside u :=
  ⟨k.slots.trans h.slots, k.lanes.trans h.lanes, k.stored.trans h.stored, k.working.trans h.working,
    k.single.trans h.single, k.bit.trans h.bit, k.outcome.trans h.outcome⟩

end State.Beside

section
variable (s : State)

theorem State.withExecutor_aside (x : Executor) (bit : x.vector.commit = s.executor.vector.commit := by rfl)
    (outcome : x.outcomes.commit = s.executor.outcomes.commit := by rfl) : s.Aside (s.withExecutor x) :=
  ⟨s.withExecutor_controlled x, bit, outcome⟩

theorem State.raiseMark_aside (n : Node) : s.Aside (s.raiseMark n) :=
  .of_executor (s.raiseMark_controlled n) (by simp)

theorem State.writeOutcome_aside (c : LineCommand) (k : OutcomeKind) (i : Issuer) (f : Option CommitFailure)
    (hc : c ≠ .commit := by decide) : s.Aside (s.writeOutcome c k i f) := by
  refine ⟨s.writeOutcome_controlled c k i f, by simp, ?_⟩
  rw [State.writeOutcome_executor]
  cases c <;> first | exact absurd rfl hc | rfl

theorem State.withdrawPermissions_aside : s.Aside s.withdrawPermissions := .of_executor s.withdrawPermissions_controlled rfl

theorem State.decideMerge_aside : s.Aside s.decideMerge := .of_executor s.decideMerge_controlled (by simp)

theorem State.decideDispatch_aside : s.Aside s.decideDispatch := .of_executor s.decideDispatch_controlled (by simp)

theorem State.decideRelease_aside : s.Aside s.decideRelease := .of_executor s.decideRelease_controlled (by simp)

theorem State.decideAfter_aside (before : State) : s.Aside (s.decideAfter before) :=
  .of_executor (s.decideAfter_controlled before) (s.decideAfter_executor before)

theorem State.refreshPermit_aside : s.Aside s.refreshPermit := .of_executor s.refreshPermit_controlled rfl

theorem State.enterLoop_aside (l : LoopState) : s.Aside (s.enterLoop l) :=
  ⟨s.enterLoop_controlled l, by simp, by simp⟩

theorem State.completeDrain_aside (i : Issuer) : s.Aside (s.completeDrain i) :=
  ((s.withExecutor_aside _).trans (State.enterLoop_aside _ _)).trans
    (State.writeOutcome_aside _ _ _ _ _)

theorem State.drainTest_aside : s.Aside s.drainTest := by
  unfold State.drainTest
  repeat' split
  · exact s.completeDrain_aside _
  all_goals exact .refl s

theorem State.reacting_aside {f : State → State} (h : ∀ t : State, t.Aside (f t)) : s.Aside (s.reacting f) :=
  State.reacting_keeps (P := s.Aside) (fun t k => k.trans (.of_executor t.draw_controlled rfl))
    (fun t k => k.trans t.drainTest_aside) (fun t k => k.trans (h t)) (.refl s)

theorem State.enterRun_aside (i : Issuer) : s.Aside (s.enterRun i) :=
  (((s.withExecutor_aside _).trans (State.writeOutcome_aside _ _ _ _ _)).trans
    (State.refreshPermit_aside _)).trans
    (State.reacting_aside _ fun t => .of_executor t.decideAll_controlled t.decideAll_executor)

theorem State.startingTest_aside : s.Aside s.startingTest := by
  unfold State.startingTest
  repeat' split
  · exact s.enterRun_aside _
  all_goals exact .refl s

theorem State.endHolding_aside (i : Issuer) : s.Aside (s.endHolding i) :=
  ((s.withExecutor_aside _).trans (State.writeOutcome_aside _ _ _ _ _)).trans
    (State.drainTest_aside _)

theorem State.holdingTest_aside : s.Aside s.holdingTest := by
  unfold State.holdingTest
  repeat' split
  all_goals first
    | exact .refl s
    | exact s.endHolding_aside _

theorem State.clearDrain_aside : s.Aside s.clearDrain := by
  unfold State.clearDrain
  dsimp only
  split
  · exact (s.withExecutor_aside _).trans (State.writeOutcome_aside _ _ _ _ _)
  · exact s.withExecutor_aside _

theorem State.takeStop_aside (i : Issuer) : s.Aside (s.takeStop i) := by
  have stop (t : State) : t.Aside (t.clearDrain.writeOutcome .stop .done i) :=
    t.clearDrain_aside.trans (State.writeOutcome_aside _ _ _ _ _)
  unfold State.takeStop
  split
  · exact stop s
  · exact stop s
  · exact (s.enterLoop_aside _).trans (stop _)
  · exact (s.enterLoop_aside _).trans (stop _)
  · exact (s.enterLoop_aside _).trans (stop _)
  · exact ((s.withExecutor_aside _).trans (State.writeOutcome_aside _ _ _ _ _)).trans (stop _)
  · exact ((s.withExecutor_aside _).trans (State.writeOutcome_aside _ _ _ _ _)).trans (stop _)

theorem State.takeClear_aside (i : Issuer) : s.Aside (s.takeClear i) := by
  unfold State.takeClear
  repeat' split
  · exact (s.withExecutor_aside _).trans (State.writeOutcome_aside _ _ _ _ _)
  all_goals first
    | exact s.writeOutcome_aside _ _ _ _
    | exact .refl s

theorem State.takeSetup_aside (i : Issuer) : s.Aside (s.takeSetup i) := by
  unfold State.takeSetup
  split
  · have cleared : s.clearDrain.Aside { s.clearDrain with
        executor := { s.clearDrain.executor with loop := .idle }
        dispatch := { s.clearDrain.dispatch with deferred := PerStation.const false } } :=
      ⟨by apply State.Controlled.of_line <;> rfl, rfl, rfl⟩
    exact (s.clearDrain_aside.trans cleared).trans (State.writeOutcome_aside _ _ _ _ _)
  all_goals first
    | exact s.writeOutcome_aside _ _ _ _
    | exact .refl s

theorem State.takeHold_aside (i : Issuer) : s.Aside (s.takeHold i) := by
  unfold State.takeHold
  split
  · exact s.writeOutcome_aside _ _ _ _
  · exact s.writeOutcome_aside _ _ _ _
  · exact s.writeOutcome_aside _ _ _ _
  · exact s.writeOutcome_aside _ _ _ _
  · exact s.writeOutcome_aside _ _ _ _
  · exact (((s.withExecutor_aside _).trans (State.writeOutcome_aside _ _ _ _ _)).trans
      (State.writeOutcome_aside _ _ _ _ _)).trans (State.drainTest_aside _)
  · exact (((s.enterLoop_aside _).trans (State.withExecutor_aside _ _)).trans
      (State.writeOutcome_aside _ _ _ _ _)).trans (State.holdingTest_aside _)

theorem State.takeDrain_aside (i : Issuer) : s.Aside (s.takeDrain i) := by
  unfold State.takeDrain
  repeat' split
  all_goals first
    | exact .refl s
    | exact s.completeDrain_aside _
    | exact s.writeOutcome_aside _ _ _ _
    | exact (s.withExecutor_aside _).trans (State.writeOutcome_aside _ _ _ _ _)

theorem State.takeRun_aside (i : Issuer) : s.Aside (s.takeRun i) := by
  have begin_ (o : Origin) : s.Aside (s.beginStarting o i) :=
    ((s.withExecutor_aside _).trans (State.writeOutcome_aside _ _ _ _ _)).trans
      (State.startingTest_aside _)
  unfold State.takeRun
  repeat' split
  all_goals first
    | exact .refl s
    | exact begin_ _
    | exact s.writeOutcome_aside _ _ _ _

/-- Only COMMIT applied to the loop state changes a setting, a cell or the outcome of COMMIT (R165, R174). -/
theorem State.applyCommand_aside {c : LineCommand} (hc : c ≠ .commit) (i : Issuer) : s.Aside (s.applyCommand c i) := by
  cases c with
  | stop => exact s.takeStop_aside i
  | clear => exact s.takeClear_aside i
  | setup => exact s.takeSetup_aside i
  | commit => exact absurd rfl hc
  | hold => exact s.takeHold_aside i
  | drain => exact s.takeDrain_aside i
  | run => exact s.takeRun_aside i

theorem State.setBit_aside {c : LineCommand} (hc : c ≠ .commit) (i : Issuer) : s.Aside (s.setBit c i) := by
  unfold State.setBit
  split
  · exact .refl s
  · refine s.withExecutor_aside _ ?_
    cases c <;> first | exact absurd rfl hc | rfl

theorem State.recordAnomaly_beside (e : Eye) (k : AnomalyKind) (r : Option RecNo) :
    s.Beside (s.recordAnomaly e k r) := by
  constructor <;> simp

theorem State.recordAnomalies_beside (e : Eye) (as : List (AnomalyKind × Option RecNo)) :
    s.Beside (s.recordAnomalies e as) := by
  constructor <;> simp

theorem State.setDiverter_beside : s.Beside s.setDiverter := by
  obtain ⟨d, h⟩ := s.setDiverter_form
  rw [h]
  exact ⟨rfl, rfl, rfl, rfl, rfl, rfl, rfl⟩

theorem State.setEye_beside (e : Eye) (t : Trackpoint) : s.Beside (s.setEye e t) := ⟨rfl, rfl, rfl, rfl, rfl, rfl, rfl⟩

theorem State.setNode_beside (n : Node) (v : NodeLine) : s.Beside (s.setNode n v) := ⟨rfl, rfl, rfl, rfl, rfl, rfl, rfl⟩

end

/-! ## The events of the executor and of the owners of permissions -/

/-- The relation holds over all that the executor and the owners of permissions do, and over the taking of a pending
command. -/
structure ControlClosed (R : State → State → Prop) : Prop where
  refl : ∀ s, R s s
  trans : ∀ {s t u}, R s t → R t u → R s u
  aside : ∀ {s t}, s.Aside t → R s t
  take : ∀ (s : State) (c : LineCommand) (i : Issuer), s.executor.vector.get c = some i → R s (s.take c i)

namespace ControlClosed

variable {R : State → State → Prop} (h : ControlClosed R) (s : State)
include h

theorem after {s t u : State} (k : s.Aside t) (l : R t u) : R s u := h.trans (h.aside k) l

theorem takeUpTo (k : Nat) : R s (State.takeUpTo k s) := by
  induction k generalizing s with
  | zero => exact h.refl s
  | succ k ih =>
    unfold State.takeUpTo
    split
    · split
      · rename_i i pending
        exact h.trans (h.take s _ i pending) (ih _)
      · exact h.refl s
    · exact h.refl s

theorem takeCommands : R s s.takeCommands := h.takeUpTo s 7

theorem command (c : LineCommand) (i : Issuer) (hc : c ≠ .commit := by decide) : R s (s.setBit c i).takeCommands :=
  h.after (s.setBit_aside hc i) (h.takeCommands _)

theorem raiseHold (c : HoldCause) : R s (s.raiseHold c) :=
  h.after ((s.withExecutor_aside _).trans (State.raiseMark_aside _ _)) (h.command _ _ _)

theorem raiseStop (c : StopCause) : R s (s.raiseStop c) :=
  h.after ((s.withExecutor_aside _).trans (State.raiseMark_aside _ _)) (h.command _ _ _)

theorem raise (c : Option Cause) : R s (s.raise c) := by
  unfold State.raise
  split
  · exact h.raiseHold s _
  · exact h.raiseStop s _
  · exact h.refl s

theorem reacting {f : State → State} (hf : ∀ t, R t (f t)) : R s (s.reacting f) :=
  State.reacting_keeps (P := R s) (fun t k => h.trans k (h.aside (.of_executor t.draw_controlled rfl)))
    (fun t k => h.trans k (h.aside t.drainTest_aside)) (fun t k => h.trans k (hf t)) (h.refl s)

theorem startingTest : R s s.startingTest.takeCommands := h.after s.startingTest_aside (h.takeCommands _)

theorem holdingTest : R s s.holdingTest.takeCommands := h.after s.holdingTest_aside (h.takeCommands _)

theorem heatTimerExpiry : R s s.heatTimerExpiry := by
  have left (t : LoopState) (i : Issuer) :
      s.Aside ((s.withExecutor { s.executor with loop := t, heatTimer := none }).writeOutcome .run .failed i) :=
    (s.withExecutor_aside _).trans (State.writeOutcome_aside _ _ _ _ _)
  unfold State.heatTimerExpiry
  repeat' split
  · exact h.after (left _ _) (h.takeCommands _)
  · exact h.after ((left _ _).trans (State.drainTest_aside _)) (h.takeCommands _)
  · exact h.refl s

theorem settleTimerExpiry : R s s.settleTimerExpiry := by
  unfold State.settleTimerExpiry
  split
  · exact h.after (s.endHolding_aside _) (h.takeCommands _)
  · exact h.refl s

theorem tunnelStall : R s s.tunnelStall := by
  unfold State.tunnelStall
  split
  · have stopped : s.Aside { s with tunnel := { s.tunnel with stall := none } } :=
      ⟨by apply State.Controlled.of_line <;> rfl, rfl, rfl⟩
    exact h.after stopped (h.raiseHold _ _)
  · exact h.refl s

theorem tunnelChanged : R s s.tunnelChanged := by
  unfold State.tunnelChanged
  dsimp only
  split
  · exact h.trans (h.raiseHold s _) (h.startingTest _)
  · exact h.startingTest s

theorem driveChanged : R s s.driveChanged := by
  have tests (t : State) : R t t.startingTest.holdingTest.takeCommands :=
    h.after t.startingTest_aside (h.holdingTest _)
  unfold State.driveChanged
  dsimp only
  repeat' split
  · exact h.trans (h.raiseStop s _) (tests _)
  · exact h.trans (h.raiseHold s _) (tests _)
  · exact tests s

theorem stationChanged (before : State) (x : Station) : R s (s.stationChanged before x) := by
  unfold State.stationChanged
  split
  · exact h.aside s.decideDispatch_aside
  · exact h.refl s

theorem foldl {α : Type} {f : State → α → State} (hf : ∀ (t : State) (a : α), R t (f t a)) (as : List α) :
    R s (as.foldl f s) := by
  induction as generalizing s with
  | nil => exact h.refl s
  | cons a as ih => exact h.trans (hf s a) (ih _)

end ControlClosed

/-! ## Presence and codes (R167 to R170, R181 to R183) -/

/-- The relation holds over what is written to the line, and over what the tunnel node sends of its zones. -/
structure LineClosed (R : State → State → Prop) : Prop extends ControlClosed R where
  line : ∀ (s : State) (l : Line) (zones : PerZone ZoneInput),
    (∀ z, (zones.get z).filter = (s.heat.zones.get z).filter ∧ (zones.get z).effective = (s.heat.zones.get z).effective) →
      R s { s with line := l, heat := { s.heat with zones := zones } }

namespace LineClosed

variable {R : State → State → Prop} (h : LineClosed R) (s : State)
include h

theorem wrote {l : Line} {t : State} (k : R { s with line := l } t) : R s t :=
  h.trans (h.line s l s.heat.zones fun _ => ⟨rfl, rfl⟩) k

theorem setNode (n : Node) (v : NodeLine) : R s (s.setNode n v) := h.line s _ s.heat.zones fun _ => ⟨rfl, rfl⟩

theorem handTemperature (z : Zone) (v : Octet) : R s (s.handTemperature z v) :=
  h.line s s.line _ fun y => by
    rw [PerZone.get_set]
    split
    · rename_i e
      rw [e]
      exact ⟨rfl, rfl⟩
    · exact ⟨rfl, rfl⟩

theorem handPumps (v : Octet) : R s (s.handPumps v) := h.line s s.line _ fun y => by cases y <;> exact ⟨rfl, rfl⟩

theorem handAccepted : R s s.handAccepted := by
  have handed := h.foldl s (f := fun u z => match s.line.acceptedTemperature.get z with
      | some v => u.handTemperature z v
      | none => u)
    (fun t z => by
      split
      · exact h.handTemperature t z _
      · exact h.refl t) Zone.all
  unfold State.handAccepted
  dsimp only
  split
  · exact h.trans handed (h.handPumps _ _)
  · exact handed

theorem acceptCode (n : Node) (v : Octet) : R s (s.acceptCode n v) := by
  unfold State.acceptCode
  repeat' split
  all_goals first
    | exact h.refl s
    | exact h.wrote s (h.tunnelChanged _)
    | exact h.wrote s (h.driveChanged _)
    | exact h.wrote s (h.stationChanged _ _ _)

theorem presentWith (n : Node) (v : Octet) : R s (s.presentWith n v) := by
  unfold State.presentWith
  split
  · exact h.setNode s _ _
  · exact h.setNode s _ _
  · exact h.wrote s (h.trans (h.tunnelChanged _) (h.handAccepted _))
  · exact h.wrote s (h.driveChanged _)
  · exact h.wrote s (h.stationChanged _ _ _)

theorem absenceHandedOn (n : Node) : R s (s.absenceHandedOn n) := by
  unfold State.absenceHandedOn
  cases n with
  | tunnel =>
    have gone : R s { s with heat := { s.heat with zones := s.heat.zones.map ZoneInput.absent } } :=
      h.line s s.line _ fun z => by
        rw [PerZone.get_map]
        exact ⟨rfl, rfl⟩
    dsimp only
    split
    · exact h.trans gone (h.raiseHold _ _)
    · exact h.trans gone (h.raiseHold _ _)
    all_goals exact gone
  | drive => exact h.raiseStop s _
  | _ => exact h.refl s

theorem becomeAbsent (n : Node) : R s (s.becomeAbsent n) := by
  refine h.trans ?_ (h.absenceHandedOn _ n)
  cases n <;> exact h.wrote s (h.refl _)

/-! ## The separate events of a frame end that bring no request -/

theorem absentEvent (before : Option (List Octet)) (now : List Octet) (n : Node) :
    R s (s.frameEvent before now (.absent n)) := by
  simp only [State.frameEvent]
  split
  · exact h.becomeAbsent s n
  · exact h.refl s

theorem temperatureEvent (before : Option (List Octet)) (now : List Octet) (z : Zone) :
    R s (s.frameEvent before now (.temperature z)) := by
  simp only [State.frameEvent]
  repeat' split
  · exact h.wrote s (h.handTemperature _ z _)
  · exact h.wrote s (h.refl _)
  · exact h.refl s

theorem pumpEvent (before : Option (List Octet)) (now : List Octet) : R s (s.frameEvent before now .pumpMap) := by
  simp only [State.frameEvent]
  repeat' split
  · exact h.wrote s (h.handPumps _ _)
  · exact h.wrote s (h.refl _)
  · exact h.refl s

end LineClosed

/-! ## The frame end (R178 to R187) -/

/-- The relation holds over the requests and the answers to them too. -/
structure FrameClosed (R : State → State → Prop) : Prop extends LineClosed R where
  serve : ∀ (s : State) (n : Node) (q : Request), R s (s.serve n q).state
  answer : ∀ (s : State) (a : Option Answer), R s { s with answer := a }

namespace FrameClosed

variable {R : State → State → Prop} (h : FrameClosed R) (s : State)
include h

theorem serveMessage (n : Node) (message : List Octet) : R s (s.serveMessage n message).state := by
  unfold State.serveMessage
  split
  · exact h.serve s n _
  · unfold State.refuseMessage
    repeat' split
    all_goals exact h.refl s

theorem takeOctet (n : Node) (o w : Octet) : R s (s.takeOctet n o w) := by
  unfold State.takeOctet
  dsimp only
  split
  · exact h.trans (h.trans (h.trans (h.setNode s n _) (h.serveMessage _ n _)) (h.answer _ _)) (h.setNode _ n _)
  · exact h.setNode s n _

theorem acceptPair (n : Node) (p : Octet × Octet) : R s (s.acceptPair n p) := by
  unfold State.acceptPair
  dsimp only
  repeat' split
  all_goals first
    | exact h.refl s
    | exact h.takeOctet s n _ _
    | exact h.setNode s n _

theorem becomePresent (n : Node) (v : Octet) : R s (s.becomePresent n v) := by
  unfold State.becomePresent
  dsimp only
  split
  · exact h.trans (h.presentWith s n v) (h.acceptPair _ _ _)
  · exact h.presentWith s n v

theorem frameEvent (before : Option (List Octet)) (now : List Octet) (e : FrameEvent) :
    R s (s.frameEvent before now e) := by
  cases e with
  | code n =>
    simp only [State.frameEvent]
    repeat' split
    · exact h.trans (h.setNode s n _) (h.acceptCode _ n _)
    · exact h.setNode s n _
    · exact h.trans (h.setNode s n _) (h.becomePresent _ n _)
    · exact h.refl s
  | absent n => exact h.absentEvent s _ _ n
  | message n =>
    simp only [State.frameEvent]
    repeat' split
    · exact h.trans (h.setNode s n _) (h.acceptPair _ n _)
    · exact h.setNode s n _
    · exact h.refl s
  | temperature z => exact h.temperatureEvent s _ _ z
  | pumpMap => exact h.pumpEvent s _ _
  | count n => exact h.setNode s n _

theorem frameEnd (slots : List Octet) (order : List FrameEvent) : R s (s.frameEnd slots order) :=
  h.trans (h.wrote s (h.refl (s.countIdleFrames (frameSlots slots)))) (h.trans
    (h.foldl _ (fun t e => h.frameEvent t _ _ e) (inOrder order frameEvents)) (h.wrote _ (h.refl _)))

end FrameClosed

/-! ## The arbiters' windows, jams and the ESTOP input -/

/-- The relation holds over all that changes no rack and no setting, and over the taking of a pending command. -/
structure BesideClosed (R : State → State → Prop) : Prop extends LineClosed R where
  beside : ∀ {s t}, s.Beside t → R s t
  aside := fun k => beside k.beside
  line := fun _ _ _ _ => beside ⟨rfl, rfl, rfl, rfl, rfl, rfl, rfl⟩

namespace BesideClosed

variable {R : State → State → Prop} (h : BesideClosed R) (s : State)
include h

theorem next {s t u : State} (k : s.Beside t) (l : R t u) : R s u := h.trans (h.beside k) l

/-- What is written before an event beside the racks, the settings and COMMIT is no matter. -/
theorem past {s t u : State} (l : R t u) (k : s.Beside t := by exact ⟨rfl, rfl, rfl, rfl, rfl, rfl, rfl⟩) : R s u :=
  h.next k l

theorem mergeTimeout : R s s.mergeTimeout := by
  unfold State.mergeTimeout
  repeat' split
  · rename_i g _ _
    have none : s.Beside { s with merge := none } := ⟨rfl, rfl, rfl, rfl, rfl, rfl, rfl⟩
    exact h.beside (((none.trans (State.recordAnomaly_beside _ _ _ _)).trans (State.decideMerge_aside _).beside).trans
      ⟨rfl, rfl, rfl, rfl, rfl, rfl, rfl⟩)
  all_goals exact h.refl s

theorem dispatchTimeout : R s s.dispatchTimeout := by
  unfold State.dispatchTimeout
  repeat' split
  · have none : s.Beside { s with dispatch := { s.dispatch with grant := none } } := ⟨rfl, rfl, rfl, rfl, rfl, rfl, rfl⟩
    exact h.beside (((none.trans (State.recordAnomaly_beside _ _ _ _)).trans (State.decideDispatch_aside _).beside).trans
      ⟨rfl, rfl, rfl, rfl, rfl, rfl, rfl⟩)
  all_goals exact h.refl s

theorem declareJam (e : Eye) : R s (s.declareJam e) := by
  unfold State.declareJam
  dsimp only
  split
  · exact h.next ((s.setEye_beside e _).trans (State.recordAnomaly_beside _ _ _ _)) (h.raiseHold _ _)
  · exact h.refl s

theorem estopOn : R s s.estopOn := h.past (h.raiseStop _ _)

theorem estopOff : R s s.estopOff := h.past (h.startingTest _)

theorem sampleEstop (low : Bool) : R s (s.sampleEstop low) := by
  unfold State.sampleEstop
  repeat' split
  · exact h.beside ⟨rfl, rfl, rfl, rfl, rfl, rfl, rfl⟩
  · exact h.beside ⟨rfl, rfl, rfl, rfl, rfl, rfl, rfl⟩
  · exact h.estopOn s
  · exact h.estopOff s

/-! ## The rows that move no rack -/

theorem serveStatus (n : Node) : R s (s.serveStatus n).state := by
  simp only [State.serveStatus]
  split <;> exact h.beside ⟨rfl, rfl, rfl, rfl, rfl, rfl, rfl⟩

theorem serveReadRack (r : Octet) : R s (s.serveReadRack r).state := by
  simp only [State.serveReadRack]
  repeat' split
  all_goals exact h.refl s

theorem serveReadLane (p i : Octet) : R s (s.serveReadLane p i).state := by
  simp only [State.serveReadLane]
  split <;> exact h.refl s

theorem serveGet (n : Node) (p i : Octet) : R s (s.serveGet n p i).state := by
  simp only [State.serveGet]
  repeat' split
  all_goals exact h.refl s

theorem serveCommand (n : Node) {c : LineCommand} (hc : c ≠ .commit) : R s (s.serveCommand n c).state := by
  unfold State.serveCommand
  repeat' split
  · exact h.refl s
  · exact h.refl s
  · exact h.command s c _ hc

theorem answering (v : Served) (n : Node) (k : R s v.state) : R s (v.answering n) :=
  h.trans k (h.beside ⟨rfl, rfl, rfl, rfl, rfl, rfl, rfl⟩)

theorem ifSo (b : Bool) {t : State} (k : R s t) : R s (if b then t else s) := by
  split
  · exact k
  · exact h.refl s

theorem ifNot (b : Bool) {t : State} (k : R s t) : R s (if b then s else t) := by
  split
  · exact h.refl s
  · exact k

end BesideClosed

/-- The rows that move no rack and store no setting: what only reads, the line commands but COMMIT, the events of the
executor, of the owners of permissions and of the ESTOP input, a jam, a stall, and the channels. -/
def movesNone : Instr → Bool
  | .status _ | .readRack _ _ | .readLane _ _ _ | .get _ _ _ | .stop _ | .clear _ | .setup _ | .hold _ | .drain _ | .run _
  | .startingComplete | .holdingEnd | .heatTimerExpiry | .settleTimerExpiry | .drainComplete | .unloadReleaseOpen
  | .mergeGrantOpen | .dispatchGrantOpen | .mergeTimeout | .dispatchTimeout | .jam _ | .estopActive | .estopReleased
  | .tunnelStall | .requestTimeout _ | .responseDrop _ | .nodeAbsent _ => true
  | _ => false

/-- Each of those rows. -/
theorem BesideClosed.exec {R : State → State → Prop} (h : BesideClosed R) {c : Instr} {s t : State}
    (hc : movesNone c = true) (e : exec c s = .next t) : R s t := by
  have next {u : State} (k : R s u) (f : (Host.Outcome.next u : Host.Outcome State Fault Refusal) = .next t) : R s t :=
    Host.Outcome.next.inj f ▸ k
  cases c with
  | status n => exact next (h.answering s _ n (h.serveStatus s n)) e
  | readRack n r => exact next (h.answering s _ n (h.serveReadRack s r)) e
  | readLane n p i => exact next (h.answering s _ n (h.serveReadLane s p i)) e
  | get n p i => exact next (h.answering s _ n (h.serveGet s n p i)) e
  | stop n => exact next (h.answering s _ n (h.serveCommand s n (c := .stop) (by decide))) e
  | clear n => exact next (h.answering s _ n (h.serveCommand s n (c := .clear) (by decide))) e
  | setup n => exact next (h.answering s _ n (h.serveCommand s n (c := .setup) (by decide))) e
  | hold n => exact next (h.answering s _ n (h.serveCommand s n (c := .hold) (by decide))) e
  | drain n => exact next (h.answering s _ n (h.serveCommand s n (c := .drain) (by decide))) e
  | run n => exact next (h.answering s _ n (h.serveCommand s n (c := .run) (by decide))) e
  | startingComplete => exact next (h.startingTest s) e
  | holdingEnd => exact next (h.holdingTest s) e
  | heatTimerExpiry => exact next (h.heatTimerExpiry s) e
  | settleTimerExpiry => exact next (h.settleTimerExpiry s) e
  | drainComplete => exact next (h.aside s.drainTest_aside) e
  | unloadReleaseOpen => exact next (h.aside s.decideRelease_aside) e
  | mergeGrantOpen => exact next (h.aside s.decideMerge_aside) e
  | dispatchGrantOpen => exact next (h.aside s.decideDispatch_aside) e
  | mergeTimeout => exact next (h.mergeTimeout s) e
  | dispatchTimeout => exact next (h.dispatchTimeout s) e
  | jam x => exact next (h.declareJam s x) e
  | estopActive => exact next (h.ifNot s _ (h.estopOn s)) e
  | estopReleased => exact next (h.ifSo s _ (h.estopOff s)) e
  | tunnelStall => exact next (h.tunnelStall s) e
  | requestTimeout n => exact next (h.setNode s n _) e
  | responseDrop n => exact next (h.setNode s n _) e
  | nodeAbsent n => exact next (h.ifSo s _ (h.becomeAbsent s n)) e
  | _ => cases hc

/-! ## The events of the trackpoints and of the tunnel -/

/-- The relation holds over the movements of chapters 2, 4 and 5 too. -/
structure MoveClosed (R : State → State → Prop) : Prop extends BesideClosed R where
  /-- The head of UNL is seen there (R124, R125). -/
  newHead : ∀ s before : State, R s (s.takeNewHead before)
  /-- The windows of XT change, its records do not (R85, R86). -/
  windows : ∀ (s : State) (xt : List XtEntry), xt.map (·.rack) = s.lanes.xt.map (·.rack) →
    R s (s.withLanes { s.lanes with xt := xt })
  /-- A record changes where it stands. -/
  update : ∀ (s : State) (n : RecNo) (f : Record → Record), R s (s.updateRecord n f)
  /-- A passage is reconciled (R36 to R43). -/
  reconcile : ∀ (s : State) (e : Eye), R s (s.reconcile e).state
  /-- The last cell's record leaves and the cells shift (R75, R76). -/
  shift : ∀ s : State, R s (s.leaveTunnel.1.withLanes s.leaveTunnel.1.lanes.shifted)
  /-- A record of XT is missing at the exit (R87). -/
  exitMissing : ∀ (s : State) (n : RecNo), s.lanes.exitTiming n = true →
    R s (s.withLanes { s.lanes.sendOff n .exitMissing with xt := s.lanes.xt.filter (·.rack ≠ n) })

namespace MoveClosed

variable {R : State → State → Prop} (h : MoveClosed R) (s : State)
include h

theorem observe (before : State) (cause : Option Cause) : R s (s.observe before cause) :=
  h.trans (h.newHead s before) (h.next (State.refreshPermit_aside _).beside
    (h.reacting _ fun t => h.next ((t.decideAfter_aside before).beside) (h.raise _ cause)))

theorem passage (e : Eye) : R s (s.passage e) :=
  h.trans (h.reconcile s e) (h.next (State.recordAnomalies_beside _ _ _) (h.observe _ _ _))

theorem mapHeadWindow (f : Window → Window) : R s (s.withLanes (s.lanes.mapHeadWindow f)) := by
  obtain ⟨form, racks⟩ := s.lanes.mapHeadWindow_racks f
  rw [form]
  exact h.windows s _ racks

theorem handBlocked (e : Eye) : R s (s.handBlocked e) := by
  have merge : R s (s.mergeBlocked e) := by
    rcases s.mergeBlocked_cases e with ⟨_, k⟩ | ⟨_, _, _, _, k⟩ | ⟨_, _, _, _, k⟩ <;> rw [k]
    · exact h.refl s
    · exact h.past (h.beside (State.decideMerge_aside _).beside)
    · exact h.beside ⟨rfl, rfl, rfl, rfl, rfl, rfl, rfl⟩
  have dispatch : R s s.dispatchBlocked := by
    rcases s.dispatchBlocked_cases with ⟨_, k⟩ | ⟨_, _, _, _, k⟩ | ⟨_, _, _, k⟩ <;> rw [k]
    · exact h.refl s
    · exact h.beside ⟨rfl, rfl, rfl, rfl, rfl, rfl, rfl⟩
    · exact h.beside ⟨rfl, rfl, rfl, rfl, rfl, rfl, rfl⟩
  cases e with
  | outfeed x => exact merge
  | sp => exact merge
  | en => exact h.refl s
  | ex => exact h.mapHeadWindow s _
  | ul => exact h.refl s
  | ds => exact dispatch

theorem handDebris (e : Eye) : R s (s.handDebris e) := by
  have merge (d : Eye) (f : Window → Window) : R s (s.mapMergeWindow d f) := by
    unfold State.mapMergeWindow
    repeat' split
    all_goals exact h.beside ⟨rfl, rfl, rfl, rfl, rfl, rfl, rfl⟩
  cases e with
  | outfeed x => exact merge (.outfeed x) (·.onDebris s.working.mergeWindow)
  | sp => exact merge .sp (·.onDebris s.working.mergeWindow)
  | en => exact h.refl s
  | ex => exact h.mapHeadWindow s _
  | ul => exact h.refl s
  | ds => exact h.beside ⟨rfl, rfl, rfl, rfl, rfl, rfl, rfl⟩

theorem blockedEdge (e : Eye) : R s (s.blockedEdge e) := h.next (s.setEye_beside e _) (h.handBlocked _ e)

theorem handOn (e : Eye) (c : Classification) : R s (s.handOn e c) := by
  cases c with
  | one => exact h.passage s e
  | debris => exact h.next (s.recordAnomaly_beside _ _ _) (h.handDebris _ e)
  | double => exact h.next (s.recordAnomaly_beside _ _ _) (h.trans (h.passage _ e) (h.passage _ e))

theorem endBlockage (e : Eye) : R s (s.endBlockage e) :=
  h.next (s.setEye_beside e { s.eyes.get e with blockage := none })
    (h.beside (State.Aside.of_executor (s.endBlockage_controlled e) (s.endBlockage_executor e)).beside)

theorem clearEdge (e : Eye) : R s (s.clearEdge e) := by
  unfold State.clearEdge
  dsimp only
  split
  · exact h.trans (h.next (s.setEye_beside e _) (h.handOn _ e _)) (h.endBlockage _ e)
  · exact h.beside (s.setEye_beside e _)

theorem sampleEye (e : Eye) (raw : Bool) : R s (s.sampleEye e raw) := by
  unfold State.sampleEye
  dsimp only
  repeat' split
  · exact h.beside (s.setEye_beside e _)
  · exact h.beside (s.setEye_beside e _)
  · exact h.blockedEdge s e
  · exact h.clearEdge s e

theorem sampleAll (blocked : List Eye) (low : Bool) (order : List SampleInput) : R s (s.sampleAll blocked low order) := by
  refine h.trans (h.foldl s (fun t i => ?_) (inOrder order sampleInputs)) (h.beside ⟨rfl, rfl, rfl, rfl, rfl, rfl, rfl⟩)
  cases i with
  | eye e => exact h.sampleEye t e _
  | estop => exact h.sampleEstop t low

theorem stepTunnel : R s s.stepTunnel :=
  h.trans (h.shift s) (h.past (h.observe _ _ _))

theorem countEncoder : R s s.countEncoder := by
  unfold State.countEncoder
  split
  · exact h.stepTunnel s
  · exact h.beside ⟨rfl, rfl, rfl, rfl, rfl, rfl, rfl⟩

theorem missing (n : RecNo) : R s (s.exitMissing n) := by
  unfold State.exitMissing
  split
  · rename_i there
    exact h.trans (h.exitMissing s n there) (h.next (State.recordAnomaly_beside _ _ _ _) (h.observe _ _ _))
  · exact h.refl s

theorem creditSample : R s s.creditSample :=
  h.past (h.foldl _ (fun t p => h.update t p.1 _) s.rackZones)

/-! ## The millisecond -/

theorem countTimers : R s s.countTimers := by
  have counted : R s (s.withLanes { s.lanes with xt := s.countTimers.lanes.xt }) := by
    refine h.windows s _ ?_
    simp only [State.countTimers]
    split <;> simp
  refine h.trans counted (h.beside ⟨rfl, ?_, rfl, rfl, rfl, rfl, rfl⟩)
  simp only [State.countTimers]
  split <;> rfl

theorem when (due : Bool) {f : State → State} (hf : ∀ t, R t (f t)) : R s (s.when due f) := by
  unfold State.when
  split
  · exact hf s
  · exact h.refl s

/-- A millisecond on an empty queue (notes/assumptions/5.md). -/
theorem tick : R s s.tick := by
  have jams : R s s.countTimers.jamsExpire :=
    h.trans (h.countTimers s) (h.foldl _ (fun t e => h.when t _ fun u => h.declareJam u e) Eye.all)
  have sampled := h.trans jams
    (h.when s.countTimers.jamsExpire (s.countTimers.jamsExpire.heat.sampleTimer = 0) h.creditSample)
  have exits := h.trans sampled (h.foldl _ (fun t n => h.missing t n) (s.countTimers.jamsExpire.when
    (s.countTimers.jamsExpire.heat.sampleTimer = 0) State.creditSample).lanes.runOut)
  exact h.trans (h.trans (h.trans (h.trans (h.trans exits (h.when _ _ h.tunnelStall)) (h.when _ _ h.mergeTimeout))
    (h.when _ _ h.dispatchTimeout)) (h.when _ _ h.heatTimerExpiry)) (h.when _ _ h.settleTimerExpiry)

end MoveClosed

/-! ## The requests that move racks -/

/-- The relation holds over what requests do to the racks too. -/
structure RackClosed (R : State → State → Prop) : Prop extends MoveClosed R where
  /-- REGISTER (R22, R46). -/
  register : ∀ (s : State) (m : RecNo) (p : Place), s.record m = none → (p = .ret ∨ ∃ x, p = .lp x) →
    s.isFull p = false → R s ((s.setSlot m (some Record.registered)).withLanes (s.lanes.join p m))
  /-- The finish of a LOAD (R18, R45). -/
  finish : ∀ (s : State) (m : RecNo) (x : Station), s.lanes.stationOf m = some x → s.isFull (.outfeed x) = false →
    R s (s.finish m x)
  /-- RETIRE (R3, R47). -/
  retire : ∀ (s : State) (m : RecNo), R s ((s.withLanes (s.lanes.remove m)).setSlot m none)
  /-- PLACE (R24, R48). -/
  place : ∀ (s : State) (m : RecNo) (p : Place), s.lanes.onOff m = true → (p = .ret ∨ p = .spur ∨ ∃ x, p = .lp x) →
    s.isFull p = false → R s ((s.updateRecord m (·.placed p)).withLanes
      (({ s.lanes with off := s.lanes.off.filter (·.rack ≠ m) } : Lanes).join p m))
  /-- PURGE (R49). -/
  purge : ∀ s : State, R s { s with slots := Vector.replicate 64 none, lanes := s.lanes.purged }

/-- A LOAD that is to finish is accepted only with room in the outfeed of its station (R21). -/
theorem State.loadRefusal_room {s : State} {n : Node} {m : RecNo} {r : Record} {x : Station}
    (h : s.loadRefusal n m r true = none) (hx : s.lanes.stationOf m = some x) : s.isFull (.outfeed x) = false := by
  by_contra full
  simp only [Bool.not_eq_false] at full
  revert h
  unfold State.loadRefusal
  dsimp only
  rw [hx]
  repeat' split
  all_goals simp_all

namespace RackClosed

variable {R : State → State → Prop} (h : RackClosed R) (s : State)
include h

theorem serveRegister (n : Node) (o : Octet) : R s (s.serveRegister n o).state := by
  unfold State.serveRegister
  split
  · exact h.refl s
  split
  · exact h.refl s
  rename_i p hp
  split
  · exact h.refl s
  split
  · exact h.refl s
  rename_i room
  split
  · exact h.refl s
  rename_i m hm
  have open_ : s.isFull p = false := by
    rw [← Bool.not_eq_true]
    exact fun full => room (.inr full)
  exact h.trans (h.register s m p (State.lowestFree_some hm).1 (registerPlace_cases hp) open_) (h.observe _ _ _)

theorem serveLoad (n : Node) (r : Octet) (replace finish : Bool) (es : List LoadEntry) :
    R s (s.serveLoad n r replace finish es).state := by
  unfold State.serveLoad
  split
  · exact h.refl s
  split
  · exact h.refl s
  split
  · exact h.refl s
  rename_i m _
  split
  · exact h.refl s
  split
  · exact h.refl s
  rename_i v _
  split
  · exact h.refl s
  rename_i accepted
  have loaded := h.update s m fun r => r.loaded replace es (s.lanes.stationOf m).isSome
  show R s (s.applyLoad m replace finish es)
  unfold State.applyLoad
  dsimp only
  refine h.trans ?_ (h.observe _ _ _)
  split
  · rename_i x hx
    have room := State.loadRefusal_room accepted hx
    exact h.trans loaded (h.finish _ m x (by simpa using hx) (by simpa [State.isFull] using room))
  · exact loaded

theorem serveRetire (n : Node) (r : Octet) : R s (s.serveRetire n r).state := by
  unfold State.serveRetire
  repeat' split
  all_goals first
    | exact h.refl s
    | exact h.past (t := s.withdrawFor _) (h.trans (h.retire _ _) (h.observe _ _ _))

theorem servePlace (n : Node) (r o : Octet) : R s (s.servePlace n r o).state := by
  unfold State.servePlace
  split
  · exact h.refl s
  split
  · rename_i m p _ hp
    split
    · exact h.refl s
    split
    · exact h.refl s
    rename_i off
    split
    · exact h.refl s
    rename_i room
    exact h.trans (h.place s m p (by simpa using off) (placeTarget_cases hp) (by simpa using room)) (h.observe _ _ _)
  · exact h.refl s

theorem servePurge (n : Node) : R s (s.servePurge n).state := by
  unfold State.servePurge
  repeat' split
  · exact h.refl s
  · exact h.refl s
  · exact h.trans (h.purge s) (h.next (State.withdrawPermissions_aside _).beside (h.observe _ _ _))

theorem treatHead (m : RecNo) (f : Record → Record) : R s (s.treatHead m f) :=
  h.past (t := { s with unload := { s.unload with release := none } })
    (h.trans (h.update _ m f) (h.next (State.setDiverter_beside _) (h.observe _ _ _)))

theorem serveUnloaded (n : Node) (r : Octet) : R s (s.serveUnloaded n r).state := by
  simp only [State.serveUnloaded]
  repeat' split
  all_goals first
    | exact h.refl s
    | exact h.treatHead s _ _

theorem serveRewash (n : Node) (r : Octet) : R s (s.serveRewash n r).state := by
  simp only [State.serveRewash]
  repeat' split
  all_goals first
    | exact h.refl s
    | exact h.treatHead s _ _

omit s in
/-- Every row but SET and COMMIT, the frame end, which may bring any request, and the hardware reset. -/
theorem exec {c : Instr} {s t : State} (set : ∀ n p i v, c ≠ .set n p i v) (commit : ∀ n, c ≠ .commit n)
    (frame : ∀ slots order, c ≠ .frameEnd slots order) (reset : c ≠ .hardwareReset) (e : exec c s = .next t) :
    R s t := by
  have next {u : State} (k : R s u) (f : (Host.Outcome.next u : Host.Outcome State Fault Refusal) = .next t) : R s t :=
    Host.Outcome.next.inj f ▸ k
  cases c with
  | register n p => exact next (h.answering s _ n (h.serveRegister s n p)) e
  | load n r replace finish es => exact next (h.answering s _ n (h.serveLoad s n r replace finish es)) e
  | unloaded n r => exact next (h.answering s _ n (h.serveUnloaded s n r)) e
  | rewash n r => exact next (h.answering s _ n (h.serveRewash s n r)) e
  | retire n r => exact next (h.answering s _ n (h.serveRetire s n r)) e
  | place n r p => exact next (h.answering s _ n (h.servePlace s n r p)) e
  | purge n => exact next (h.answering s _ n (h.servePurge s n)) e
  | set n p i v => exact absurd rfl (set n p i v)
  | commit n => exact absurd rfl (commit n)
  | blockedEdge x => exact next (h.ifNot s _ (h.blockedEdge s x)) e
  | clearEdge x => exact next (h.ifSo s _ (h.clearEdge s x)) e
  | encoderCount => exact next (h.countEncoder s) e
  | step => exact next (h.stepTunnel s) e
  | exitMissing r => exact next (h.missing s r) e
  | creditSample => exact next (h.creditSample s) e
  | frameEnd slots order => exact absurd rfl (frame slots order)
  | hardwareReset => exact absurd rfl reset
  | eyeSample blocked low order => exact next (h.sampleAll s blocked low order) e
  | _ => exact h.toBesideClosed.exec rfl e

end RackClosed

/-! ## Every request, the frame end and the millisecond -/

/-- The relation holds over SET and over a line command becoming pending too. -/
structure StepClosed (R : State → State → Prop) : Prop extends RackClosed R where
  /-- A line command becomes pending (R160). -/
  setBit : ∀ (s : State) (c : LineCommand) (i : Issuer), R s (s.setBit c i)
  /-- SET stores a value its setting admits (R201). -/
  store : ∀ (s : State) (p : Param) (v : Nat), p.admits v = true → R s (s.store p v)

/-- A value that SET accepts is one its setting admits (R201). -/
theorem acceptValue_admits {p : Param} {v k : Nat} {r : Result} (h : acceptValue p v = some (k, r)) :
    p.admits k = true := by
  have order : p.range.1 ≤ p.range.2 := by cases p <;> simp [Param.range]
  unfold acceptValue at h
  unfold Param.admits
  cases values : p.values with
  | some vs =>
    simp only [values] at h
    split at h
    · rename_i mem
      obtain ⟨rfl, _⟩ := Prod.mk.inj (Option.some.inj h)
      simpa using mem
    · cases h
  | none =>
    simp only [values] at h
    repeat' split at h
    all_goals
      obtain ⟨rfl, _⟩ := Prod.mk.inj (Option.some.inj h)
      simp only [Bool.and_eq_true, decide_eq_true_eq]
      omega

namespace StepClosed

variable {R : State → State → Prop} (h : StepClosed R) (s : State)
include h

theorem anyCommand (n : Node) (c : LineCommand) : R s (s.serveCommand n c).state := by
  unfold State.serveCommand
  repeat' split
  · exact h.refl s
  · exact h.refl s
  · exact h.trans (h.setBit s c _) (h.takeCommands _)

theorem serveSet (n : Node) (p i : Octet) (v : BitVec 16) : R s (s.serveSet n p i v).state := by
  simp only [State.serveSet]
  repeat' split
  all_goals first
    | exact h.refl s
    | (rename_i accepted
       exact h.store s _ _ (acceptValue_admits accepted))

/-- Every request of the decoder (R193). -/
theorem serve (n : Node) (q : Request) : R s (s.serve n q).state := by
  cases q with
  | status => exact h.serveStatus s n
  | readRack r => exact h.serveReadRack s r
  | readLane p i => exact h.serveReadLane s p i
  | register p => exact h.serveRegister s n p
  | load r replace finish es => exact h.serveLoad s n r replace finish es
  | unloaded r => exact h.serveUnloaded s n r
  | rewash r => exact h.serveRewash s n r
  | retire r => exact h.serveRetire s n r
  | place r p => exact h.servePlace s n r p
  | purge => exact h.servePurge s n
  | command c =>
    simp only [State.serve]
    split
    · exact h.anyCommand s n _
    · exact h.refl s
  | set p i v => exact h.serveSet s n p i v
  | get p i => exact h.serveGet s n p i

theorem frameClosed : FrameClosed R where
  toLineClosed := h.toLineClosed
  serve := h.serve
  answer _ _ := h.beside ⟨rfl, rfl, rfl, rfl, rfl, rfl, rfl⟩

omit s in
/-- Every command but the hardware reset. -/
theorem exec {c : Instr} {s t : State} (hc : c ≠ .hardwareReset) (e : exec c s = .next t) : R s t := by
  have next {u : State} (k : R s u) (f : (Host.Outcome.next u : Host.Outcome State Fault Refusal) = .next t) : R s t :=
    Host.Outcome.next.inj f ▸ k
  cases c with
  | set n p i v => exact next (h.answering s _ n (h.serveSet s n p i v)) e
  | commit n => exact next (h.answering s _ n (h.anyCommand s n .commit)) e
  | frameEnd slots order => exact next (h.frameClosed.frameEnd s slots order) e
  | _ => exact h.toRackClosed.exec (by simp) (by simp) (by simp) hc e

omit s in
/-- Every step: the relation holds over it, or it is a hardware reset (R177). -/
theorem step {s t : State} (e : step s = .next t) :
    R s t ∨ t = { State.reset with pending := t.pending, draws := t.draws } := by
  unfold Machine.step at e
  split at e
  · exact .inl (Host.Outcome.next.inj e ▸ h.tick s)
  · rename_i c rest _
    by_cases reset : c = .hardwareReset
    · subst reset
      obtain rfl := Host.Outcome.next.inj e
      exact .inr rfl
    · exact .inl (h.past (t := { s with pending := rest }) (h.exec reset e))

end StepClosed

/-- An invariant, as the relation that it is kept. -/
def keeping (P : State → Prop) : State → State → Prop := fun s t => P s → P t

end Sys2Proof.Machine
end
section
/-! Every record stays in one place, once, and the finish-order list stays that of the outfeeds (R29, R35). -/

namespace Sys2Proof.Machine

/-! ## The finish-order list (R35) -/

section
variable {l k : Lanes}

theorem Lanes.finishOrdered_congr (h : l.finishOrdered) (outfeed : k.outfeed = l.outfeed)
    (order : k.finishOrder = l.finishOrder) : k.finishOrdered := by
  unfold Lanes.finishOrdered
  rw [outfeed, order]
  exact h

/-- Only a record of an outfeed stands in the list. -/
theorem Lanes.finishOrdered_mem (h : l.finishOrdered) {n : RecNo} (hn : n ∈ l.finishOrder) :
    ∃ x, n ∈ l.outfeed.get x := by
  obtain ⟨x, _, hx⟩ := h.1 n hn
  exact ⟨x, hx⟩

/-- A record gone from its outfeed is gone from the list. -/
theorem Lanes.finishOrdered_without (h : l.finishOrdered) {n : RecNo}
    (outfeed : ∀ x, k.outfeed.get x = (l.outfeed.get x).filter (· ≠ n))
    (order : k.finishOrder = l.finishOrder.filter (· ≠ n)) : k.finishOrdered := by
  refine ⟨fun m hm => ?_, fun x _ => ?_⟩
  · rw [order, List.mem_filter] at hm
    obtain ⟨x, hx, mem⟩ := h.1 m hm.1
    exact ⟨x, hx, by rw [outfeed]; exact List.mem_filter.2 ⟨mem, hm.2⟩⟩
  · have both : (l.finishOrder.filter (· ≠ n)).filter (fun m => decide (m ∈ k.outfeed.get x)) =
        (l.finishOrder.filter fun m => decide (m ∈ l.outfeed.get x)).filter (· ≠ n) := by
      rw [List.filter_filter, List.filter_filter]
      refine List.filter_congr fun m _ => ?_
      simp only [outfeed, List.mem_filter]
      by_cases e : m = n <;> simp [e]
    rw [order, both, h.2 x (Station.mem_all x), outfeed]

/-- A record that has finished joins its outfeed and the list at their tails (R18). -/
theorem Lanes.finishOrdered_finish (h : l.finishOrdered) {n : RecNo} {x : Station} (new : ∀ y, n ∉ l.outfeed.get y)
    (outfeed : k.outfeed = l.outfeed.set x (l.outfeed.get x ++ [n])) (order : k.finishOrder = l.finishOrder ++ [n]) :
    k.finishOrdered := by
  have here (y : Station) : k.outfeed.get y = if y = x then l.outfeed.get y ++ [n] else l.outfeed.get y := by
    rw [outfeed, PerStation.get_set]
    split
    · rename_i e
      rw [e]
    · rfl
  have absent : n ∉ l.finishOrder := fun hn => (Lanes.finishOrdered_mem h hn).elim new
  refine ⟨fun m hm => ?_, fun y hy => ?_⟩
  · rw [order, List.mem_append, List.mem_singleton] at hm
    rcases hm with old | rfl
    · obtain ⟨z, hz, mem⟩ := h.1 m old
      refine ⟨z, hz, ?_⟩
      rw [here]
      split
      · exact List.mem_append_left _ mem
      · exact mem
    · exact ⟨x, Station.mem_all x, by rw [here, if_pos rfl]; simp⟩
  · have old : l.finishOrder.filter (fun m => decide (m ∈ k.outfeed.get y)) = l.outfeed.get y := by
      rw [← h.2 y hy]
      refine List.filter_congr fun m hm => ?_
      have other : m ≠ n := fun e => absent (e ▸ hm)
      rw [here]
      split <;> simp [other]
    rw [order, List.filter_append, old, here]
    split
    · simp
    · simp [new y]

end

/-! ## Where the records are (R29) -/

section
variable {s t : State}

theorem State.placed_congr (h : s.placed) (holdings : ∀ n, t.lanes.holdings n = s.lanes.holdings n)
    (record : ∀ n, (t.record n).isSome = (s.record n).isSome) : t.placed := fun n => by
  rw [holdings, record, h n]

/-- A record allocated and set down in a place. -/
theorem State.placed_new (h : s.placed) {n : RecNo} (free : s.record n = none)
    (holdings : ∀ m, t.lanes.holdings m = s.lanes.holdings m + if m = n then 1 else 0) (new : (t.record n).isSome = true)
    (others : ∀ m, m ≠ n → t.record m = s.record m) : t.placed := fun m => by
  rw [holdings, h m]
  by_cases e : m = n
  · subst e
    simp [free, new]
  · simp [e, others m e]

theorem State.placed_cleared (free : ∀ n, t.record n = none)
    (empty : ∀ p ∈ Place.holding, t.lanes.contents p = []) : t.placed :=
  (State.Racked.cleared free empty).placed

theorem State.isSome_updateRecord (s : State) (n m : RecNo) (f : Record → Record) :
    ((s.updateRecord n f).record m).isSome = (s.record m).isSome := by
  rw [State.record_updateRecord]
  split
  · rename_i e
    rw [e, Option.isSome_map]
  · rfl

/-- A record that is sent to OFF or joins its destination, with room there, is held once more (R39, R42). -/
theorem State.holdings_land (s : State) (u : State) (e : Eye) (n m : RecNo) :
    (u.land e n (s.destination e)).state.lanes.holdings m = u.lanes.holdings m + if m = n then 1 else 0 := by
  rcases u.land_lanes e n (s.destination e) with ⟨r, h⟩ | ⟨q, hq, room, h⟩ <;> rw [h]
  · exact u.lanes.holdings_sendOff n m r
  · exact State.holdings_join_destination hq room n m

/-- A passage moves the head of its source, or a phantom that it allocates, or nothing (R37, R40, R41). -/
theorem State.placed_reconcile (h : s.placed) (e : Eye) : (s.reconcile e).state.placed := by
  cases head : s.lanes.sourceHead e with
  | some n =>
    have left := Lanes.holdings_pop head
    refine State.placed_congr h (fun m => ?_) fun m => ?_
    · rw [State.reconcile_ordinary head, State.ordinaryPassage_eq]
      show ((s.moving e n).land e n (s.destination e)).state.lanes.holdings m = _
      rw [State.holdings_land, State.moving_lanes]
      exact left m
    · rw [State.record_ordinary head]
      split
      · rename_i k
        rw [k, Option.isSome_map]
      · rfl
  | none =>
    obtain ⟨slots, lanes⟩ := s.endPermission_slots_lanes e
    have nothing : (s.endPermission e).placed :=
      State.placed_congr h (fun m => by rw [lanes]) fun m => by rw [State.record_congr slots]
    by_cases ds : e = .ds
    · subst ds
      rw [State.phantom_ds head]
      exact nothing
    · cases free : s.lowestFree with
      | none =>
        rw [State.phantom_tableFull head ds free]
        exact nothing
      | some n =>
        refine State.placed_new h (State.lowestFree_some free).1 (fun m => ?_) ?_ fun m hm => ?_
        · rw [State.reconcile_phantom head, State.phantomPassage_eq ds free]
          show ((s.conjured e n).land e n (s.destination e)).state.lanes.holdings m = _
          rw [State.holdings_land, State.conjured_lanes]
        · rw [State.record_phantom head ds free, if_pos rfl]
          rfl
        · rw [State.record_phantom head ds free, if_neg hm]

/-- What holds a list of racks at one place, and lets one of them go. -/
theorem State.count_filter_once (h : s.placed) {p : Place} (hp : p ∈ Place.holding) {n : RecNo}
    (mem : n ∈ s.lanes.contents p) (m : RecNo) :
    ((s.lanes.contents p).filter (· ≠ n)).count m + (if m = n then 1 else 0) = (s.lanes.contents p).count m := by
  rw [count_filter_rack]
  by_cases e : m = n
  · subst e
    rw [if_pos rfl, if_pos rfl, State.count_eq_one h hp mem]
  · rw [if_neg e, if_neg e]
    rfl

theorem State.placed_place (h : s.placed) {m : RecNo} {p : Place} (off : s.lanes.onOff m = true)
    (hp : p = .ret ∨ p = .spur ∨ ∃ x, p = .lp x) (room : s.isFull p = false) :
    ((s.updateRecord m (·.placed p)).withLanes
      (({ s.lanes with off := s.lanes.off.filter (·.rack ≠ m) } : Lanes).join p m)).placed := by
  have mem : m ∈ s.lanes.contents .off := by
    obtain ⟨x, hx, e⟩ := List.any_eq_true.1 off
    exact List.mem_map.2 ⟨x, hx, by simpa using e⟩
  refine State.placed_congr h (fun k => ?_) fun k => s.isSome_updateRecord m k _
  have left : ({ s.lanes with off := s.lanes.off.filter (·.rack ≠ m) } : Lanes).holdings k
      + (if k = m then 1 else 0) = s.lanes.holdings k := by
    have once := State.count_filter_once h (p := .off) (by decide) mem k
    simp only [Lanes.contents] at once
    simp only [Lanes.holdings_eq, map_rack_filter_off]
    omega
  rw [State.withLanes_lanes, ← left]
  rcases hp with rfl | rfl | ⟨x, rfl⟩
  · exact Lanes.holdings_join_fifo _ .ret m k (.inr (.inr (.inr rfl)))
  · exact Lanes.holdings_join_fifo _ .spur m k (.inl rfl)
  · exact Lanes.holdings_join_lp _ x m k (by simpa [State.isFull] using room)

theorem State.placed_exitMissing (h : s.placed) {n : RecNo} (there : s.lanes.exitTiming n = true) :
    (s.withLanes { s.lanes.sendOff n .exitMissing with xt := s.lanes.xt.filter (·.rack ≠ n) }).placed := by
  have mem : n ∈ s.lanes.contents .xt := by
    obtain ⟨x, hx, e⟩ := List.any_eq_true.1 there
    simp only [Bool.and_eq_true, decide_eq_true_eq] at e
    exact List.mem_map.2 ⟨x, hx, e.1⟩
  refine State.placed_congr h (fun k => ?_) fun _ => rfl
  have once := State.count_filter_once h (p := .xt) (by decide) mem k
  simp only [Lanes.contents] at once
  have joined := s.lanes.holdings_sendOff n k .exitMissing
  simp only [Lanes.holdings_eq] at joined ⊢
  simp only [State.withLanes_lanes, map_rack_filter_xt]
  simp only [Lanes.sendOff] at joined ⊢
  omega

/-- A step of the tunnel holds the last cell's record in XT, and one that XT has no room for on OFF (R75, R76). -/
theorem State.holdings_shift (s : State) (m : RecNo) :
    s.leaveTunnel.1.lanes.shifted.holdings m = s.lanes.holdings m := by
  cases last : s.lanes.lastCell with
  | none =>
    have stays : s.leaveTunnel.1 = s := by simp [State.leaveTunnel, last]
    rw [stays]
    exact s.lanes.holdings_shifted_empty m last
  | some n =>
    have left := s.lanes.holdings_shifted n m last
    rcases State.leaveTunnel_lanes last with ⟨old, rest, hx, h⟩ | h <;> rw [h] <;>
      simp only [Lanes.holdings_eq, Lanes.shifted, Lanes.sendOff, List.map_append, List.count_append, List.map_cons,
        List.map_nil, count_one] at left ⊢
    · rw [hx, List.map_cons, count_cons_rack] at left ⊢
      omega
    · omega

end

/-! ## Every event keeps both -/

/-- Every record in one place, once, and the finish-order list that of the outfeeds. -/
def State.Ordered (s : State) : Prop := s.placed ∧ s.lanes.finishOrdered

section
variable {s t : State}

/-- Records and places as they were. -/
theorem State.Ordered.congr (h : s.Ordered) (lanes : t.lanes = s.lanes)
    (record : ∀ n, (t.record n).isSome = (s.record n).isSome) : t.Ordered :=
  ⟨State.placed_congr h.1 (fun n => by rw [lanes]) record, Lanes.finishOrdered_congr h.2 (by rw [lanes]) (by rw [lanes])⟩

theorem State.Ordered.settled (h : s.Ordered) (k : s.Settled t) : t.Ordered := by
  rcases k with k | ⟨passes, k⟩
  · exact h.congr k.lanes fun n => by rw [k.record]
  · have applied : s.applySettings.Ordered :=
      ⟨State.placed_congr h.1 (fun n => Lanes.holdings_congr (fun p _ => State.applySettings_held passes p) n)
        fun _ => rfl, Lanes.finishOrdered_congr h.2 rfl rfl⟩
    exact applied.congr k.lanes fun n => by rw [k.record]

/-- A passage takes a record out of an outfeed at its head, once, and puts none there (R35, R36). -/
theorem State.Ordered.reconcile (h : s.Ordered) (e : Eye) : (s.reconcile e).state.Ordered := by
  refine ⟨State.placed_reconcile h.1 e, ?_⟩
  have landed (u : State) (n : RecNo) (k : u.lanes.finishOrdered) :
      (u.land e n (s.destination e)).state.lanes.finishOrdered := by
    rcases u.land_lanes e n (s.destination e) with ⟨r, l⟩ | ⟨q, hq, _, l⟩ <;> rw [l]
    · exact Lanes.finishOrdered_congr k rfl rfl
    · have fifo : q ≠ .finishOrder ∧ ∀ x, q ≠ .outfeed x := by
        cases e with
        | ul =>
          obtain rfl := Option.some.inj hq
          cases s.unload.diverter <;> simp [Diverter.place]
        | ds =>
          obtain ⟨x, _, rfl⟩ := Option.map_eq_some_iff.1 hq
          simp
        | _ =>
          obtain rfl := Option.some.inj hq
          simp
      cases q with
      | outfeed x => exact absurd rfl (fifo.2 x)
      | finishOrder => exact absurd rfl fifo.1
      | _ => exact Lanes.finishOrdered_congr k rfl rfl
  cases head : s.lanes.sourceHead e with
  | some n =>
    rw [State.reconcile_ordinary head, State.ordinaryPassage_eq]
    refine landed _ n ?_
    rw [State.moving_lanes]
    cases e with
    | outfeed x =>
      obtain ⟨rest, hx⟩ := List.head?_eq_some_iff.1 head
      have once := State.count_eq_one h.1 (p := .outfeed x) (sourcePlace_holding (.outfeed x)) (Lanes.mem_source head)
      have pop : s.lanes.pop (.outfeed x) = { s.lanes with
          outfeed := s.lanes.outfeed.set x rest, finishOrder := s.lanes.finishOrder.filter (· ≠ n) } := by
        simp [Lanes.pop, hx]
      rw [pop]
      refine Lanes.finishOrdered_without h.2 (n := n) (fun y => ?_) rfl
      have gone (q : List RecNo) (hq : n ∉ q) : q.filter (· ≠ n) = q :=
        List.filter_eq_self.2 fun m hm => by simpa using fun c : m = n => hq (c ▸ hm)
      rw [PerStation.get_set]
      split
      · rename_i same
        subst same
        have absent : n ∉ rest := by
          rw [Lanes.contents, hx, List.count_cons_self] at once
          exact List.count_eq_zero.1 (by omega)
        rw [hx, List.filter_cons_of_neg (by simp), gone rest absent]
      · rename_i other
        refine (gone _ fun mem => other ?_).symm
        have same := State.placed_unique h.1 (p := .outfeed y) (q := .outfeed x) (sourcePlace_holding (.outfeed y))
          (sourcePlace_holding (.outfeed x)) mem (Lanes.mem_source head)
        exact Place.outfeed.inj same
    | _ => exact Lanes.finishOrdered_congr h.2 rfl rfl
  | none =>
    obtain ⟨_, lanes⟩ := s.endPermission_slots_lanes e
    rw [State.reconcile_phantom head]
    unfold State.phantomPassage
    dsimp only
    split
    · rw [lanes]
      exact h.2
    · split
      · refine landed _ _ ?_
        rw [State.setSlot_lanes, lanes]
        exact h.2
      · rw [lanes]
        exact h.2

theorem State.Ordered.finish (h : s.Ordered) {m : RecNo} {x : Station} (hx : s.lanes.stationOf m = some x) :
    (s.finish m x).Ordered := by
  have here := Lanes.stationOf_mem hx
  refine ⟨State.placed_congr h.1 (fun k => ?_) fun k => s.isSome_updateRecord m k _, ?_⟩
  · have joined := Lanes.holdings_join_outfeed { s.lanes with lp := s.lanes.lp.set x none } x m k
    rw [Lanes.holdings_lp_none (Lanes.stationOf_some hx)] at joined
    refine (Lanes.holdings_congr (fun p hp => ?_) k).trans joined
    cases p with
    | finishOrder => exact absurd hp (by decide)
    | _ => rfl
  · refine Lanes.finishOrdered_finish h.2 (n := m) (x := x) (fun y mem => ?_) rfl rfl
    have same := State.placed_unique h.1 (Place.lp_holding x) (sourcePlace_holding (.outfeed y)) here mem
    cases same

theorem State.Ordered.retire (h : s.Ordered) (m : RecNo) : ((s.withLanes (s.lanes.remove m)).setSlot m none).Ordered := by
  refine ⟨fun k => ?_, Lanes.finishOrdered_without h.2 (n := m) (fun y => ?_) rfl⟩
  · have old := h.1 k
    rw [State.setSlot_lanes, State.withLanes_lanes, Lanes.holdings_remove, State.record_setSlot]
    split
    · rfl
    · exact old
  · cases y <;> rfl

theorem State.Ordered.register (h : s.Ordered) {m : RecNo} {p : Place} (free : s.record m = none)
    (hp : p = .ret ∨ ∃ x, p = .lp x) (room : s.isFull p = false) :
    ((s.setSlot m (some Record.registered)).withLanes (s.lanes.join p m)).Ordered := by
  refine ⟨State.placed_new h.1 free (fun k => ?_) (by simp) fun k hk => by simp [hk], ?_⟩
  · rcases hp with rfl | ⟨x, rfl⟩
    · exact s.lanes.holdings_join_fifo .ret m k (.inr (.inr (.inr rfl)))
    · exact s.lanes.holdings_join_lp x m k (by simpa [State.isFull] using room)
  · rcases hp with rfl | ⟨x, rfl⟩ <;> exact Lanes.finishOrdered_congr h.2 rfl rfl

theorem State.Ordered.place (h : s.Ordered) {m : RecNo} {p : Place} (off : s.lanes.onOff m = true)
    (hp : p = .ret ∨ p = .spur ∨ ∃ x, p = .lp x) (room : s.isFull p = false) :
    ((s.updateRecord m (·.placed p)).withLanes
      (({ s.lanes with off := s.lanes.off.filter (·.rack ≠ m) } : Lanes).join p m)).Ordered := by
  refine ⟨State.placed_place h.1 off hp room, ?_⟩
  rcases hp with rfl | rfl | ⟨x, rfl⟩ <;> exact Lanes.finishOrdered_congr h.2 rfl rfl

theorem State.Ordered.cleared (free : ∀ n, t.record n = none)
    (empty : ∀ p ∈ Place.holding ++ [.finishOrder], t.lanes.contents p = []) : t.Ordered := by
  have order : t.lanes.finishOrder = [] := empty .finishOrder (by decide)
  have outfeed (x : Station) : t.lanes.outfeed.get x = [] :=
    empty (.outfeed x) (List.mem_append_left _ (sourcePlace_holding (.outfeed x)))
  refine ⟨State.placed_cleared free fun p hp => empty p (List.mem_append_left _ hp), fun n hn => ?_, fun x _ => ?_⟩
  · simp [order] at hn
  · simp [order, outfeed]

/-- After PURGE no place holds a record (R49). -/
theorem Lanes.purged_contents (l : Lanes) : ∀ p ∈ Place.holding ++ [.finishOrder], l.purged.contents p = [] := by
  intro p hp
  fin_cases hp <;> simp [Lanes.contents, Lanes.purged, Lanes.reset, PerStation.const, PerStation.get]

/-- After PURGE no slot is allocated (R49). -/
theorem record_freed {t : State} (h : t.slots = Vector.replicate 64 none) (n : RecNo) : t.record n = none := by
  simp [State.record, h, Vector.get_eq_getElem]

end

theorem State.ordered_closed : StepClosed (keeping State.Ordered) where
  refl _ h := h
  trans h k p := k (h p)
  beside k h := h.congr k.lanes fun n => by rw [State.record_congr k.slots]
  take s c i _ h := h.settled (s.take_settled c i)
  newHead s before h := h.congr (s.takeNewHead_lanes before) fun n => by
    rw [State.record_takeNewHead]
    split
    · rw [Option.isSome_map]
    · rfl
  windows s xt racks h := by
    refine ⟨State.placed_congr h.1 (fun n => Lanes.holdings_congr (fun p _ => ?_) n) fun _ => rfl,
      Lanes.finishOrdered_congr h.2 rfl rfl⟩
    cases p with
    | xt => exact racks
    | _ => rfl
  update s n f h := h.congr (s.updateRecord_lanes n f) fun m => s.isSome_updateRecord n m f
  reconcile s e h := h.reconcile e
  shift s h := by
    refine ⟨State.placed_congr h.1 s.holdings_shift fun n => ?_, ?_⟩
    · rw [State.record_withLanes, State.record_leaveTunnel]
      split
      · rw [Option.isSome_map]
      · rfl
    · cases last : s.lanes.lastCell with
      | none =>
        have stays : s.leaveTunnel.1 = s := by simp [State.leaveTunnel, last]
        rw [stays]
        exact Lanes.finishOrdered_congr h.2 rfl rfl
      | some n =>
        rcases State.leaveTunnel_lanes last with ⟨old, rest, _, l⟩ | l <;> rw [State.withLanes_lanes, l] <;>
          exact Lanes.finishOrdered_congr h.2 rfl rfl
  exitMissing s n there h := ⟨State.placed_exitMissing h.1 there, Lanes.finishOrdered_congr h.2 rfl rfl⟩
  setBit s c i h := h.settled (.of_controlled (s.setBit_controlled c i))
  store s p v _ h := by
    cases p <;> exact h.congr rfl fun _ => rfl
  register s m p free hp room h := h.register free hp room
  finish s m x hx _ h := h.finish hx
  retire s m h := h.retire m
  place s m p off hp room h := h.place off hp room
  purge s _ := .cleared (record_freed rfl) s.lanes.purged_contents

/-- Settles O52: no event loses a record, holds one twice, or parts the finish-order list from the outfeeds. -/
theorem racksStayPlacedAtEveryStep : Obligations.RacksStayPlacedAtEveryStep := by
  intro s t placed ordered e
  rcases State.ordered_closed.step e with kept | reset
  · exact kept ⟨placed, ordered⟩
  · have empty : t.Ordered := by
      rw [reset]
      exact .cleared State.reset_record Lanes.reset_contents
    exact empty

end Sys2Proof.Machine
end
section
/-! No place exceeds its capacity and every setting keeps to its range (R27, R201). -/

namespace Sys2Proof.Machine

/-! ## The settings (R201, R202) -/

theorem get_set_index {α : Type} {n : Nat} (v : Vector α n) (c d : Fin n) (x : α) :
    (v.set c.val x c.isLt).get d = if d = c then x else v.get d := by
  simp only [Vector.get_eq_getElem, Vector.getElem_set, Fin.ext_iff]
  exact if_congr eq_comm rfl rfl

/-- The settings with a stored value; the others have one value for both (R201). -/
def hasStored (p : Param) : Prop := p ≠ .rackLimit ∧ p ≠ .unknownClass ∧ p ≠ .fixPoint

theorem Settings.value_withValue_same {p : Param} (double : hasStored p) (t : Settings) (v : Nat) :
    (t.withValue p v).value p = v := by
  obtain ⟨limit, unknown, point⟩ := double
  cases p with
  | rackLimit => exact absurd rfl limit
  | unknownClass => exact absurd rfl unknown
  | fixPoint => exact absurd rfl point
  | _ => simp [Settings.withValue, Settings.value, get_set_index]

/-- Each setting has a place of its own. -/
theorem Settings.value_withValue_other {p q : Param} (h : q ≠ p) (t : Settings) (v : Nat) :
    (t.withValue p v).value q = t.value q := by
  cases p with
  | zoneWeight z b =>
    cases q with
    | zoneWeight y d =>
      simp only [Settings.withValue, Settings.value, PerZone.get_set]
      split
      · rename_i zone
        subst zone
        rw [get_set_index, if_neg fun band => h (by rw [band])]
      · rfl
    | _ => rfl
  | _ => cases q <;> first | rfl | simp_all [Settings.withValue, Settings.value, get_set_index]

/-- SET of a setting that has a stored value writes that value (R201). -/
theorem State.store_double {p : Param} (double : hasStored p) (s : State) (v : Nat) :
    s.store p v = { s with stored := s.stored.withValue p v } := by
  obtain ⟨limit, unknown, point⟩ := double
  cases p with
  | rackLimit => exact absurd rfl limit
  | unknownClass => exact absurd rfl unknown
  | fixPoint => exact absurd rfl point
  | _ => rfl

theorem SingleSettings.value_double {p : Param} (double : hasStored p) (t : SingleSettings) : t.value p = none := by
  obtain ⟨limit, unknown, point⟩ := double
  cases p with
  | rackLimit => exact absurd rfl limit
  | unknownClass => exact absurd rfl unknown
  | fixPoint => exact absurd rfl point
  | _ => rfl

theorem State.settingsInRange_congr {s t : State} (h : s.settingsInRange) (single : t.single = s.single)
    (stored : t.stored = s.stored) (working : t.working = s.working) : t.settingsInRange := fun p => by
  simp only [State.storedValue, State.workingValue, single, stored, working]
  exact h p

/-- The working values that a COMMIT gives are the stored ones (R174). -/
theorem State.settingsInRange_apply {s : State} (h : s.settingsInRange) : s.applySettings.settingsInRange :=
  fun p => ⟨(h p).1, (h p).1⟩

/-- SET keeps every setting in its range (R201). -/
theorem State.settingsInRange_store {s : State} (h : s.settingsInRange) {p : Param} {v : Nat}
    (admits : p.admits v = true) : (s.store p v).settingsInRange := by
  by_cases double : hasStored p
  · rw [State.store_double double]
    refine fun q => ⟨?_, (h q).2⟩
    by_cases e : q = p
    · subst e
      simpa [State.storedValue, SingleSettings.value_double double, Settings.value_withValue_same double] using admits
    · simpa [State.storedValue, Settings.value_withValue_other e] using (h q).1
  · cases p with
    | rackLimit =>
      intro q
      cases q with
      | rackLimit => exact ⟨admits, admits⟩
      | _ => exact h _
    | unknownClass =>
      intro q
      cases q with
      | unknownClass =>
        have range : (decide (0 ≤ v) && decide (v ≤ 7)) = true := admits
        have small : v ≤ 7 := of_decide_eq_true (Bool.and_eq_true_iff.1 range).2
        have kept : (Fin.ofNat 8 v).val = v := Nat.mod_eq_of_lt (Nat.lt_succ_of_le small)
        have both : Param.unknownClass.admits (Fin.ofNat 8 v).val = true := by rwa [kept]
        exact ⟨both, both⟩
      | _ => exact h _
    | fixPoint =>
      intro q
      cases q with
      | fixPoint =>
        have both : Param.fixPoint.admits (FixPoint.code (if v = 0 then .merge else .entry)) = true := by
          split <;> rfl
        exact ⟨both, both⟩
      | _ => exact h _
    | _ => exact absurd ⟨by simp, by simp, by simp⟩ double

/-! ## The places (R27) -/

/-- No place of capacity holds more than before, and the tunnel has as many cells. -/
structure Lanes.NoFuller (l k : Lanes) : Prop where
  outfeed : ∀ x, (k.outfeed.get x).length ≤ (l.outfeed.get x).length
  spur : k.spur.length ≤ l.spur.length
  acc : k.acc.length ≤ l.acc.length
  cells : k.cells.length = l.cells.length
  xt : k.xt.length ≤ l.xt.length
  unl : k.unl.length ≤ l.unl.length
  ret : k.ret.length ≤ l.ret.length

section
variable {l k : Lanes} {t : Settings}

theorem Lanes.within.noFuller (h : l.within t) (f : l.NoFuller k) : k.within t := by
  obtain ⟨outfeed, spur, acc, cells, xt, unl, ret⟩ := h
  exact ⟨fun x hx => (f.outfeed x).trans (outfeed x hx), f.spur.trans spur, f.acc.trans acc, f.cells.trans cells,
    f.xt.trans xt, f.unl.trans unl, f.ret.trans ret⟩

theorem Lanes.noFuller_refl (l : Lanes) : l.NoFuller l :=
  ⟨fun _ => le_rfl, le_rfl, le_rfl, rfl, le_rfl, le_rfl, le_rfl⟩

theorem Lanes.NoFuller.of_eq (h : k = l) : l.NoFuller k := h ▸ l.noFuller_refl

/-- What leaves a place by a passage makes none fuller. -/
theorem Lanes.noFuller_pop (l : Lanes) (e : Eye) : l.NoFuller (l.pop e) := by
  have same := l.noFuller_refl
  cases e with
  | outfeed x =>
    simp only [Lanes.pop]
    split
    · rename_i n rest hx
      refine { same with outfeed := fun y => ?_ }
      rw [PerStation.get_set]
      split
      · rename_i e
        rw [e, hx]
        simp
      · exact le_rfl
    · exact same
  | sp => exact { same with spur := by simp [Lanes.pop] }
  | en => exact { same with acc := by simp [Lanes.pop] }
  | ex => exact { same with xt := by simp [Lanes.pop] }
  | ul => exact { same with unl := by simp [Lanes.pop] }
  | ds => exact { same with ret := by simp [Lanes.pop] }

theorem Lanes.noFuller_remove (l : Lanes) (n : RecNo) : l.NoFuller (l.remove n) where
  outfeed x := by cases x <;> exact List.length_filter_le _ _
  spur := List.length_filter_le _ _
  acc := List.length_filter_le _ _
  cells := List.length_map _
  xt := List.length_filter_le _ _
  unl := List.length_filter_le _ _
  ret := List.length_filter_le _ _

theorem Lanes.noFuller_purged (l : Lanes) : l.NoFuller l.purged where
  outfeed x := by simp [Lanes.purged, Lanes.reset]
  spur := by simp [Lanes.purged, Lanes.reset]
  acc := by simp [Lanes.purged, Lanes.reset]
  cells := by simp [Lanes.purged]
  xt := by simp [Lanes.purged, Lanes.reset]
  unl := by simp [Lanes.purged, Lanes.reset]
  ret := by simp [Lanes.purged, Lanes.reset]

theorem length_join_outfeed {c : Nat} {v : PerStation (List RecNo)} (h : ∀ x ∈ Station.all, (v.get x).length ≤ c)
    {y : Station} (room : (v.get y).length < c) (n : RecNo) :
    ∀ x ∈ Station.all, ((v.set y (v.get y ++ [n])).get x).length ≤ c := fun x hx => by
  rw [PerStation.get_set]
  split
  · rw [List.length_append, List.length_singleton]
    exact room
  · exact h x hx

end

section
variable {s t : State}

/-- Every place within its working capacity and every setting in its range. -/
def State.Bounded (s : State) : Prop := s.settingsInRange ∧ s.lanes.within s.working

theorem State.Bounded.congr (h : s.Bounded) (lanes : s.lanes.NoFuller t.lanes) (single : t.single = s.single)
    (stored : t.stored = s.stored) (working : t.working = s.working) : t.Bounded :=
  ⟨State.settingsInRange_congr h.1 single stored working, by
    rw [working]
    exact Lanes.within.noFuller h.2 lanes⟩

/-- A record joins a place that is not full. -/
theorem State.within_join (h : s.lanes.within s.working) {p : Place} (room : s.isFull p = false) (n : RecNo) :
    (s.lanes.join p n).within s.working := by
  obtain ⟨outfeed, spur, acc, cells, xt, unl, ret⟩ := h
  simp only [State.isFull] at room
  cases p with
  | outfeed y =>
    exact ⟨length_join_outfeed outfeed (by simpa using room) n, spur, acc, cells, xt, unl, ret⟩
  | spur => exact ⟨outfeed, by simpa [Lanes.join] using room, acc, cells, xt, unl, ret⟩
  | acc => exact ⟨outfeed, spur, by simpa [Lanes.join] using room, cells, xt, unl, ret⟩
  | tun => exact ⟨outfeed, spur, acc, by simpa [Lanes.join] using cells, xt, unl, ret⟩
  | unl => exact ⟨outfeed, spur, acc, cells, xt, by simpa [Lanes.join] using room, ret⟩
  | ret => exact ⟨outfeed, spur, acc, cells, xt, unl, by simpa [Lanes.join] using room⟩
  | _ => exact ⟨outfeed, spur, acc, cells, xt, unl, ret⟩

theorem State.within_land (s : State) {u : State} (h : u.lanes.within u.working) (e : Eye) (n : RecNo) :
    (u.land e n (s.destination e)).state.lanes.within u.working := by
  rcases u.land_lanes e n (s.destination e) with ⟨r, l⟩ | ⟨q, _, room, l⟩ <;> rw [l]
  · exact h
  · exact State.within_join h room n

/-- A passage takes one record from its source and gives one to its destination where that has room (R37, R40, R42). -/
theorem State.within_reconcile (h : s.lanes.within s.working) (e : Eye) :
    (s.reconcile e).state.lanes.within s.working := by
  obtain ⟨admission, release, merge, grant, k⟩ := s.endPermission_form e
  cases head : s.lanes.sourceHead e with
  | some n =>
    rw [State.reconcile_ordinary head, State.ordinaryPassage_eq]
    have left : (s.moving e n).lanes.within (s.moving e n).working := by
      rw [State.moving_lanes, State.moving_working]
      exact Lanes.within.noFuller h (s.lanes.noFuller_pop e)
    have landed := s.within_land left e n
    rw [State.moving_working] at landed
    exact landed
  | none =>
    have nothing : (s.endPermission e).lanes.within s.working := by
      rw [k]
      exact h
    rw [State.reconcile_phantom head]
    unfold State.phantomPassage
    dsimp only
    split
    · exact nothing
    · split
      · rename_i n _
        have made : ((s.endPermission e).setSlot n (some (phantomRecord e s.single s.unload.diverter))).lanes.within
            ((s.endPermission e).setSlot n (some (phantomRecord e s.single s.unload.diverter))).working := by
          rw [k]
          exact h
        have landed := s.within_land made e n
        rw [State.setSlot_working, k] at landed
        rw [k]
        exact landed
      · exact nothing

theorem State.Bounded.reconcile (h : s.Bounded) (e : Eye) : (s.reconcile e).state.Bounded := by
  obtain ⟨slots, lanes, nodes, f⟩ := s.reconcile_form e
  obtain ⟨admission, release, merge, grant, k⟩ := s.endPermission_form e
  have working : (s.reconcile e).state.working = s.working := by rw [f, k]
  refine ⟨State.settingsInRange_congr h.1 (by rw [f, k]) (by rw [f, k]) working, ?_⟩
  rw [working]
  exact State.within_reconcile h.2 e

/-- A COMMIT passes only where each place fits its stored capacity, and the tunnel gets its stored number of cells
(R96, R173). -/
theorem State.within_apply (h : s.lanes.within s.working) (passes : s.commitFailure = none) :
    s.applySettings.lanes.within s.applySettings.working := by
  have fits : s.laneFills.findIdx? (fun p => p.2 < p.1) = none := by
    unfold State.commitFailure at passes
    repeat' split at passes
    all_goals first
      | assumption
      | cases passes
  rw [List.findIdx?_eq_none_iff] at fits
  simp only [State.laneFills, List.mem_cons, forall_eq_or_imp, List.not_mem_nil, decide_eq_false_iff_not, not_lt,
    false_imp_iff, implies_true, and_true] at fits
  obtain ⟨a, b, c, d, spur, acc, unl, ret⟩ := fits
  refine ⟨fun x _ => ?_, spur, acc, resizeCells_length _ _, h.2.2.2.2.1, unl, ret⟩
  cases x with
  | a => exact a
  | b => exact b
  | c => exact c
  | d => exact d

theorem State.Bounded.settled (h : s.Bounded) (k : s.Settled t) : t.Bounded := by
  rcases k with k | ⟨passes, k⟩
  · exact h.congr (.of_eq k.lanes) k.single k.stored k.working
  · have applied : s.applySettings.Bounded := ⟨State.settingsInRange_apply h.1, State.within_apply h.2 passes⟩
    exact applied.congr (.of_eq k.lanes) k.single k.stored k.working

theorem State.leaveTunnel_settings (s : State) : s.leaveTunnel.1.single = s.single
    ∧ s.leaveTunnel.1.stored = s.stored ∧ s.leaveTunnel.1.working = s.working := by
  unfold State.leaveTunnel
  dsimp only
  repeat' split
  all_goals simp

/-- XT stays at 2 records: at 2 its head makes room for the record of the last cell (R76). -/
theorem State.within_leaveTunnel (h : s.lanes.within s.working) : s.leaveTunnel.1.lanes.within s.working := by
  obtain ⟨outfeed, spur, acc, cells, xt, unl, ret⟩ := h
  unfold State.leaveTunnel
  split
  · dsimp only
    rw [State.updateRecord_lanes]
    split
    · rename_i old rest two
      rw [two, List.length_cons] at xt
      split
      · dsimp only
        rw [State.recordAnomaly_lanes]
        exact ⟨outfeed, spur, acc, cells, by simpa using xt, unl, ret⟩
      · rename_i one
        have room : rest.length + 1 < 2 := by simpa [two] using one
        exact ⟨outfeed, spur, acc, cells, by simpa [two] using room, unl, ret⟩
    · exact ⟨outfeed, spur, acc, cells, by simp, unl, ret⟩
  · exact ⟨outfeed, spur, acc, cells, xt, unl, ret⟩

/-- A step moves the cells by one (R75). -/
theorem State.Bounded.shift (h : s.Bounded) :
    (s.leaveTunnel.1.withLanes s.leaveTunnel.1.lanes.shifted).Bounded := by
  obtain ⟨single, stored, working⟩ := s.leaveTunnel_settings
  have cellsThere : 8 ≤ s.working.tunnelCells := by
    have range := (h.1 .tunnelCells).2
    simp only [Param.admits, Param.values, Param.range, Bool.and_eq_true] at range
    exact of_decide_eq_true range.1
  obtain ⟨outfeed, spur, acc, cells, xt, unl, ret⟩ := State.within_leaveTunnel h.2
  refine ⟨State.settingsInRange_congr h.1 single stored working, ?_⟩
  rw [State.withLanes_working, working]
  refine ⟨outfeed, spur, acc, ?_, xt, unl, ret⟩
  simp only [State.withLanes_lanes, Lanes.shifted, List.length_cons, List.length_dropLast, cells]
  omega

end

theorem State.bounded_closed : StepClosed (keeping State.Bounded) where
  refl _ h := h
  trans h k p := k (h p)
  beside k h := h.congr (.of_eq k.lanes) k.single k.stored k.working
  take s c i _ h := h.settled (s.take_settled c i)
  newHead s before h := h.congr (.of_eq (s.takeNewHead_lanes before)) (s.takeNewHead_kept before).single
    (s.takeNewHead_kept before).stored (s.takeNewHead_working before)
  windows s xt racks h := by
    have length : xt.length = s.lanes.xt.length := by simpa using congrArg List.length racks
    exact h.congr { s.lanes.noFuller_refl with xt := length.le } rfl rfl rfl
  update s n f h := h.congr (.of_eq (s.updateRecord_lanes n f)) (by simp) (by simp) (by simp)
  reconcile s e h := h.reconcile e
  shift s h := h.shift
  exitMissing s n _ h := h.congr { s.lanes.noFuller_refl with xt := List.length_filter_le _ _ } rfl rfl rfl
  setBit s c i h := h.settled (.of_controlled (s.setBit_controlled c i))
  store s p v admits h := ⟨State.settingsInRange_store h.1 admits, by cases p <;> exact h.2⟩
  register s m p _ _ room h := ⟨h.1, State.within_join h.2 room m⟩
  finish s m x _ room h := by
    obtain ⟨outfeed, others⟩ := h.2
    have joined := length_join_outfeed outfeed (by simpa [State.isFull] using room) m
    have working : (s.finish m x).working = s.working := by simp [State.finish]
    refine ⟨State.settingsInRange_congr h.1 (by simp [State.finish]) (by simp [State.finish]) working, ?_⟩
    rw [working]
    exact ⟨joined, others⟩
  retire s m h := h.congr (s.lanes.noFuller_remove m) rfl rfl rfl
  place s m p _ hp room h := by
    have joined := State.within_join (s := s.withLanes { s.lanes with off := s.lanes.off.filter (·.rack ≠ m) }) h.2
      (p := p) (by rcases hp with rfl | rfl | ⟨x, rfl⟩ <;> exact room) m
    refine ⟨State.settingsInRange_congr h.1 (by simp) (by simp) (by simp), ?_⟩
    simpa using joined
  purge s h := h.congr s.lanes.noFuller_purged rfl rfl rfl

/-- Settles O53: what joins a place has found it not full, and a COMMIT that passes has found every place to fit. -/
theorem capacitiesHoldAtEveryStep : Obligations.CapacitiesHoldAtEveryStep := by
  intro s t range within e
  rcases State.bounded_closed.step e with kept | reset
  · exact kept ⟨range, within⟩
  · rw [reset]
    have empty : State.reset.lanes.within State.reset.working := by decide
    exact ⟨State.reset_admitted, empty⟩

end Sys2Proof.Machine
end
section
/-! Only SET and COMMIT change a setting (R28, R174, R201). -/

namespace Sys2Proof.Machine

/-- What the events make of the settings: the stored and the single-valued ones stay, and the working ones stay too, or are
the stored ones after a COMMIT that is DONE and no longer pending (R174). -/
structure State.SettingsMove (s t : State) : Prop where
  stored : t.stored = s.stored
  single : t.single = s.single
  working : (t.working = s.working ∧ (s.executor.vector.commit = none →
        t.executor.vector.commit = none ∧ t.executor.outcomes.commit = s.executor.outcomes.commit))
    ∨ (t.working = s.stored ∧ t.executor.vector.commit = none ∧ t.executor.outcomes.commit.kind = .done)

namespace State.SettingsMove

variable {s t u : State}

theorem trans (h : s.SettingsMove t) (k : t.SettingsMove u) : s.SettingsMove u := by
  refine ⟨k.stored.trans h.stored, k.single.trans h.single, ?_⟩
  rcases k.working with ⟨stays, after⟩ | ⟨applied, free, done⟩
  · rcases h.working with ⟨stayed, before⟩ | ⟨applied, free, done⟩
    · refine .inl ⟨stays.trans stayed, fun none => ?_⟩
      obtain ⟨free, outcome⟩ := before none
      obtain ⟨free, last⟩ := after free
      exact ⟨free, last.trans outcome⟩
    · obtain ⟨free, outcome⟩ := after free
      exact .inr ⟨stays.trans applied, free, outcome ▸ done⟩
  · exact .inr ⟨applied.trans h.stored, free, done⟩

/-- Neither a setting nor the command vector nor an outcome changes. -/
theorem of_beside (h : s.Beside t) : s.SettingsMove t :=
  ⟨h.stored, h.single, .inl ⟨h.working, fun none => ⟨h.bit.trans none, h.outcome⟩⟩⟩

/-- Only the racks, the places, the anomalies and the marks change. -/
theorem of_settings (stored : t.stored = s.stored) (single : t.single = s.single) (working : t.working = s.working)
    (executor : t.executor = s.executor) : s.SettingsMove t :=
  ⟨stored, single, .inl ⟨working, fun none => by rw [executor]; exact ⟨none, rfl⟩⟩⟩

end State.SettingsMove

/-- COMMIT taken leaves the settings, or gives the working ones the stored values and reads DONE (R173, R174). -/
theorem State.takeCommit_settings (s : State) (i : Issuer) :
    (s.takeCommit i).stored = s.stored ∧ (s.takeCommit i).single = s.single
      ∧ ((s.takeCommit i).working = s.working
        ∨ (s.takeCommit i).working = s.stored ∧ (s.takeCommit i).executor.outcomes.commit.kind = .done) := by
  unfold State.takeCommit
  split
  · split
    · exact ⟨by simp, by simp, .inl (by simp)⟩
    · have control := ((s.applySettings.enterLoop_controlled .ready).trans (State.refreshPermit_controlled _)).trans
        (State.writeOutcome_controlled _ .commit .done i none)
      exact ⟨control.stored, control.single, .inr ⟨control.working, by simp [State.writeOutcome_executor, PerCommand.set]⟩⟩
  all_goals exact ⟨by simp, by simp, .inl (by simp)⟩

theorem State.cancelBit_settings (s : State) (c : LineCommand) : s.SettingsMove (s.cancelBit c) := by
  unfold State.cancelBit
  split
  · rename_i i pending
    have control := (s.clearBit_controlled c).trans (State.writeOutcome_controlled _ c .cancelled i none)
    refine ⟨control.stored, control.single, .inl ⟨control.working, fun free => ?_⟩⟩
    by_cases commit : c = .commit
    · subst commit
      exact absurd (free.symm.trans pending) (by simp)
    · have aside := State.writeOutcome_aside (s.clearBit c) c .cancelled i none commit
      rw [aside.bit, aside.outcome]
      refine ⟨?_, rfl⟩
      cases c <;> first | exact absurd rfl commit | exact free
  · exact .of_beside (.refl s)

theorem State.cancelBits_settings (s : State) (cs : List LineCommand) : s.SettingsMove (cs.foldl State.cancelBit s) := by
  induction cs generalizing s with
  | nil => exact .of_beside (.refl s)
  | cons c cs ih => exact (s.cancelBit_settings c).trans (ih _)

theorem State.take_settings (s : State) (c : LineCommand) (i : Issuer) (pending : s.executor.vector.get c = some i) :
    s.SettingsMove (s.take c i) := by
  by_cases commit : c = .commit
  · subst commit
    obtain ⟨stored, single, working⟩ := (s.clearBit .commit).takeCommit_settings i
    refine ⟨stored, single, ?_⟩
    rcases working with stays | ⟨applied, done⟩
    · exact .inl ⟨stays, fun none => absurd (none.symm.trans pending) (by simp)⟩
    · exact .inr ⟨applied, congrArg PerCommand.commit (State.applyCommand_vector (s.clearBit .commit) .commit i), done⟩
  · have cleared : s.SettingsMove (s.clearBit c) := by
      refine ⟨rfl, rfl, .inl ⟨rfl, fun none => ⟨?_, rfl⟩⟩⟩
      cases c <;> first | exact absurd rfl commit | exact none
    exact (cleared.trans (State.cancelBits_settings _ _)).trans (.of_beside (State.applyCommand_aside _ commit i).beside)

theorem State.leaveTunnel_executor (s : State) : s.leaveTunnel.1.executor = s.executor := by
  unfold State.leaveTunnel
  dsimp only
  repeat' split
  all_goals simp

theorem State.settings_closed : RackClosed State.SettingsMove where
  refl s := .of_beside (.refl s)
  trans := .trans
  beside := .of_beside
  take s c i pending := s.take_settings c i pending
  newHead s before := by
    obtain ⟨_, _, _, h⟩ := s.takeNewHead_form before
    rw [h]
    exact .of_settings rfl rfl rfl rfl
  windows s xt _ := .of_settings rfl rfl rfl rfl
  update s n f := .of_settings (by simp) (by simp) (by simp) (by simp)
  reconcile s e := by
    obtain ⟨_, _, _, h⟩ := s.reconcile_form e
    obtain ⟨_, _, _, _, k⟩ := s.endPermission_form e
    rw [h, k]
    exact .of_settings rfl rfl rfl rfl
  shift s := by
    obtain ⟨single, stored, working⟩ := s.leaveTunnel_settings
    exact .of_settings stored single working s.leaveTunnel_executor
  exitMissing s n _ := .of_settings rfl rfl rfl rfl
  register s m p _ _ _ := .of_settings rfl rfl rfl rfl
  finish s m x _ _ := .of_settings (by simp [State.finish]) (by simp [State.finish]) (by simp [State.finish])
    (by simp [State.finish])
  retire s m := .of_settings rfl rfl rfl rfl
  place s m p _ _ _ := .of_settings (by simp) (by simp) (by simp) (by simp)
  purge s := .of_settings rfl rfl rfl rfl

/-- SET writes a setting, or nothing (R201). -/
theorem State.serveSet_form (s : State) (n : Node) (p i : Octet) (v : BitVec 16) :
    ∃ stored single, (s.serveSet n p i v).state = { s with stored := stored, single := single } := by
  have store (q : Param) (k : Nat) : ∃ stored single, s.store q k = { s with stored := stored, single := single } := by
    cases q <;> exact ⟨_, _, rfl⟩
  unfold State.serveSet
  repeat' split
  all_goals first
    | exact ⟨_, _, rfl⟩
    | exact store _ _

/-- Settles O48: no event but SET writes a stored value, and no event but COMMIT a working one. -/
theorem onlySetAndCommitChangeSettings : Obligations.OnlySetAndCommitChangeSettings := by
  intro s t c e reset frame
  have next {u : State} (f : (Host.Outcome.next u : Host.Outcome State Fault Refusal) = .next t) : t = u :=
    (Host.Outcome.next.inj f).symm
  by_cases set : ∃ n p i v, c = .set n p i v
  · obtain ⟨n, p, i, v, rfl⟩ := set
    refine ⟨fun h => absurd rfl (h n p i v), .inl ?_⟩
    obtain rfl := next e
    obtain ⟨_, _, form⟩ := s.serveSet_form n p i v
    show (s.serveSet n p i v).state.working = s.working
    rw [form]
  · by_cases commit : ∃ n, c = .commit n
    · obtain ⟨n, rfl⟩ := commit
      obtain rfl := next e
      have moved : (s.serveCommand n .commit).state = s
          ∨ (s.setBit .commit (.node n)).SettingsMove (s.serveCommand n .commit).state := by
        unfold State.serveCommand
        repeat' split
        · exact .inl rfl
        · exact .inl rfl
        · exact .inr (State.settings_closed.takeCommands _)
      rcases moved with stays | moved
      · show (_ → (s.serveCommand n .commit).state.stored = _ ∧ (s.serveCommand n .commit).state.single = _)
          ∧ ((s.serveCommand n .commit).state.working = _ ∨ _)
        rw [stays]
        exact ⟨fun _ => ⟨rfl, rfl⟩, .inl rfl⟩
      · have waits := s.setBit_controlled .commit (.node n)
        refine ⟨fun _ => ⟨moved.stored.trans waits.stored, moved.single.trans waits.single⟩, ?_⟩
        exact moved.working.imp (fun h => h.1.trans waits.working) fun h => ⟨h.1.trans waits.stored, h.2.2⟩
    · have moved := State.settings_closed.exec (fun n p i v h => set ⟨n, p, i, v, h⟩) (fun n h => commit ⟨n, h⟩) frame
        reset e
      exact ⟨fun _ => ⟨moved.stored, moved.single⟩, moved.working.imp (·.1) fun h => ⟨h.1, h.2.2⟩⟩

end Sys2Proof.Machine
end
section
/-! What moves no rack (R29, R44), and a frame end with no request (R180). -/

namespace Sys2Proof.Machine

/-! ## With no COMMIT pending -/

/-- With no COMMIT pending none comes to be pending, and the relation holds. -/
def withoutCommit (Q : State → State → Prop) (s t : State) : Prop :=
  s.executor.vector.commit = none → t.executor.vector.commit = none ∧ Q s t

theorem State.take_controlled (s : State) {c : LineCommand} (hc : c ≠ .commit) (i : Issuer) : s.Controlled (s.take c i) :=
  ((s.clearBit_controlled c).trans (State.cancelBits_controlled _ _)).trans (State.applyCommand_aside _ hc i).controlled

theorem State.SettingsMove.free {s t : State} (h : s.SettingsMove t) (free : s.executor.vector.commit = none) :
    t.executor.vector.commit = none := by
  rcases h.working with ⟨_, stays⟩ | ⟨_, none, _⟩
  · exact (stays free).1
  · exact none

section
variable {Q : State → State → Prop} (refl : ∀ s, Q s s) (trans : ∀ {s t u}, Q s t → Q t u → Q s u)
include refl trans

/-- With no COMMIT pending, all that the executor does is control. -/
theorem withoutCommit_control (controlled : ∀ {s t : State}, s.Controlled t → Q s t) :
    ControlClosed (withoutCommit Q) where
  refl s free := ⟨free, refl s⟩
  trans h k free := by
    obtain ⟨free, first⟩ := h free
    obtain ⟨free, second⟩ := k free
    exact ⟨free, trans first second⟩
  aside k free := ⟨k.bit.trans free, controlled k.controlled⟩
  take s c i pending free := by
    have hc : c ≠ .commit := by
      rintro rfl
      exact absurd (free.symm.trans pending) (by simp)
    exact ⟨(s.take_settings c i pending).free free, controlled (s.take_controlled hc i)⟩

end

theorem State.racks_closed : BesideClosed (withoutCommit State.racksKept) :=
  have control := withoutCommit_control (Q := State.racksKept) (fun _ => ⟨rfl, rfl⟩)
    (fun h k => ⟨k.1.trans h.1, k.2.trans h.2⟩) fun h => ⟨h.slots, h.lanes⟩
  { refl := control.refl
    trans := control.trans
    take := control.take
    beside := fun h free => ⟨h.bit.trans free, h.slots, h.lanes⟩ }

/-! ## The nodes' lines -/

/-- What the executor does leaves the inputs and the line. -/
theorem State.kept_closed : ControlClosed State.Kept where
  refl := .refl
  trans := .trans
  aside h := .of_controlled h.controlled
  take s c i _ := .of_settled (s.take_settled c i)

/-- Presence, the accepted values and the idle-frame count of every node stay. -/
def State.NodesStay (s t : State) : Prop := ∀ m, (t.line.nodes.get m).present = (s.line.nodes.get m).present
  ∧ (t.line.nodes.get m).acceptedPair = (s.line.nodes.get m).acceptedPair
  ∧ (t.line.nodes.get m).acceptedCode = (s.line.nodes.get m).acceptedCode
  ∧ (t.line.nodes.get m).idleFrames = (s.line.nodes.get m).idleFrames

section
variable {s t u : State}

theorem State.NodesStay.refl (s : State) : s.NodesStay s := fun _ => ⟨rfl, rfl, rfl, rfl⟩

theorem State.NodesStay.trans (h : s.NodesStay t) (k : t.NodesStay u) : s.NodesStay u := fun m => by
  obtain ⟨a, b, c, d⟩ := h m
  obtain ⟨e, f, g, i⟩ := k m
  exact ⟨e.trans a, f.trans b, g.trans c, i.trans d⟩

theorem State.NodesStay.of_kept (h : s.Kept t) : s.NodesStay t := fun m => by
  rw [h.marks.node m]
  exact ⟨rfl, rfl, rfl, rfl⟩

theorem State.NodesStay.of_nodes (h : t.line.nodes = s.line.nodes) : s.NodesStay t := fun m => by
  rw [h]
  exact ⟨rfl, rfl, rfl, rfl⟩

theorem State.setChannel_nodes (s : State) (n : Node) (c : Channel) : s.NodesStay (s.setChannel n c) := fun m => by
  rw [State.setChannel, State.setNode_node]
  split
  · rename_i e
    rw [e]
    exact ⟨rfl, rfl, rfl, rfl⟩
  · exact ⟨rfl, rfl, rfl, rfl⟩

theorem State.stationChanged_nodes (s before : State) (x : Station) : s.NodesStay (s.stationChanged before x) :=
  .of_kept (State.kept_closed.stationChanged s before x)

theorem State.acceptCode_nodes (s : State) (n : Node) (v : Octet) : s.NodesStay (s.acceptCode n v) := by
  have wrote {t u : State} (k : t.Kept u) (same : t.line.nodes = s.line.nodes) : s.NodesStay u :=
    .trans (.of_nodes same) (.of_kept k)
  unfold State.acceptCode
  repeat' split
  all_goals first
    | exact .refl s
    | exact wrote (State.kept_closed.tunnelChanged _) rfl
    | exact wrote (State.kept_closed.driveChanged _) rfl
    | exact wrote (State.kept_closed.stationChanged _ _ _) rfl

theorem State.handAccepted_line (s : State) : s.handAccepted.line = s.line := by
  have handed (zs : List Zone) (t : State) (k : t.line = s.line) :
      (zs.foldl (fun u z => match s.line.acceptedTemperature.get z with
        | some v => u.handTemperature z v
        | none => u) t).line = s.line := by
    induction zs generalizing t with
    | nil => exact k
    | cons z zs ih =>
      refine ih _ ?_
      dsimp only
      split
      · exact k
      · exact k
  unfold State.handAccepted
  dsimp only
  split <;> exact handed _ s rfl

theorem State.presentWith_nodes (s : State) (n : Node) (v : Octet) :
    (s.setNode n { s.line.nodes.get n with present := true }).NodesStay (s.presentWith n v) := by
  unfold State.presentWith
  dsimp only
  split
  · exact .refl _
  · exact .refl _
  · exact (State.NodesStay.of_kept (s := State.setTunnelCode _ _) (State.kept_closed.tunnelChanged _)).trans
      (.of_nodes (by rw [State.handAccepted_line]))
  · exact .of_kept (s := State.setDriveCode _ _) (State.kept_closed.driveChanged _)
  · exact .of_kept (s := State.setStationCode _ _ _) (State.kept_closed.stationChanged _ _ _)

theorem State.becomeAbsent_nodes (s : State) (n : Node) :
    (s.setNode n { s.line.nodes.get n with present := false, idleFrames := 8, acceptedCode := some 0xFF }).NodesStay
      (s.becomeAbsent n) := by
  have first (t : State) : t.NodesStay (t.firstCode n) := .of_nodes (by cases n <;> rfl)
  have handed (t : State) : t.NodesStay (t.absenceHandedOn n) := by
    cases n with
    | tunnel =>
      have held (u : State) : u.NodesStay (u.raiseHold .tunnelAbsent) := .of_kept (.of_settled (u.raiseHold_settled _))
      simp only [State.absenceHandedOn]
      split
      · exact held { t with heat := { t.heat with zones := t.heat.zones.map ZoneInput.absent } }
      · exact held { t with heat := { t.heat with zones := t.heat.zones.map ZoneInput.absent } }
      all_goals exact .refl t
    | drive => exact .of_kept (.of_settled (t.raiseStop_settled _))
    | _ => exact .refl t
  refine .trans (fun m => ?_) ((first _).trans (handed _))
  rw [State.setNode_node, State.setNode_node]
  split <;> exact ⟨rfl, rfl, rfl, rfl⟩

/-! ## What the up slots bring (R179, R180) -/

theorem upSlot_frameSlots (slots : List Octet) {k : Nat} (h : k < 30) : upSlot (frameSlots slots) k = upSlot slots k := by
  simp [frameSlots, upSlot, h]

theorem codeSlot_frameSlots (slots : List Octet) (n : Node) : codeSlot (frameSlots slots) n = codeSlot slots n := by
  refine upSlot_frameSlots slots ?_
  rcases n with _ | _ | _ | _ | ⟨⟨⟩⟩ <;> decide

theorem messageSlots_frameSlots (slots : List Octet) (n : Node) :
    messageSlots (frameSlots slots) n = messageSlots slots n := by
  have low : 3 * n.address + 2 < 30 := by rcases n with _ | _ | _ | _ | ⟨⟨⟩⟩ <;> decide
  rw [messageSlots, upSlot_frameSlots slots (by omega), upSlot_frameSlots slots low, messageSlots]

theorem doubleLook_iff {α : Type} [DecidableEq α] {before : Option (List Octet)} {f : List Octet → α} {now : α}
    {accepted : Option α} : doubleLook (before.map f) now accepted = true ↔
      (∃ b ∈ before, f b = now) ∧ accepted ≠ some now := by
  simp [doubleLook]

/-! ## A frame end with no request (R185, R187) -/

/-- A message pair that ends no request is a matter of the channel (R185). -/
theorem State.acceptPair_quiet (s : State) (n : Node) {p : Octet × Octet} (h : ¬endsRequest p.2) :
    s.acceptPair n p = s ∨ ∃ c, s.acceptPair n p = s.setChannel n c := by
  have octet (v : controlV p.2 = true) : s.takeOctet n p.1 p.2 = s.setChannel n ((s.channel n).take p.1 p.2) := by
    unfold State.takeOctet
    dsimp only
    rw [if_neg fun e => h ⟨v, e⟩]
  unfold State.acceptPair
  dsimp only
  split
  · split
    · rename_i taken
      exact .inr ⟨_, octet (Bool.and_eq_true_iff.1 taken).1⟩
    · exact .inr ⟨_, rfl⟩
  · split
    · exact .inr ⟨_, rfl⟩
    · rename_i v
      repeat' split
      · exact .inl rfl
      · exact .inr ⟨_, rfl⟩
      · exact .inr ⟨_, octet (by simpa using v)⟩
  · exact .inr ⟨_, rfl⟩
  · exact .inr ⟨_, rfl⟩

theorem State.acceptPair_nodes (s : State) (n : Node) {p : Octet × Octet} (h : ¬endsRequest p.2) :
    s.NodesStay (s.acceptPair n p) := by
  rcases s.acceptPair_quiet n h with e | ⟨c, e⟩ <;> rw [e]
  · exact .refl s
  · exact s.setChannel_nodes n c

/-- Where the nodes stand at some point of a frame end with no request: a value was accepted before it or with it, and no
node whose code is another than FFh has become absent (R180, R181). -/
structure State.MidFrame (s : State) (slots : List Octet) (t : State) : Prop where
  pair : ∀ n, (t.line.nodes.get n).acceptedPair = (s.line.nodes.get n).acceptedPair
    ∨ (s.pairAccepted slots n ∧ (t.line.nodes.get n).acceptedPair = some (messageSlots slots n))
  idle : ∀ n, (t.line.nodes.get n).idleFrames = 8 → codeSlot slots n = 0xFF
  gone : ∀ n, (s.line.nodes.get n).present = true → (t.line.nodes.get n).present = false → codeSlot slots n = 0xFF
  code : ∀ n, s.codeQuiet slots n → (t.line.nodes.get n).acceptedCode = (s.line.nodes.get n).acceptedCode
    ∧ (t.line.nodes.get n).present = (s.line.nodes.get n).present
    ∧ ((t.line.nodes.get n).present = true → (t.line.nodes.get n).idleFrames ≠ 8)

namespace State.MidFrame

variable {slots : List Octet} {n : Node}

/-- A pair accepted now ends no request. -/
theorem message (h : s.MidFrame slots t) (quiet : s.noRequestAt slots)
    (look : doubleLook (s.line.previous.map fun b => messageSlots b n) (messageSlots slots n)
      (t.line.nodes.get n).acceptedPair = true) :
    s.pairAccepted slots n ∧ ¬endsRequest (messageSlots slots n).2 := by
  obtain ⟨seen, new⟩ := doubleLook_iff.1 look
  have accepted : s.pairAccepted slots n := by
    rcases h.pair n with e | ⟨accepted, _⟩
    · exact ⟨seen, e ▸ new⟩
    · exact accepted
  exact ⟨accepted, (quiet n (Node.mem_all n)).1 accepted⟩

/-- A node that becomes present was absent before the frame ended, and the pair it has accepted ends no request. -/
theorem present (h : s.MidFrame slots t) (quiet : s.noRequestAt slots) (absent : (t.line.nodes.get n).present = false)
    (code : codeSlot slots n ≠ 0xFF) {p : Octet × Octet} (accepted : (t.line.nodes.get n).acceptedPair = some p) :
    ¬endsRequest p.2 := by
  obtain ⟨arriving, standing⟩ := quiet n (Node.mem_all n)
  have was : s.present n = false := by
    by_contra there
    exact code (h.gone n (by simpa [State.present] using there) absent)
  rcases h.pair n with e | ⟨new, e⟩
  · exact standing was p (e ▸ accepted)
  · obtain rfl := Option.some.inj (e.symm.trans accepted)
    exact arriving new

/-- The nodes stand as before where their lines stay. -/
theorem stay (h : s.MidFrame slots t) (k : t.NodesStay u) : s.MidFrame slots u where
  pair m := by
    obtain ⟨_, pair, _, _⟩ := k m
    rw [pair]
    exact h.pair m
  idle m e := by
    obtain ⟨_, _, _, idle⟩ := k m
    exact h.idle m (idle ▸ e)
  gone m there e := by
    obtain ⟨present, _, _, _⟩ := k m
    exact h.gone m there (present ▸ e)
  code m q := by
    obtain ⟨present, _, code, idle⟩ := k m
    rw [present, code, idle]
    exact h.code m q

/-- A code accepted now is the code of a node whose code or presence this frame end changes. -/
theorem codeNew (h : s.MidFrame slots t)
    (look : doubleLook (s.line.previous.map fun b => codeSlot b n) (codeSlot slots n)
      (t.line.nodes.get n).acceptedCode = true) : ¬s.codeQuiet slots n := fun q => by
  obtain ⟨seen, new⟩ := doubleLook_iff.1 look
  exact q.1 ⟨seen, (h.code n q).1 ▸ new⟩

/-- The line of one node written. -/
theorem write (h : s.MidFrame slots t) {v : NodeLine}
    (pair : v.acceptedPair = (s.line.nodes.get n).acceptedPair
      ∨ (s.pairAccepted slots n ∧ v.acceptedPair = some (messageSlots slots n)))
    (idle : v.idleFrames = 8 → codeSlot slots n = 0xFF)
    (gone : (s.line.nodes.get n).present = true → v.present = false → codeSlot slots n = 0xFF)
    (code : s.codeQuiet slots n → v.acceptedCode = (s.line.nodes.get n).acceptedCode
      ∧ v.present = (s.line.nodes.get n).present ∧ (v.present = true → v.idleFrames ≠ 8)) :
    s.MidFrame slots (t.setNode n v) := by
  constructor <;> intro m <;> rw [State.setNode_node] <;> split
  case pair.isTrue e => exact e ▸ pair
  case idle.isTrue e => exact e ▸ idle
  case gone.isTrue e => exact e ▸ gone
  case code.isTrue e => exact e ▸ code
  case pair.isFalse => exact h.pair m
  case idle.isFalse => exact h.idle m
  case gone.isFalse => exact h.gone m
  case code.isFalse => exact h.code m

/-- The idle-frame counts are taken first (R181). -/
theorem counted (s : State) (slots : List Octet) : s.MidFrame slots (s.countIdleFrames (frameSlots slots)) := by
  have line (m : Node) : (s.countIdleFrames (frameSlots slots)).line.nodes.get m =
      (s.line.nodes.get m).countIdle (codeSlot slots m) := by
    rw [← codeSlot_frameSlots]
    rcases m with _ | _ | _ | _ | ⟨⟨⟩⟩ <;> rfl
  constructor <;> intro m <;> rw [line] <;> unfold NodeLine.countIdle
  · exact .inl rfl
  · dsimp only
    split
    · rename_i idle
      exact fun _ => idle
    · simp
  · intro there gone
    exact absurd (there.symm.trans gone) (by simp)
  · rintro ⟨_, below⟩
    refine ⟨rfl, rfl, fun there => ?_⟩
    dsimp only
    split
    · rename_i idle
      have low := below there idle
      omega
    · simp

/-- The node has accepted its code. -/
theorem codeAccepted (h : s.MidFrame slots t)
    (look : doubleLook (s.line.previous.map fun b => codeSlot b n) (codeSlot slots n)
      (t.line.nodes.get n).acceptedCode = true) :
    s.MidFrame slots (t.setNode n { t.line.nodes.get n with acceptedCode := some (codeSlot slots n) }) :=
  h.write (h.pair n) (h.idle n) (h.gone n) fun q => absurd q (h.codeNew look)

/-- A node that becomes present treats its accepted pair, which ends no request (R187). -/
theorem becomePresent_form (h : s.MidFrame slots t) (quiet : s.noRequestAt slots)
    (absent : (t.line.nodes.get n).present = false) (code : codeSlot slots n ≠ 0xFF) :
    t.becomePresent n (codeSlot slots n) = t.presentWith n (codeSlot slots n)
      ∨ ∃ p : Octet × Octet, ¬endsRequest p.2 ∧ t.becomePresent n (codeSlot slots n) =
          (t.presentWith n (codeSlot slots n)).acceptPair n p := by
  unfold State.becomePresent
  dsimp only
  split
  · rename_i p accepted
    obtain ⟨_, pair, _, _⟩ := t.presentWith_nodes n (codeSlot slots n) n
    rw [pair, State.setNode_node, if_pos rfl] at accepted
    exact .inr ⟨p, h.present quiet absent code accepted, rfl⟩
  · exact .inl rfl

/-- A node becomes present with its code, and treats a pair that ends no request (R181, R187). -/
theorem becomePresent (h : s.MidFrame slots t) (quiet : s.noRequestAt slots)
    (absent : (t.line.nodes.get n).present = false) (code : codeSlot slots n ≠ 0xFF) (changes : ¬s.codeQuiet slots n) :
    s.MidFrame slots (t.becomePresent n (codeSlot slots n)) := by
  have there : s.MidFrame slots (t.presentWith n (codeSlot slots n)) := by
    refine State.MidFrame.stay ?_ (t.presentWith_nodes n _)
    exact h.write (h.pair n) (h.idle n) (fun _ => by simp) fun q => absurd q changes
  rcases h.becomePresent_form quiet absent code with e | ⟨p, ends, e⟩ <;> rw [e]
  · exact there
  · exact there.stay (State.acceptPair_nodes _ n ends)

/-- Every separate event of the frame end keeps to this (R180 to R182). -/
theorem event (h : s.MidFrame slots t) (quiet : s.noRequestAt slots) (e : FrameEvent) :
    s.MidFrame slots (t.frameEvent s.line.previous (frameSlots slots) e) := by
  cases e with
  | code n =>
    simp only [State.frameEvent, codeSlot_frameSlots]
    split
    · rename_i look
      have accepted := h.codeAccepted look
      split
      · exact accepted.stay (State.acceptCode_nodes _ n _)
      · split
        · exact accepted
        · rename_i absent code
          exact accepted.becomePresent quiet (by simpa using absent) code (h.codeNew look)
    · exact h
  | absent n =>
    simp only [State.frameEvent]
    split
    · rename_i due
      obtain ⟨there, full⟩ := Bool.and_eq_true_iff.1 due
      have eight : (t.line.nodes.get n).idleFrames = 8 := of_decide_eq_true full
      refine State.MidFrame.stay ?_ (t.becomeAbsent_nodes n)
      exact h.write (h.pair n) (fun _ => h.idle n eight) (fun _ _ => h.idle n eight)
        fun q => absurd eight ((h.code n q).2.2 there)
    · exact h
  | message n =>
    simp only [State.frameEvent, messageSlots_frameSlots]
    split
    · rename_i look
      obtain ⟨accepted, ends⟩ := h.message quiet look
      have written := h.write (n := n) (v := { t.line.nodes.get n with acceptedPair := some (messageSlots slots n) })
        (.inr ⟨accepted, rfl⟩) (h.idle n) (h.gone n) (h.code n)
      split
      · exact written.stay (State.acceptPair_nodes _ n ends)
      · exact written
    · exact h
  | temperature z =>
    simp only [State.frameEvent]
    repeat' split
    all_goals exact h.stay (.of_nodes rfl)
  | pumpMap =>
    simp only [State.frameEvent]
    repeat' split
    all_goals exact h.stay (.of_nodes rfl)
  | count n => exact h.stay (t.setChannel_nodes n _)

end State.MidFrame

end

/-! ## What a frame end with no request leaves -/

namespace LineClosed

variable {R : State → State → Prop} (h : LineClosed R)
include h

theorem acceptPair (t : State) (n : Node) {p : Octet × Octet} (ends : ¬endsRequest p.2) : R t (t.acceptPair n p) := by
  rcases t.acceptPair_quiet n ends with e | ⟨c, e⟩ <;> rw [e]
  · exact h.refl t
  · exact h.setNode t n _

/-- Every separate event of a frame end with no request. -/
theorem quietEvent {s t : State} {slots : List Octet} (mid : s.MidFrame slots t) (quiet : s.noRequestAt slots)
    (e : FrameEvent) : R t (t.frameEvent s.line.previous (frameSlots slots) e) := by
  cases e with
  | code n =>
    simp only [State.frameEvent, codeSlot_frameSlots]
    split
    · rename_i look
      split
      · exact h.trans (h.setNode t n _) (h.acceptCode _ n _)
      split
      · exact h.setNode t n _
      rename_i absent code
      rcases (mid.codeAccepted look).becomePresent_form quiet (by simpa using absent) code with e | ⟨p, ends, e⟩ <;> rw [e]
      · exact h.trans (h.setNode t n _) (h.presentWith _ n _)
      · exact h.trans (h.trans (h.setNode t n _) (h.presentWith _ n _)) (h.acceptPair _ n ends)
    · exact h.refl t
  | absent n => exact h.absentEvent t _ _ n
  | message n =>
    simp only [State.frameEvent, messageSlots_frameSlots]
    split
    · rename_i look
      split
      · exact h.trans (h.setNode t n _) (h.acceptPair _ n (mid.message quiet look).2)
      · exact h.setNode t n _
    · exact h.refl t
  | temperature z => exact h.temperatureEvent t _ _ z
  | pumpMap => exact h.pumpEvent t _ _
  | count n => exact h.setNode t n _

/-- A frame end with no request (R180). -/
theorem quietFrame (s : State) {slots : List Octet} (quiet : s.noRequestAt slots) (order : List FrameEvent) :
    R s (s.frameEnd slots order) := by
  have events (es : List FrameEvent) (t : State) (mid : s.MidFrame slots t) :
      R t (es.foldl (fun t e => t.frameEvent s.line.previous (frameSlots slots) e) t) := by
    induction es generalizing t with
    | nil => exact h.refl t
    | cons e es ih => exact h.trans (h.quietEvent mid quiet e) (ih _ (mid.event quiet e))
  exact h.trans (h.wrote s (h.refl _)) (h.trans (events _ _ (.counted s slots)) (h.wrote _ (h.refl _)))

end LineClosed

/-- What a frame end with no request leaves: the racks, the settings, the inputs but for what the tunnel node sends, and the
answer. -/
structure State.FrameKept (s t : State) : Prop where
  racks : s.racksKept t
  eyes : t.eyes = s.eyes
  estop : t.estop = s.estop
  settings : s.settingsKept t
  answer : t.answer = s.answer
  pitch : t.tunnel.pitch = s.tunnel.pitch
  admission : t.tunnel.admissionUsed = s.tunnel.admissionUsed
  diverter : t.unload.diverter = s.unload.diverter
  timer : t.heat.sampleTimer = s.heat.sampleTimer
  zones : ∀ z, (t.heat.zones.get z).filter = (s.heat.zones.get z).filter
    ∧ (t.heat.zones.get z).effective = (s.heat.zones.get z).effective

theorem State.FrameKept.trans {s t u : State} (h : s.FrameKept t) (k : t.FrameKept u) : s.FrameKept u where
  racks := ⟨k.racks.1.trans h.racks.1, k.racks.2.trans h.racks.2⟩
  eyes := k.eyes.trans h.eyes
  estop := k.estop.trans h.estop
  settings := ⟨k.settings.1.trans h.settings.1, k.settings.2.1.trans h.settings.2.1, k.settings.2.2.trans h.settings.2.2⟩
  answer := k.answer.trans h.answer
  pitch := k.pitch.trans h.pitch
  admission := k.admission.trans h.admission
  diverter := k.diverter.trans h.diverter
  timer := k.timer.trans h.timer
  zones z := ⟨(k.zones z).1.trans (h.zones z).1, (k.zones z).2.trans (h.zones z).2⟩

theorem State.FrameKept.of_controlled {s t : State} (h : s.Controlled t) : s.FrameKept t :=
  ⟨⟨h.slots, h.lanes⟩, h.eyes, h.estop, ⟨h.stored, h.working, h.single⟩, h.answer, h.pitch, h.admission, h.diverter,
    by rw [h.heat], fun z => by rw [h.heat]; exact ⟨rfl, rfl⟩⟩

theorem State.frame_closed : LineClosed (withoutCommit State.FrameKept) where
  toControlClosed := withoutCommit_control (fun s => .of_controlled (.refl s)) .trans .of_controlled
  line _ _ _ same free := ⟨free, ⟨⟨rfl, rfl⟩, rfl, rfl, ⟨rfl, rfl, rfl⟩, rfl, rfl, rfl, rfl, rfl, same⟩⟩

/-! ## Where neither the tunnel node's nor the drive node's code or presence changes -/

/-- The executor and the permissions stay, and a dispatch grant too unless the code of a station changes. -/
structure State.Unmoved (s : State) (slots : List Octet) (t u : State) : Prop where
  executor : u.executor = t.executor
  draws : u.draws = t.draws
  tunnel : u.tunnel = t.tunnel
  unload : u.unload = t.unload
  merge : u.merge = t.merge
  dispatch : (∀ x : Station, s.codeQuiet slots (.station x)) → u.dispatch = t.dispatch

namespace State.Unmoved

variable {s t u v : State} {slots : List Octet}

theorem trans (h : s.Unmoved slots t u) (k : s.Unmoved slots u v) : s.Unmoved slots t v :=
  ⟨k.executor.trans h.executor, k.draws.trans h.draws, k.tunnel.trans h.tunnel, k.unload.trans h.unload,
    k.merge.trans h.merge, fun quiet => (k.dispatch quiet).trans (h.dispatch quiet)⟩

/-- What the line and the zones hold is no part of it. -/
theorem of_line (t : State) (l : Line) (z : Heat) : s.Unmoved slots t { t with line := l, heat := z } :=
  ⟨rfl, rfl, rfl, rfl, rfl, fun _ => rfl⟩

theorem acceptPair (t : State) (n : Node) {p : Octet × Octet} (ends : ¬endsRequest p.2) :
    s.Unmoved slots t (t.acceptPair n p) := by
  rcases t.acceptPair_quiet n ends with e | ⟨c, e⟩ <;> rw [e]
  · exact of_line t _ _
  · exact of_line t _ _

/-- A station's code may bring a dispatch grant (R150). -/
theorem stationChanged (t before : State) {x : Station} (changes : ¬s.codeQuiet slots (.station x)) :
    s.Unmoved slots t (t.stationChanged before x) := by
  unfold State.stationChanged
  split
  · obtain ⟨d, h⟩ := t.decideDispatch_form
    rw [h]
    exact ⟨rfl, rfl, rfl, rfl, rfl, fun quiet => absurd (quiet x) changes⟩
  · exact of_line t _ _

variable (tunnel : s.codeQuiet slots .tunnel) (drive : s.codeQuiet slots .drive)
include tunnel drive

theorem acceptCode (t : State) {n : Node} (v : Octet) (changes : ¬s.codeQuiet slots n) :
    s.Unmoved slots t (t.acceptCode n v) := by
  cases n with
  | tunnel => exact absurd tunnel changes
  | drive => exact absurd drive changes
  | station x =>
    simp only [State.acceptCode]
    split
    · exact (of_line t _ _).trans (stationChanged _ _ changes)
    · exact of_line t _ _
  | _ => exact of_line t _ _

theorem presentWith (t : State) {n : Node} (v : Octet) (changes : ¬s.codeQuiet slots n) :
    s.Unmoved slots t (t.presentWith n v) := by
  cases n with
  | tunnel => exact absurd tunnel changes
  | drive => exact absurd drive changes
  | station x => exact (of_line t _ _).trans (stationChanged _ _ changes)
  | _ => exact of_line t _ _

theorem becomeAbsent (t : State) {n : Node} (changes : ¬s.codeQuiet slots n) :
    s.Unmoved slots t (t.becomeAbsent n) := by
  cases n with
  | tunnel => exact absurd tunnel changes
  | drive => exact absurd drive changes
  | _ => exact of_line t _ _

theorem event (mid : s.MidFrame slots t) (quiet : s.noRequestAt slots) (e : FrameEvent) :
    s.Unmoved slots t (t.frameEvent s.line.previous (frameSlots slots) e) := by
  cases e with
  | code n =>
    simp only [State.frameEvent, codeSlot_frameSlots]
    split
    · rename_i look
      have changes := mid.codeNew look
      have written := of_line (s := s) (slots := slots) t
      repeat' split
      · exact (written _ t.heat).trans (acceptCode tunnel drive _ _ changes)
      · exact written _ t.heat
      · rename_i absent code
        rcases (mid.codeAccepted look).becomePresent_form quiet (by simpa using absent) code with e | ⟨p, ends, e⟩ <;>
          rw [e]
        · exact (written _ t.heat).trans (presentWith tunnel drive _ _ changes)
        · exact ((written _ t.heat).trans (presentWith tunnel drive _ _ changes)).trans (acceptPair _ n ends)
    · exact of_line t _ _
  | absent n =>
    simp only [State.frameEvent]
    split
    · rename_i due
      obtain ⟨there, full⟩ := Bool.and_eq_true_iff.1 due
      exact becomeAbsent tunnel drive t fun q => (mid.code n q).2.2 there (of_decide_eq_true full)
    · exact of_line t _ _
  | message n =>
    simp only [State.frameEvent, messageSlots_frameSlots]
    split
    · rename_i look
      split
      · exact (of_line t _ t.heat).trans (acceptPair _ n (mid.message quiet look).2)
      · exact of_line t _ _
    · exact of_line t _ _
  | temperature z =>
    simp only [State.frameEvent]
    repeat' split
    all_goals exact of_line t _ _
  | pumpMap =>
    simp only [State.frameEvent]
    repeat' split
    all_goals exact of_line t _ _
  | count n => exact of_line t _ _

theorem frame (quiet : s.noRequestAt slots) (order : List FrameEvent) :
    s.Unmoved slots s (s.frameEnd slots order) := by
  have events (es : List FrameEvent) (t : State) (mid : s.MidFrame slots t) :
      s.Unmoved slots t (es.foldl (fun t e => t.frameEvent s.line.previous (frameSlots slots) e) t) := by
    induction es generalizing t with
    | nil => exact of_line t _ _
    | cons e es ih => exact (event tunnel drive mid quiet e).trans (ih _ (mid.event quiet e))
  exact ((of_line s _ s.heat).trans (events _ _ (.counted s slots))).trans (of_line _ _ _)

end State.Unmoved

/-- Settles O50: a row that moves no rack is control or beside the racks; with no request a frame end only writes the line
and the zones, and what the executor makes of that is control. -/
theorem racksStayUnderOtherCommands : Obligations.RacksStayUnderOtherCommands := by
  refine ⟨fun s t c e free => ?_, fun s slots order quiet free => ?_⟩
  · have row (h : movesNone c = true) : s.racksKept t := (State.racks_closed.exec h e free).2
    cases c with
    | set n p i v =>
      obtain rfl := Host.Outcome.next.inj e
      obtain ⟨_, _, form⟩ := s.serveSet_form n p i v
      show s.racksKept (s.serveSet n p i v).state
      rw [form]
      exact ⟨rfl, rfl⟩
    | _ =>
      first
        | exact row rfl
        | trivial
  · obtain ⟨_, kept⟩ := State.frame_closed.quietFrame s quiet order free
    refine ⟨_, rfl, kept.racks, kept.eyes, kept.estop, kept.settings, kept.answer, kept.pitch, kept.admission,
      kept.diverter, kept.timer, fun z _ => kept.zones z, fun tunnel drive => ?_⟩
    have still := State.Unmoved.frame tunnel drive quiet order
    exact ⟨⟨still.executor, still.draws⟩, still.tunnel, still.unload, still.merge, still.dispatch⟩

end Sys2Proof.Machine
end
section
/-! The inputs, the line and the answer change by their own events only (R44, R51, R74, R81, R97, R180). -/

namespace Sys2Proof.Machine

/-! ## What is no matter of the racks -/

/-- What each event of its own changes. -/
inductive Outside where
  | heat | pitch | admission | estop | eyes | line | answer

/-- It is as it was: the eyes but for their anomaly records, the line but for attention marks. -/
def State.same (s t : State) : Outside → Prop
  | .heat => t.heat = s.heat
  | .pitch => t.tunnel.pitch = s.tunnel.pitch
  | .admission => t.tunnel.admissionUsed = s.tunnel.admissionUsed
  | .estop => t.estop = s.estop
  | .eyes => ∀ e, t.eyes.get e = { s.eyes.get e with anomaly := (t.eyes.get e).anomaly }
  | .line => t.line = { s.line with nodes := t.line.nodes }
      ∧ ∀ n, t.line.nodes.get n = { s.line.nodes.get n with attention := t.attention n }
  | .answer => t.answer = s.answer

/-- All is as it was but for what is named. -/
def State.SameBut (written : List Outside) (s t : State) : Prop := ∀ i ∉ written, s.same t i

namespace State.SameBut

variable {w : List Outside} {s t u : State}

theorem refl (s : State) : s.SameBut w s := fun i _ => by
  cases i with
  | eyes => exact fun _ => rfl
  | line => exact ⟨rfl, fun _ => rfl⟩
  | _ => rfl

theorem trans (h : s.SameBut w t) (k : t.SameBut w u) : s.SameBut w u := fun i hi => by
  have first := h i hi
  have second := k i hi
  cases i with
  | eyes =>
    intro e
    have a := second e
    rw [first e] at a
    exact a
  | line =>
    refine ⟨?_, fun n => ?_⟩
    · have a := second.1
      rw [first.1] at a
      exact a
    · have a := second.2 n
      rw [first.2 n] at a
      exact a
  | _ => exact Eq.trans second first

/-- What is written is named, the rest is as it was. -/
theorem of_rest (heat : .heat ∈ w ∨ t.heat = s.heat := by exact .inr rfl)
    (pitch : .pitch ∈ w ∨ t.tunnel.pitch = s.tunnel.pitch := by exact .inr rfl)
    (admission : .admission ∈ w ∨ t.tunnel.admissionUsed = s.tunnel.admissionUsed := by exact .inr rfl)
    (estop : .estop ∈ w ∨ t.estop = s.estop := by exact .inr rfl)
    (eyes : .eyes ∈ w ∨ t.eyes = s.eyes := by exact .inr rfl) (line : .line ∈ w ∨ t.line = s.line := by exact .inr rfl)
    (answer : .answer ∈ w ∨ t.answer = s.answer := by exact .inr rfl) : s.SameBut w t := fun i hi => by
  cases i with
  | heat => exact heat.resolve_left hi
  | pitch => exact pitch.resolve_left hi
  | admission => exact admission.resolve_left hi
  | estop => exact estop.resolve_left hi
  | eyes =>
    intro e
    rw [eyes.resolve_left hi]
  | line =>
    have kept := line.resolve_left hi
    exact ⟨by rw [kept], fun n => by rw [State.attention, kept]⟩
  | answer => exact answer.resolve_left hi

theorem of_kept (h : s.Kept t) (admission : t.tunnel.admissionUsed = s.tunnel.admissionUsed) : s.SameBut w t :=
  fun i _ => by
    cases i with
    | heat => exact h.heat
    | pitch => exact h.pitch
    | admission => exact admission
    | estop => exact h.estop
    | eyes => exact h.eyes
    | line => exact ⟨h.marks.line, h.marks.node⟩
    | answer => exact h.answer

theorem of_controlled (h : s.Controlled t) : s.SameBut w t := of_kept (.of_controlled h) h.admission

theorem of_settled (h : s.Settled t) : s.SameBut w t := of_kept (.of_settled h) (by
  rcases h with h | ⟨_, h⟩
  · exact h.admission
  · exact h.admission)

end State.SameBut

section
variable (w : List Outside) (s : State)

theorem State.same_closed : ControlClosed (State.SameBut w) where
  refl := .refl
  trans := .trans
  aside h := .of_controlled h.controlled
  take s c i _ := .of_settled (s.take_settled c i)

theorem State.recordAnomaly_same (e : Eye) (k : AnomalyKind) (r : Option RecNo) :
    s.SameBut w (s.recordAnomaly e k r) := .of_kept (s.recordAnomaly_kept e k r) (by simp)

theorem State.observe_same (before : State) (cause : Option Cause) : s.SameBut w (s.observe before cause) :=
  (State.SameBut.of_kept (s.takeNewHead_kept before) (by simp)).trans (.of_settled (s.observe_settled before cause))

theorem State.exitMissing_same (n : RecNo) : s.SameBut w (s.exitMissing n) := by
  unfold State.exitMissing
  split
  · exact ((State.SameBut.of_rest (t := s.withLanes _)).trans (State.recordAnomaly_same w _ _ _ _)).trans
      (State.observe_same w _ _ _)
  · exact .refl s

theorem State.mergeTimeout_same : s.SameBut w s.mergeTimeout := by
  have decided (t : State) : t.SameBut w t.decideMerge := .of_controlled t.decideMerge_controlled
  unfold State.mergeTimeout
  repeat' split
  · exact ((((State.SameBut.of_rest (t := { s with merge := none })).trans (State.recordAnomaly_same w _ _ _ _)).trans
      (decided _)).trans .of_rest)
  all_goals exact .refl s

theorem State.dispatchTimeout_same : s.SameBut w s.dispatchTimeout := by
  have decided (t : State) : t.SameBut w t.decideDispatch := .of_controlled t.decideDispatch_controlled
  unfold State.dispatchTimeout
  repeat' split
  · exact ((((State.SameBut.of_rest (t := { s with dispatch := { s.dispatch with grant := none } })).trans
      (State.recordAnomaly_same w _ _ _ _)).trans (decided _)).trans .of_rest)
  all_goals exact .refl s

/-! ## The requests -/

theorem State.updateRecord_same (n : RecNo) (f : Record → Record) : s.SameBut w (s.updateRecord n f) :=
  .of_kept (s.updateRecord_kept n f) (by simp)

theorem State.applyLoad_same (m : RecNo) (replace finish : Bool) (es : List LoadEntry) :
    s.SameBut w (s.applyLoad m replace finish es) := by
  have loaded := s.updateRecord_same w m fun r => r.loaded replace es (s.lanes.stationOf m).isSome
  unfold State.applyLoad
  dsimp only
  refine (loaded.trans ?_).trans (State.observe_same w _ _ _)
  split
  · exact (State.updateRecord_same w _ _ _).trans .of_rest
  · exact .refl _

theorem State.treatHead_same (m : RecNo) (f : Record → Record) : s.SameBut w (s.treatHead m f) := by
  have turned (t : State) : t.SameBut w t.setDiverter := .of_kept t.setDiverter_kept (by
    obtain ⟨_, h⟩ := t.setDiverter_form
    rw [h])
  exact (((State.SameBut.of_rest (t := { s with unload := { s.unload with release := none } })).trans
    (State.updateRecord_same w _ m f)).trans (turned _)).trans (State.observe_same w _ _ _)

theorem State.anyCommand_same (n : Node) (c : LineCommand) : s.SameBut w (s.serveCommand n c).state := by
  unfold State.serveCommand
  repeat' split
  · exact .refl s
  · exact .refl s
  · exact (State.SameBut.of_controlled (s.setBit_controlled c _)).trans ((State.same_closed w).takeCommands _)

theorem State.serveStatus_same (n : Node) : s.SameBut w (s.serveStatus n).state := by
  have read (t : State) : t.SameBut w (t.clearMark n) := fun i _ => by
    cases i with
    | eyes => exact fun _ => rfl
    | line =>
      refine ⟨rfl, fun m => ?_⟩
      simp only [State.clearMark, State.setNode_node, State.attention]
      split
      · rename_i e
        rw [e]
      · rfl
    | _ => rfl
  refine .trans (t := if n = .panel then { s with eyes := s.eyes.map fun t => { t with anomaly :=
    { t.anomaly with pending := false } } } else s) ?_ (read _)
  split
  · intro i _
    cases i with
    | eyes =>
      intro e
      simp
    | line => exact ⟨rfl, fun _ => rfl⟩
    | _ => rfl
  · exact .refl s

/-- Every request (R193). -/
theorem State.serve_same (n : Node) (q : Request) : s.SameBut w (s.serve n q).state := by
  have observed {t : State} (h : s.SameBut w t) (before : State) : s.SameBut w (t.observe before) :=
    h.trans (t.observe_same w before none)
  cases q with
  | status => exact s.serveStatus_same w n
  | readRack r =>
    simp only [State.serve, State.serveReadRack]
    repeat' split
    all_goals exact .refl s
  | readLane p i =>
    simp only [State.serve, State.serveReadLane]
    split <;> exact .refl s
  | register p =>
    simp only [State.serve, State.serveRegister]
    repeat' split
    all_goals first
      | exact .refl s
      | exact observed .of_rest s
  | load r replace finish es =>
    simp only [State.serve, State.serveLoad]
    repeat' split
    all_goals first
      | exact .refl s
      | exact s.applyLoad_same w _ replace finish es
  | unloaded r =>
    simp only [State.serve, State.serveUnloaded]
    repeat' split
    all_goals first
      | exact .refl s
      | exact s.treatHead_same w _ _
  | rewash r =>
    simp only [State.serve, State.serveRewash]
    repeat' split
    all_goals first
      | exact .refl s
      | exact s.treatHead_same w _ _
  | retire r =>
    simp only [State.serve, State.serveRetire]
    repeat' split
    all_goals first
      | exact .refl s
      | exact observed .of_rest s
  | place r p =>
    simp only [State.serve, State.servePlace]
    repeat' split
    all_goals first
      | exact .refl s
      | exact observed ((s.updateRecord_same w _ _).trans .of_rest) s
  | purge =>
    simp only [State.serve, State.servePurge]
    repeat' split
    all_goals first
      | exact .refl s
      | exact observed .of_rest s
  | command c =>
    simp only [State.serve]
    split
    · exact s.anyCommand_same w n _
    · exact .refl s
  | set p i v =>
    obtain ⟨_, _, form⟩ := s.serveSet_form n p i v
    show s.SameBut w (s.serveSet n p i v).state
    rw [form]
    exact .of_rest
  | get p i =>
    simp only [State.serve, State.serveGet]
    repeat' split
    all_goals exact .refl s

/-! ## The trackpoints, the tunnel and the zones -/

/-- A trackpoint's state is an event of its own. -/
theorem State.setEye_same (e : Eye) (t : Trackpoint) (h : .eyes ∈ w) : s.SameBut w (s.setEye e t) := .of_rest (eyes := .inl h)

theorem State.passage_same (e : Eye) (h : .admission ∈ w) : s.SameBut w (s.passage e) := fun i hi => by
  have kept := s.passage_kept e
  cases i with
  | admission => exact absurd h hi
  | heat => exact kept.heat
  | pitch => exact kept.pitch
  | estop => exact kept.estop
  | eyes => exact kept.eyes
  | line => exact ⟨kept.marks.line, kept.marks.node⟩
  | answer => exact kept.answer

theorem State.handBlocked_same (t : State) (e : Eye) : t.SameBut w (t.handBlocked e) := by
  have merge : t.SameBut w (t.mergeBlocked e) := by
    rcases t.mergeBlocked_cases e with ⟨_, k⟩ | ⟨_, _, _, _, k⟩ | ⟨_, _, _, _, k⟩ <;> rw [k]
    · exact .refl t
    · exact (State.SameBut.of_rest (t := { t with merge := none })).trans (.of_controlled (State.decideMerge_controlled _))
    · exact .of_rest
  cases e with
  | outfeed x => exact merge
  | sp => exact merge
  | en => exact .refl t
  | ex => exact .of_rest
  | ul => exact .refl t
  | ds =>
    show t.SameBut w t.dispatchBlocked
    rcases t.dispatchBlocked_cases with ⟨_, k⟩ | ⟨_, _, _, _, k⟩ | ⟨_, _, _, k⟩ <;> rw [k]
    · exact .refl t
    · exact .of_rest
    · exact .of_rest

theorem State.blockedEdge_same (e : Eye) (h : .eyes ∈ w) : s.SameBut w (s.blockedEdge e) :=
  (s.setEye_same w e _ h).trans (State.handBlocked_same w _ e)

theorem State.handDebris_same (e : Eye) : s.SameBut w (s.handDebris e) := by
  have merge (d : Eye) (f : Window → Window) : s.SameBut w (s.mapMergeWindow d f) := by
    unfold State.mapMergeWindow
    repeat' split
    all_goals exact .of_rest
  cases e with
  | outfeed x => exact merge (.outfeed x) (·.onDebris s.working.mergeWindow)
  | sp => exact merge .sp (·.onDebris s.working.mergeWindow)
  | ds => exact .of_rest
  | _ => exact .of_rest

theorem State.clearEdge_same (e : Eye) (eyes : .eyes ∈ w) (admission : .admission ∈ w) : s.SameBut w (s.clearEdge e) := by
  have handed (t : State) (c : Classification) : t.SameBut w (t.handOn e c) := by
    cases c with
    | one => exact t.passage_same w e admission
    | debris => exact (t.recordAnomaly_same w _ _ _).trans (State.handDebris_same w _ e)
    | double =>
      exact ((t.recordAnomaly_same w _ _ _).trans (State.passage_same w _ e admission)).trans
        (State.passage_same w _ e admission)
  have ended (t : State) : t.SameBut w (t.endBlockage e) :=
    (t.setEye_same w e { t.eyes.get e with blockage := none } eyes).trans (.of_controlled (t.endBlockage_controlled e))
  unfold State.clearEdge
  dsimp only
  split
  · exact ((s.setEye_same w e _ eyes).trans (handed _ _)).trans (ended _)
  · exact s.setEye_same w e _ eyes

theorem State.declareJam_same (e : Eye) (h : .eyes ∈ w) : s.SameBut w (s.declareJam e) := by
  unfold State.declareJam
  dsimp only
  split
  · exact ((s.setEye_same w e _ h).trans (State.recordAnomaly_same w _ _ _ _)).trans ((State.same_closed w).raiseHold _ _)
  · exact .refl s

theorem State.estopOn_same (h : .estop ∈ w) : s.SameBut w s.estopOn :=
  (State.SameBut.of_rest (estop := .inl h)).trans ((State.same_closed w).raiseStop _ _)

theorem State.estopOff_same (h : .estop ∈ w) : s.SameBut w s.estopOff :=
  (State.SameBut.of_rest (estop := .inl h)).trans ((State.same_closed w).startingTest _)

/-- The sampling of the eyes and the ESTOP input (R53, R70). -/
theorem State.sampleAll_same (blocked : List Eye) (low : Bool) (order : List SampleInput) (eyes : .eyes ∈ w)
    (admission : .admission ∈ w) (estop : .estop ∈ w) : s.SameBut w (s.sampleAll blocked low order) := by
  refine ((State.same_closed w).foldl s (fun t i => ?_) (inOrder order sampleInputs)).trans .of_rest
  cases i with
  | eye e =>
    show t.SameBut w (t.sampleEye e _)
    unfold State.sampleEye
    dsimp only
    repeat' split
    · exact t.setEye_same w e _ eyes
    · exact t.setEye_same w e _ eyes
    · exact t.blockedEdge_same w e eyes
    · exact t.clearEdge_same w e eyes admission
  | estop =>
    show t.SameBut w (t.sampleEstop low)
    unfold State.sampleEstop
    repeat' split
    · exact .of_rest (estop := .inl estop)
    · exact .of_rest (estop := .inl estop)
    · exact t.estopOn_same w estop
    · exact t.estopOff_same w estop

theorem State.leaveTunnel_same : s.SameBut w s.leaveTunnel.1 := by
  have judged (n : RecNo) := s.updateRecord_same w n (·.judged s.working)
  unfold State.leaveTunnel
  dsimp only
  split
  · split
    · split
      · exact ((judged _).trans .of_rest).trans (State.recordAnomaly_same w _ _ _ _)
      · exact (judged _).trans .of_rest
    · exact (judged _).trans .of_rest
  · exact .refl s

theorem State.stepTunnel_same (pitch : .pitch ∈ w) (admission : .admission ∈ w) : s.SameBut w s.stepTunnel :=
  ((s.leaveTunnel_same w).trans (.of_rest (pitch := .inl pitch) (admission := .inl admission))).trans
    (State.observe_same w _ _ _)

theorem State.countEncoder_same (pitch : .pitch ∈ w) (admission : .admission ∈ w) : s.SameBut w s.countEncoder := by
  unfold State.countEncoder
  split
  · exact s.stepTunnel_same w pitch admission
  · exact .of_rest (pitch := .inl pitch)

theorem State.creditSample_same (heat : .heat ∈ w) : s.SameBut w s.creditSample :=
  (State.SameBut.of_rest (heat := .inl heat)).trans
    ((State.same_closed w).foldl _ (fun t (p : RecNo × Zone) => t.updateRecord_same w p.1 _) _)

/-- The absence of a node (R181, R183). -/
theorem State.absence_same (heat : .heat ∈ w) (line : .line ∈ w) : LineClosed (State.SameBut w) where
  toControlClosed := State.same_closed w
  line _ _ _ _ := .of_rest (heat := .inl heat) (line := .inl line)

/-- The frame end (R178 to R187), which may bring any request. -/
theorem State.frame_same (heat : .heat ∈ w) (line : .line ∈ w) (answer : .answer ∈ w) :
    FrameClosed (State.SameBut w) where
  toLineClosed := State.absence_same w heat line
  serve t n q := t.serve_same w n q
  answer _ _ := .of_rest (answer := .inl answer)

end

/-! ## Every command -/

/-- What a command changes of it. -/
def writes : Instr → List Outside
  | .hardwareReset => [.heat, .pitch, .admission, .estop, .eyes, .line, .answer]
  | .creditSample => [.heat]
  | .frameEnd _ _ => [.heat, .line, .answer]
  | .nodeAbsent _ => [.heat, .line]
  | .requestTimeout _ | .responseDrop _ => [.line]
  | .encoderCount | .step => [.pitch, .admission]
  | .clearEdge _ => [.eyes, .admission]
  | .eyeSample _ _ _ => [.eyes, .admission, .estop]
  | .blockedEdge _ | .jam _ => [.eyes]
  | .estopActive | .estopReleased => [.estop]
  | .startingComplete | .holdingEnd | .heatTimerExpiry | .settleTimerExpiry | .drainComplete | .unloadReleaseOpen
  | .mergeGrantOpen | .dispatchGrantOpen | .mergeTimeout | .dispatchTimeout | .exitMissing _ | .tunnelStall => []
  | _ => [.answer]

theorem exec_sameBut {s t : State} {c : Instr} (e : exec c s = .next t) : s.SameBut (writes c) t := by
  have next {w : List Outside} {u : State} (k : s.SameBut w u)
      (f : (Host.Outcome.next u : Host.Outcome State Fault Refusal) = .next t) : s.SameBut w t := Host.Outcome.next.inj f ▸ k
  have ifSo {w : List Outside} (b : Bool) {u : State} (k : s.SameBut w u) : s.SameBut w (if b then u else s) := by
    split
    · exact k
    · exact .refl s
  have ifNot {w : List Outside} (b : Bool) {u : State} (k : s.SameBut w u) : s.SameBut w (if b then s else u) := by
    split
    · exact .refl s
    · exact k
  have request (n : Node) (q : Request) : s.SameBut [.answer] ((s.serve n q).answering n) :=
    (s.serve_same _ n q).trans (.of_rest (answer := .inl (by simp)))
  have command (n : Node) (k : LineCommand) : s.SameBut [.answer] ((s.serveCommand n k).answering n) :=
    (s.anyCommand_same _ n k).trans (.of_rest (answer := .inl (by simp)))
  cases c with
  | status n => exact next (request n .status) e
  | readRack n r => exact next (request n (.readRack r)) e
  | readLane n p i => exact next (request n (.readLane p i)) e
  | register n p => exact next (request n (.register p)) e
  | load n r replace finish es => exact next (request n (.load r replace finish es)) e
  | unloaded n r => exact next (request n (.unloaded r)) e
  | rewash n r => exact next (request n (.rewash r)) e
  | retire n r => exact next (request n (.retire r)) e
  | place n r p => exact next (request n (.place r p)) e
  | purge n => exact next (request n .purge) e
  | set n p i v => exact next (request n (.set p i v)) e
  | get n p i => exact next (request n (.get p i)) e
  | stop n => exact next (command n .stop) e
  | clear n => exact next (command n .clear) e
  | setup n => exact next (command n .setup) e
  | commit n => exact next (command n .commit) e
  | hold n => exact next (command n .hold) e
  | drain n => exact next (command n .drain) e
  | run n => exact next (command n .run) e
  | startingComplete => exact next ((State.same_closed _).startingTest s) e
  | holdingEnd => exact next ((State.same_closed _).holdingTest s) e
  | heatTimerExpiry => exact next ((State.same_closed _).heatTimerExpiry s) e
  | settleTimerExpiry => exact next ((State.same_closed _).settleTimerExpiry s) e
  | drainComplete => exact next (.of_controlled s.drainTest_controlled) e
  | unloadReleaseOpen => exact next (.of_controlled s.decideRelease_controlled) e
  | mergeGrantOpen => exact next (.of_controlled s.decideMerge_controlled) e
  | dispatchGrantOpen => exact next (.of_controlled s.decideDispatch_controlled) e
  | mergeTimeout => exact next (s.mergeTimeout_same _) e
  | dispatchTimeout => exact next (s.dispatchTimeout_same _) e
  | exitMissing r => exact next (s.exitMissing_same _ r) e
  | tunnelStall => exact next ((State.same_closed _).tunnelStall s) e
  | blockedEdge x => exact next (ifNot _ (s.blockedEdge_same _ x (by simp [writes]))) e
  | clearEdge x => exact next (ifSo _ (s.clearEdge_same _ x (by simp [writes]) (by simp [writes]))) e
  | jam x => exact next (s.declareJam_same _ x (by simp [writes])) e
  | eyeSample blocked low order =>
    exact next (s.sampleAll_same _ blocked low order (by simp [writes]) (by simp [writes]) (by simp [writes])) e
  | estopActive => exact next (ifNot _ (s.estopOn_same _ (by simp [writes]))) e
  | estopReleased => exact next (ifSo _ (s.estopOff_same _ (by simp [writes]))) e
  | encoderCount => exact next (s.countEncoder_same _ (by simp [writes]) (by simp [writes])) e
  | step => exact next (s.stepTunnel_same _ (by simp [writes]) (by simp [writes])) e
  | creditSample => exact next (s.creditSample_same _ (by simp [writes])) e
  | frameEnd slots order =>
    exact next ((State.frame_same _ (by simp [writes]) (by simp [writes]) (by simp [writes])).frameEnd s slots order) e
  | requestTimeout n => exact next (.of_rest (line := .inl (by simp [writes]))) e
  | responseDrop n => exact next (.of_rest (line := .inl (by simp [writes]))) e
  | nodeAbsent n => exact next (ifSo _ ((State.absence_same _ (by simp [writes]) (by simp [writes])).becomeAbsent s n)) e
  | hardwareReset => exact fun i hi => absurd (by cases i <;> simp [writes]) hi

/-- Settles O49: each command leaves what it does not write. -/
theorem inputsChangeByTheirOwnEvents : Obligations.InputsChangeByTheirOwnEvents := by
  intro s t c e
  have same := exec_sameBut e
  refine ⟨?_, ?_, ?_, ?_, ?_, ?_, ?_⟩
  · cases c <;> first | trivial | exact same .heat (by simp [writes])
  · cases c <;> first | trivial | exact same .pitch (by simp [writes])
  · cases c <;> first | trivial | exact same .admission (by simp [writes])
  · cases c <;> first | trivial | exact same .estop (by simp [writes])
  · cases c <;> first | trivial | exact fun e _ => same .eyes (by simp [writes]) e
  · cases c <;> first | trivial | exact (same .line (by simp [writes])).imp id fun k n _ => k n
  · cases c <;> first | trivial | (intro request; first | (cases request; done) | exact same .answer (by simp [writes]))

end Sys2Proof.Machine
end
section
/-! PURGE (R49, R198). -/

namespace Sys2Proof.Machine

section
variable {s before : State}

theorem State.inRun_of_idle (idle : s.executor.loop = .idle) : s.inRun = false := by simp [State.inRun, idle, LoopState.isRun]

/-- In IDLE, with no new head of UNL, an event makes the permit be worked out again and no more (R90, R166, R175). -/
theorem State.observe_idle (idle : s.executor.loop = .idle) (head : s.takeNewHead before = s) :
    s.observe before = s.refreshPermit := by
  have outside : s.refreshPermit.inRun = false := State.inRun_of_idle idle
  have none : s.refreshPermit.drainDue = false := by simp [State.drainDue, outside, idle]
  rw [State.observe, head, State.reacting, if_neg (by simp [none]),
    State.decideAfter_outsideRun outside]
  rfl

theorem State.permitCondition_idle (idle : s.executor.loop = .idle) : s.permitCondition = false := by
  simp [State.permitCondition, State.inRun_of_idle idle]

end

/-- The loop with every rack and every permission gone. -/
def State.purged (s : State) : State :=
  { s with
    slots := Vector.replicate 64 none, lanes := s.lanes.purged
    tunnel := { s.tunnel with permit := false, stall := none }, unload := { s.unload with release := none }, merge := none
    dispatch := { s.dispatch with grant := none } }

/-- PURGE in IDLE empties the loop and withdraws the permissions, and nothing else. -/
theorem State.purge_idle {s : State} (idle : s.executor.loop = .idle) : s.purge = s.purged := by
  have gone : ({ s with slots := Vector.replicate 64 none, lanes := s.lanes.purged } : State).withdrawPermissions.executor.loop
      = .idle := idle
  rw [State.purge, State.observe_idle gone (State.takeNewHead_empty rfl), State.refreshPermit,
    State.permitCondition_idle gone]
  rfl

theorem exec_purge_refused {s : State} {n : Node} {r : Result} (h : s.servePurge n = s.refuse 0x0A r) :
    exec (.purge n) s = .next { s with answer := some ⟨n, response 0x0A r⟩ } := by
  show Host.Outcome.next ((s.servePurge n).answering n) = _
  rw [h]
  rfl

/-- Settles O16: PURGE in IDLE is `State.purged`, and otherwise a refusal. -/
theorem purgeEmptiesTheLoop : Obligations.PurgeEmptiesTheLoop := by
  intro s
  refine ⟨fun n other => ?_, fun busy => ?_, fun idle => ?_⟩
  · exact exec_purge_refused (r := .notPermitted) (by simp [State.servePurge, other])
  · exact exec_purge_refused (r := .wrongState) (by cases h : s.executor.loop <;> simp_all [State.servePurge, LoopState.isIdle])
  · have served : s.servePurge .panel = ⟨s.purged, response 0x0A .ok⟩ := by
      simp [State.servePurge, idle, LoopState.isIdle, State.purge_idle idle]
    have freed (n : RecNo) : s.purged.record n = none := record_freed rfl n
    refine ⟨{ s.purged with answer := some ⟨.panel, response 0x0A .ok⟩ }, ?_, rfl, freed, ?_,
      s.lanes.purged_contents, ?_, ⟨rfl, rfl, rfl, rfl, rfl⟩, rfl, rfl, rfl, rfl, rfl, rfl, ⟨rfl, rfl, rfl, rfl, rfl⟩,
      ⟨rfl, rfl, rfl⟩⟩
    · show Host.Outcome.next ((s.servePurge .panel).answering .panel) = _
      rw [served]
      rfl
    · exact List.countP_eq_zero.2 fun n _ => Bool.eq_false_iff.1 (congrArg Option.isSome (freed n))
    · exact s.lanes.noFuller_purged.cells

end Sys2Proof.Machine
end
section
/-! One rack at EN, at EX and at DS (R36 to R39, R42, R81, R82, R88, R124, R125, R154). -/

namespace Sys2Proof.Machine

/-! ## What one rack makes of the records -/

section
variable {s t : State} {e : Eye} {n : RecNo} {v : Record}

/-- With the head of UNL as it was, the rack that passes is changed as the passage changes it, and no other (R37). -/
theorem State.EdgeTaken.ordinary (taken : s.EdgeTaken t e ((s.cleared e).reconcile e))
    (source : (s.cleared e).lanes.sourceHead e = some n) (hv : s.record n = some v)
    (head : ((s.cleared e).reconcile e).state.lanes.unl.head? = s.lanes.unl.head?) :
    t.record n = some (v.passed e s.single.fixPoint s.unload.diverter) ∧ s.othersKept t n := by
  refine ⟨?_, fun k hk => ?_⟩
  · rw [taken.record, State.seenAtHead_same head, State.record_ordinary source, if_pos rfl]
    exact congrArg (Option.map _) hv
  · rw [taken.record, State.seenAtHead_same head, State.record_ordinary source, if_neg hk]
    rfl

theorem State.unloadSkipped_other (s : State) (h : e ≠ .ul) (n : RecNo) : s.unloadSkipped e n = [] := by
  simp [State.unloadSkipped, h]

/-- A passage that nothing else befalls is UNGRANTED, or its trackpoint's anomaly record stays (R38). -/
theorem State.EdgeTaken.granted {m : Landing} (taken : s.EdgeTaken t e m) {covered : Bool} {n : RecNo}
    (anomalies : m.anomalies = ungranted covered (some n)) :
    (covered = true → s.edgeCleared t e (s.eyes.get e).anomaly)
      ∧ (covered = false → s.edgeCleared t e ⟨.ungranted, some n, true⟩
          ∧ (s.present .panel = true → t.attention .panel = true)) := by
  have edge := taken.edge
  have mark := taken.mark
  rw [anomalies] at edge mark
  cases covered with
  | true => exact ⟨fun _ => edge, fun h => (by cases h)⟩
  | false => exact ⟨fun h => (by cases h), fun _ => ⟨edge, mark (by simp [ungranted])⟩⟩

/-- A rack with no room at its destination: the last anomaly is that of its being off the track (R42, R43). -/
theorem State.EdgeTaken.offTrack {m : Landing} (taken : s.EdgeTaken t e m) {as : List (AnomalyKind × Option RecNo)}
    {k : AnomalyKind} {n : RecNo} (anomalies : m.anomalies = as ++ [(k, some n)]) :
    s.edgeCleared t e ⟨k, some n, true⟩ ∧ (s.present .panel = true → t.attention .panel = true) := by
  have edge := taken.edge
  have mark := taken.mark
  rw [anomalies] at edge mark
  rw [Anomaly.after_concat] at edge
  exact ⟨edge, mark (by simp)⟩

end

/-! ## EN (R81, R82) -/

section
variable {s : State}

theorem State.inRun_iff (s : State) : s.inRun = true ↔ s.executor.loop = .run := by
  cases h : s.executor.loop <;> simp [State.inRun, LoopState.isRun, h]

/-- With a record in ACC the gate is open in RUN with cell 0 empty and the admission AVAILABLE (R81). -/
theorem State.gateOpen_iff {n : RecNo} (head : s.lanes.acc.head? = some n) : s.gateOpen = true ↔
    s.executor.loop = .run ∧ s.lanes.cells.head? = some none ∧ s.tunnel.admissionUsed = false := by
  obtain ⟨rest, acc⟩ := List.head?_eq_some_iff.1 head
  rw [← s.inRun_iff]
  simp [State.gateOpen, Lanes.cellZeroEmpty, acc, and_assoc]

theorem State.endBlockage_en (t : State) : t.endBlockage .en = t.setEye .en { t.eyes.get .en with blockage := none } := rfl

theorem MergeSource.eye_ne (src : MergeSource) : src.eye ≠ .en ∧ src.eye ≠ .ex := by cases src <;> simp [MergeSource.eye]

theorem State.mergeDecided_setEye {t : State} {e : Eye} {x : Trackpoint} (h : s.mergeDecided t)
    (other : ∀ m : MergeSource, m.eye ≠ e) : s.mergeDecided (t.setEye e x) := by
  refine ⟨fun none => ⟨State.mergeFresh_congr (h.1 none).1 rfl rfl rfl rfl, State.mergeGrantOpen_next.2 ?_⟩, h.2⟩
  exact State.decideMerge_stable (State.mergeGrantOpen_next.1 (h.1 none).2) rfl rfl
    (fun m => State.isBlocked_setEye (other m)) rfl rfl

/-- With no drain set, the count of ACC fallen makes the Merge Arbiter decide, and the Dispatch Arbiter has no part. -/
theorem entry_decided (quiet : s.executor.drain = none) (cause : ((s.cleared .en).reconcile .en).cause = none)
    {l : Lanes} (lanes : ((s.cleared .en).reconcile .en).state.lanes = l) (acc : l.acc.length < s.lanes.acc.length)
    (ret : l.ret = s.lanes.ret) (lp : l.lp = s.lanes.lp) :
    let t := ((s.cleared .en).passage .en).endBlockage .en
    s.mergeDecided t ∧ t.dispatch = s.dispatch := by
  have still : ((s.cleared .en).noted .en).executor.drain = none := by
    rw [State.noted_executor]
    exact quiet
  have here : ((s.cleared .en).noted .en).lanes = l := by rw [State.noted_lanes, lanes]
  have merge : ((s.cleared .en).noted .en).merge = s.merge := by rw [State.noted_merge]; rfl
  have dispatch : ((s.cleared .en).noted .en).dispatch = s.dispatch := by rw [State.noted_dispatch]; rfl
  have quietly := State.passage_quiet cause
  refine ⟨State.mergeDecided_setEye ?_ fun m => m.eye_ne.1, ?_⟩
  · rw [quietly]
    have due : mergeDue (s.cleared .en) ((s.cleared .en).noted .en) = true := mergeDue_of_acc (by rw [here]; exact acc)
    have decided := State.observe_mergeDecided still merge due
    exact ⟨decided.1, decided.2⟩
  · show ((s.cleared .en).passage .en).dispatch = s.dispatch
    rw [quietly]
    have due := dispatchDue_false (s := s.cleared .en) (u := (s.cleared .en).noted .en) (by rw [dispatch]; rfl)
      (fun empty => by rw [here, ret]; exact empty) fun x h => ?_
    · exact (State.observe_dispatch_kept still (.inr due)).trans dispatch
    · rwa [State.claimant_congr ((s.cleared .en).noted_kept .en).marks (by rw [here, lp]; rfl)] at h

end

/-- Settles O28: one rack at EN, into cell 0 or onto OFF. -/
theorem entryPassage : Obligations.EntryPassage := by
  intro s n v ends head hv gateOpens
  have source : (s.cleared .en).lanes.sourceHead .en = some n := head
  have dest : (s.cleared .en).destination .en = some .tun := rfl
  have covers : (s.cleared .en).covers .en = true ↔ gateOpens := State.gateOpen_iff source
  have admission := State.reconcile_admission (s.cleared .en) .en
  simp only [decide_true, Bool.or_true] at admission
  obtain ⟨rest, hacc⟩ := List.head?_eq_some_iff.1 head
  refine ⟨fun empty => ?_, fun occupied idle quiet => ?_⟩
  · have room : (s.cleared .en).isFull .tun = false := by
      show (!decide (s.lanes.cells.head? = some none)) = false
      simp [empty]
    obtain ⟨lanes, anomalies, cause⟩ := State.ordinary_joins source dest room
    rw [State.unloadSkipped_other _ (by decide), List.append_nil] at anomalies
    have taken := State.edgeTaken (State.passage_passed cause)
    obtain ⟨changed, others⟩ := taken.ordinary source hv (by rw [lanes]; rfl)
    obtain ⟨granted, bare⟩ := taken.granted anomalies
    refine ⟨_, exec_clearEdge_rack ends, taken.lanes.trans lanes, changed, others, taken.admission.trans admission,
      fun open_ => granted (covers.2 open_), fun closed => bare (Bool.eq_false_iff.2 (mt covers.1 closed)), taken.sensors,
      taken.settings, taken.line, fun quiet => ⟨State.edge_executorKept cause quiet, ?_⟩⟩
    have fewer : s.lanes.acc.tail.length < s.lanes.acc.length := by simp [hacc]
    exact entry_decided quiet cause lanes fewer rfl rfl
  · obtain ⟨c, hc⟩ := occupied
    have full : (s.cleared .en).isFull .tun = true := by
      show (!decide (s.lanes.cells.head? = some none)) = true
      simp [hc]
    obtain ⟨lanes, anomalies, cause⟩ := State.ordinary_overflows source dest full
    simp only [if_true] at lanes anomalies cause
    obtain ⟨held, withdrawn, taken⟩ := State.edge_held cause quiet idle
    obtain ⟨changed, others⟩ := taken.ordinary source hv (by rw [lanes]; rfl)
    obtain ⟨edge, mark⟩ := taken.offTrack anomalies
    exact ⟨_, exec_clearEdge_rack ends, taken.lanes.trans lanes, changed, others, taken.admission.trans admission, edge,
      mark, held, withdrawn, taken.sensors, taken.settings, taken.line⟩

end Sys2Proof.Machine
end
section
/-! One rack at EX and at DS (R36 to R39, R42, R88, R124, R125, R127, R154). -/

namespace Sys2Proof.Machine

/-! ## What is decided after an event, whatever the drain (R127, R150) -/

section
variable {s before : State}

theorem State.drainTest_settledRelease (h : s.decideRelease = s) : s.drainTest.decideRelease = s.drainTest := by
  rcases s.drainTest_cases with same | ⟨i, form⟩
  · rw [same]
    exact h
  · have ready : s.drainTest.inRun = false := by
      rw [form, State.inRun, State.writeOutcome_executor]
      split <;> rfl
    exact (State.decideRelease_eq_self _).2 (.inl (by simp [ready]))

/-- After an event with no cause the release has been decided (R14, R127). -/
theorem State.observe_releaseSettled (s before : State) : (s.observe before).decideRelease = s.observe before :=
  State.reacting_leads (P := fun _ => True) (Q := fun t => t.decideRelease = t) (fun _ _ => trivial) (fun _ _ => trivial)
    (fun t _ => (t.decideAfter_release before).1) (fun _ h => State.drainTest_settledRelease h) trivial

/-- With no drain set, the permit after an event is on exactly where its condition holds (R90). -/
theorem State.observe_permit (quiet : s.executor.drain = none) :
    (s.observe before).tunnel.permit = s.permitCondition := by
  rw [State.observe_quiet none quiet]
  obtain ⟨_, _, _, h⟩ := (s.seen before).decideAfter_form before
  show ((s.seen before).decideAfter before).tunnel.permit = _
  rw [h]
  show (s.takeNewHead before).permitCondition = _
  simp [State.permitCondition, State.backPressure]

/-- The permit is on in RUN without back-pressure (R90). -/
theorem State.permitCondition_iff (s : State) : s.permitCondition = true ↔ s.inRun = true
    ∧ ¬(s.lanes.lastCell ≠ none ∧ s.working.unloadCap ≤ s.lanes.unl.length + s.lanes.xt.length) := by
  unfold State.permitCondition State.backPressure
  cases s.lanes.lastCell <;> simp

/-- A grant of the Dispatch Arbiter has its full window, and the loading position of its target is empty (R149, R151). -/
def State.grantNew (t : State) : Prop :=
  ∀ g ∈ t.dispatch.grant, g.window = .timing t.working.dispatchWindow ∧ t.lanes.lp.get g.target = none

theorem State.grantNew_congr {t : State} (h : s.grantNew) (dispatch : t.dispatch = s.dispatch) (lanes : t.lanes = s.lanes)
    (working : t.working = s.working) : t.grantNew := by
  unfold State.grantNew
  rw [dispatch, lanes, working]
  exact h

theorem dispatchChoice_mem {classes next : PerStation Bool} {claimants : List Station} {x : Station}
    (h : dispatchChoice classes claimants = some (next, x)) : x ∈ claimants := by
  unfold dispatchChoice at h
  split at h
  · rename_i y found
    obtain ⟨_, rfl⟩ := Prod.mk.inj (Option.some.inj h)
    exact List.mem_of_find?_eq_some found
  · obtain ⟨y, head, e⟩ := Option.map_eq_some_iff.1 h
    obtain ⟨_, rfl⟩ := Prod.mk.inj e
    exact List.mem_of_head? head

theorem State.decideDispatch_grantNew (h : s.grantNew) : s.decideDispatch.grantNew := by
  unfold State.decideDispatch
  split
  · exact h
  · split
    · rename_i classes x chosen
      intro g hg
      obtain rfl : g = ⟨x, .timing s.working.dispatchWindow, none⟩ := (Option.some.inj hg).symm
      have claims : s.claimant x = true := (List.mem_filter.1 (dispatchChoice_mem chosen)).2
      refine ⟨rfl, ?_⟩
      simp only [State.claimant, Bool.and_eq_true, Option.isNone_iff_eq_none] at claims
      exact claims.2
    · exact h

theorem State.decideAfter_grantNew (h : s.grantNew) : (s.decideAfter before).grantNew := by
  obtain ⟨r, hr⟩ := s.decideRelease_form
  obtain ⟨g, hg⟩ : ∃ g, (if mergeDue before s then s.decideRelease.decideMerge else s.decideRelease) =
      { s.decideRelease with merge := g } := by
    split
    · exact s.decideRelease.decideMerge_form
    · exact ⟨s.decideRelease.merge, rfl⟩
  have decided : (if mergeDue before s then s.decideRelease.decideMerge else s.decideRelease).grantNew := by
    rw [hg, hr]
    exact State.grantNew_congr h rfl rfl rfl
  unfold State.decideAfter
  dsimp only
  split
  · exact State.decideDispatch_grantNew decided
  · exact decided

theorem State.drainTest_grantNew (h : s.grantNew) : s.drainTest.grantNew := by
  have control := s.drainTest_controlled
  rcases s.drainTest_cases with same | ⟨i, form⟩
  · rw [same]
    exact h
  · intro g hg
    rw [form] at hg
    rw [control.lanes, control.working]
    split at hg
    · simp at hg
    · exact h g (by simpa using hg)

/-- After an event with no cause a grant that the Dispatch Arbiter holds is new, where it held none before. -/
theorem State.observe_grantNew (none : s.dispatch.grant = none) : (s.observe before).grantNew := by
  refine State.reacting_keeps (P := State.grantNew) (fun _ h => h) (fun _ h => State.drainTest_grantNew h)
    (fun t h => State.decideAfter_grantNew h) fun g hg => ?_
  have still : (s.seen before).dispatch.grant = Option.none := by rw [State.seen_dispatch]; exact none
  exact absurd (still.symm.trans hg) (by simp)

end

/-! ## EX (R36, R88) -/

theorem State.endBlockage_ex (t : State) : t.endBlockage .ex = t.setEye .ex { t.eyes.get .ex with blockage := none } := rfl

/-- EX and DS change no field of the record (R37). -/
theorem State.record_exitOrDispatch {s : State} {e : Eye} {n : RecNo} (h : e = .ex ∨ e = .ds)
    (head : s.lanes.sourceHead e = some n) (k : RecNo) : (s.reconcile e).state.record k = s.record k := by
  rw [State.record_ordinary head]
  split
  · rename_i same
    subst same
    rcases h with rfl | rfl <;> exact Option.map_id'
  · rfl

/-- Settles O30: one rack at EX, into UNL or onto OFF. -/
theorem exitPassage : Obligations.ExitPassage := by
  intro s x rest ends hxt
  have source : (s.cleared .ex).lanes.sourceHead .ex = some x.rack := by
    show s.lanes.xt.head?.map _ = _
    rw [hxt]
    rfl
  have dest : (s.cleared .ex).destination .ex = some .unl := rfl
  have tail : s.lanes.xt.tail = rest := by rw [hxt]; rfl
  have admission := State.reconcile_admission (s.cleared .ex) .ex
  simp only [reduceCtorEq, decide_false, Bool.or_false] at admission
  have records := State.record_exitOrDispatch (.inl rfl) source
  refine ⟨fun room => ?_, fun closed some idle quiet => ?_⟩
  · have open_ : (s.cleared .ex).isFull .unl = false := by
      show decide (s.working.unloadCap ≤ s.lanes.unl.length) = false
      simpa using room
    obtain ⟨lanes, anomalies, cause⟩ := State.ordinary_joins source dest open_
    rw [State.unloadSkipped_other _ (by decide), List.append_nil] at anomalies
    have taken := State.edgeTaken (State.passage_passed cause)
    have joined : (((s.cleared .ex).passage .ex).endBlockage .ex).lanes =
        { s.lanes with xt := rest, unl := s.lanes.unl ++ [x.rack] } := by
      rw [taken.lanes, lanes, ← tail]
      rfl
    have record (k : RecNo) : (((s.cleared .ex).passage .ex).endBlockage .ex).record k =
        s.seenAtHead (((s.cleared .ex).passage .ex).endBlockage .ex).lanes s.record k := by
      rw [taken.record, taken.lanes]
      exact State.seenAtHead_congr (records k)
    have settled : exec .unloadReleaseOpen (((s.cleared .ex).passage .ex).endBlockage .ex) =
        .next (((s.cleared .ex).passage .ex).endBlockage .ex) := by
      refine State.unloadReleaseOpen_next.2 ?_
      rw [State.endBlockage_ex]
      have decided := State.observe_releaseSettled ((s.cleared .ex).noted .ex) (s.cleared .ex)
      rw [← State.passage_quiet cause] at decided
      exact State.decideRelease_stable decided rfl rfl (State.isBlocked_setEye (by decide)) rfl rfl rfl
    have control : (((s.cleared .ex).noted .ex).takeNewHead (s.cleared .ex)).Controlled ((s.cleared .ex).passage .ex) := by
      rw [State.passage_quiet cause]
      exact ((s.cleared .ex).noted .ex).observe_controlled (s.cleared .ex)
    refine ⟨_, exec_clearEdge_rack ends, joined, record, fun empty => ?_, fun some => ?_, settled,
      (taken.granted anomalies).1 rfl, taken.admission.trans admission, taken.sensors, taken.settings, taken.line,
      fun quiet => ⟨State.edge_executorKept cause quiet, ?_⟩⟩
    · obtain ⟨turned, marked⟩ := (State.passage_newHead cause (taken.lanes.symm.trans joined)).2 x.rack
        (by simp [empty]) (by simp [State.cleared, empty])
      exact ⟨State.diverterMatchesHead_endBlockage .ex turned,
        fun present => State.endBlockage_attention _ .ex (marked present)⟩
    · have head : ((s.cleared .ex).reconcile .ex).state.lanes.unl.head? = s.lanes.unl.head? := by
        rw [← taken.lanes, joined]
        exact List.head?_append_of_ne_nil _ some
      rw [State.takeNewHead_same (by rw [State.noted_lanes]; exact head)] at control
      exact ⟨control.diverter.trans ((s.cleared .ex).noted_diverter .ex), taken.slots (State.slots_of_record records) head⟩
    · have still : ((s.cleared .ex).noted .ex).executor.drain = none := by
        rw [State.noted_executor]
        exact quiet
      have here : ((s.cleared .ex).noted .ex).lanes = (((s.cleared .ex).passage .ex).endBlockage .ex).lanes := by
        rw [State.noted_lanes, taken.lanes]
      have permit := State.observe_permit (before := s.cleared .ex) still
      rw [← State.passage_quiet cause] at permit
      show ((s.cleared .ex).passage .ex).tunnel.permit = true ↔ _
      rw [permit, State.permitCondition_iff, State.noted_inRun, here, State.noted_working, ← s.inRun_iff, joined]
      rfl
  · have full : (s.cleared .ex).isFull .unl = true := by
      show decide (s.working.unloadCap ≤ s.lanes.unl.length) = true
      simpa using closed
    obtain ⟨lanes, anomalies, cause⟩ := State.ordinary_overflows source dest full
    simp only [reduceCtorEq, if_false] at lanes anomalies cause
    obtain ⟨held, withdrawn, taken⟩ := State.edge_held cause quiet idle
    obtain ⟨edge, mark⟩ := taken.offTrack anomalies
    have off : (((s.cleared .ex).passage .ex).endBlockage .ex).lanes =
        { s.lanes with xt := rest, off := s.lanes.off ++ [⟨x.rack, .overflow⟩] } := by
      rw [taken.lanes, lanes, ← tail]
      rfl
    refine ⟨_, exec_clearEdge_rack ends, off, ?_, edge, mark, held, withdrawn, taken.admission.trans admission,
      taken.sensors, taken.settings, taken.line⟩
    refine taken.slots (State.slots_of_record records) ?_
    rw [lanes]
    rfl

/-! ## DS (R39, R154) -/

section
variable {s : State} {n : RecNo}

/-- An ordinary passage at DS with neither a grant nor a last target (R39). -/
theorem State.ordinary_nowhere (head : s.lanes.sourceHead .ds = some n) (dest : s.destination .ds = none) :
    (s.reconcile .ds).state.lanes = (s.lanes.pop .ds).sendOff n .noDestination
      ∧ (s.reconcile .ds).anomalies = ungranted (s.covers .ds) (some n) ++ [(.noDestination, some n)]
      ∧ (s.reconcile .ds).cause = none := by
  rw [State.reconcile_ordinary head, State.ordinaryPassage_eq, dest, State.unloadSkipped_other s (by decide),
    List.append_nil]
  refine ⟨?_, rfl, rfl⟩
  show (s.moving .ds n).lanes.sendOff n .noDestination = _
  rw [State.moving_lanes]

/-- After a passage at DS that gives no cause the Dispatch Arbiter has decided, and what it holds is new (R150, R154). -/
theorem ds_decided (s : State) (cause : (s.reconcile .ds).cause = none) :
    ((s.passage .ds).endBlockage .ds).grantNew
      ∧ exec .dispatchGrantOpen ((s.passage .ds).endBlockage .ds) = .next ((s.passage .ds).endBlockage .ds) := by
  have ended : (s.noted .ds).dispatch.grant = none := by
    rw [State.noted_dispatch]
    rfl
  have new := State.observe_grantNew (before := s) ended
  rw [← State.passage_quiet cause] at new
  exact ⟨State.decideDispatch_grantNew (State.grantNew_congr new rfl rfl rfl),
    State.dispatchGrantOpen_next.2 (State.decideDispatch_idem _)⟩

end

/-- Settles O32: one rack at DS, into a loading position or onto OFF. -/
theorem dispatchPassage : Obligations.DispatchPassage := by
  intro s n rest ends hret toward
  have source : (s.cleared .ds).lanes.sourceHead .ds = some n := congrArg List.head? hret
  have tail : s.lanes.ret.tail = rest := congrArg List.tail hret
  have admission := State.reconcile_admission (s.cleared .ds) .ds
  simp only [reduceCtorEq, decide_false, Bool.or_false] at admission
  have records := State.record_exitOrDispatch (.inr rfl) source
  have delivers {x : Station} (h : toward x) : (s.cleared .ds).destination .ds = some (.lp x) := by
    show s.dispatch.deliversTo.map Sys2Proof.Place.lp = some (.lp x)
    rcases h with ⟨g, hg, rfl⟩ | ⟨none, last⟩
    · simp [Dispatch.deliversTo, Option.mem_def.1 hg]
    · simp [Dispatch.deliversTo, none, last]
  have fullness (x : Station) : (s.cleared .ds).isFull (.lp x) = (s.lanes.lp.get x).isSome := rfl
  have slots {t : State} (taken : s.EdgeTaken t .ds ((s.cleared .ds).reconcile .ds))
      (unl : ((s.cleared .ds).reconcile .ds).state.lanes.unl = s.lanes.unl) : t.slots = s.slots :=
    taken.slots (State.slots_of_record records) (by rw [unl])
  refine ⟨fun x h empty => ?_, fun x h occupied idle quiet => ?_, fun none last => ?_⟩
  · have room : (s.cleared .ds).isFull (.lp x) = false := by simp [fullness, empty]
    obtain ⟨lanes, anomalies, cause⟩ := State.ordinary_joins source (delivers h) room
    rw [State.unloadSkipped_other _ (by decide), List.append_nil] at anomalies
    have taken := State.edgeTaken (State.passage_passed cause)
    obtain ⟨granted, bare⟩ := taken.granted anomalies
    obtain ⟨new, settled⟩ := ds_decided _ cause
    have joined : (((s.cleared .ds).passage .ds).endBlockage .ds).lanes =
        { s.lanes with ret := rest, lp := s.lanes.lp.set x (some n) } := by
      rw [taken.lanes, lanes, ← tail]
      rfl
    refine ⟨_, exec_clearEdge_rack ends, joined, slots taken (by rw [lanes]; rfl), fun present => taken.raised _ ?_,
      fun some => granted (Option.isSome_iff_ne_none.2 some), fun none => bare ?_, fun g hg => ?_, settled,
      taken.admission.trans admission, taken.sensors, taken.settings, taken.line,
      fun quiet => State.edge_executorKept cause quiet⟩
    · exact State.ordinary_delivered source (delivers h) room present
    · show s.dispatch.grant.isSome = false
      rw [none]
      rfl
    · obtain ⟨window, target⟩ := new g hg
      rw [taken.settings.2.1] at window
      exact ⟨window, target⟩
  · have full : (s.cleared .ds).isFull (.lp x) = true := by simpa [fullness] using Option.isSome_iff_ne_none.2 occupied
    obtain ⟨lanes, anomalies, cause⟩ := State.ordinary_overflows source (delivers h) full
    simp only [reduceCtorEq, if_false] at lanes anomalies cause
    obtain ⟨held, withdrawn, taken⟩ := State.edge_held cause quiet idle
    obtain ⟨edge, mark⟩ := taken.offTrack anomalies
    have off : (((s.cleared .ds).passage .ds).endBlockage .ds).lanes =
        { s.lanes with ret := rest, off := s.lanes.off ++ [⟨n, .overflow⟩] } := by
      rw [taken.lanes, lanes, ← tail]
      rfl
    exact ⟨_, exec_clearEdge_rack ends, off, slots taken (by rw [lanes]; rfl), edge, mark, held, withdrawn,
      taken.admission.trans admission, taken.sensors, taken.settings, taken.line⟩
  · have nowhere : (s.cleared .ds).destination .ds = Option.none := by
      show s.dispatch.deliversTo.map Sys2Proof.Place.lp = Option.none
      simp [Dispatch.deliversTo, none, last]
    obtain ⟨lanes, anomalies, cause⟩ := State.ordinary_nowhere source nowhere
    have taken := State.edgeTaken (State.passage_passed cause)
    obtain ⟨edge, mark⟩ := taken.offTrack anomalies
    have off : (((s.cleared .ds).passage .ds).endBlockage .ds).lanes =
        { s.lanes with ret := rest, off := s.lanes.off ++ [⟨n, .noDestination⟩] } := by
      rw [taken.lanes, lanes, ← tail]
      rfl
    exact ⟨_, exec_clearEdge_rack ends, off, slots taken (by rw [lanes]; rfl), edge, mark,
      taken.admission.trans admission, taken.sensors, taken.settings, taken.line,
      fun quiet => State.edge_executorKept cause quiet⟩

end Sys2Proof.Machine
end
section
/-! What the tunnel holds the loop for: a transit overflow, a record missing at the exit, a stall (R76, R87, R92, R169). -/

namespace Sys2Proof.Machine

/-! ## A cause raised at an event -/

/-- An internal hold cause raises the panel node's mark (R162). -/
theorem State.raiseHold_mark {s : State} (c : HoldCause) (present : s.present .panel = true) :
    (s.raiseHold c).attention .panel = true := by
  have noted : ((s.withExecutor { s.executor with holdCauses := s.executor.holdCauses.add c }).raiseMark .panel).attention
      .panel = true := by
    have here : (s.withExecutor { s.executor with holdCauses := s.executor.holdCauses.add c }).present .panel = true :=
      present
    rw [State.attention_raiseMark, here]
    simp
  have taken := (State.Settled.of_controlled (State.setBit_controlled ((s.withExecutor { s.executor with
    holdCauses := s.executor.holdCauses.add c }).raiseMark .panel) .hold .internal)).trans (State.takeCommands_settled _)
  exact (State.Kept.of_settled taken).marks.raised .panel noted

section
variable {s u : State}

/-- An event that gives a hold cause and no new head of UNL, with no command pending and no drain set. -/
theorem State.observe_held (c : HoldCause) (quiet : u.executor.drain = none) (idle : u.nonePending)
    (head : u.lanes.unl.head? = s.lanes.unl.head?) :
    u.heldBy (u.observe s (some (.hold c))) c
      ∧ (u.inRun = true → (u.observe s (some (.hold c))).permissionsWithdrawn)
      ∧ u.Controlled (u.observe s (some (.hold c))) := by
  have control : u.Controlled ((u.seen s).decideAfter s) := by
    rw [State.seen, State.takeNewHead_same head]
    exact u.refreshPermit_controlled.trans (State.decideAfter_controlled _ s)
  have executor : ((u.seen s).decideAfter s).executor = u.executor := by
    rw [State.decideAfter_executor, State.seen_executor]
  rw [State.observe_quiet _ quiet]
  obtain ⟨held, _, withdrawn, raised⟩ := State.raiseHold_held (s := (u.seen s).decideAfter s) c
    (by rw [executor]; exact quiet) (by rw [State.nonePending, executor]; exact idle)
  refine ⟨State.heldBy_congr executor control.marks.driveCode control.working held, fun run => withdrawn ?_,
    control.trans raised⟩
  rw [State.inRun, executor]
  exact run

/-- From `s` to `u` the anomaly `k` naming `n` has been recorded at EX; the records, the places and the tunnel apart, the
rest is as it was. -/
structure State.NotedAtExit (s u : State) (k : AnomalyKind) (n : RecNo) : Prop where
  executor : u.executor = s.executor
  eyes : u.eyes = s.eyes.set .ex { s.eyes.get .ex with anomaly := ⟨k, some n, true⟩ }
  marks : s.OnlyMarks u
  mark : s.present .panel = true → u.attention .panel = true
  estop : u.estop = s.estop
  heat : u.heat = s.heat
  settings : s.settingsKept u

theorem State.notedAtExit (slots : Vector (Option Record) 64) (lanes : Lanes) (k : AnomalyKind) (n : RecNo) :
    s.NotedAtExit (({ s with slots := slots, lanes := lanes } : State).recordAnomaly .ex k (some n)) k n := by
  have kept := ({ s with slots := slots, lanes := lanes } : State).recordAnomaly_kept .ex k (some n)
  exact ⟨by simp, by simp, ⟨kept.marks.line, kept.marks.node, kept.marks.absent, kept.marks.raised⟩,
    fun present => State.recordAnomalies_mark (s := { s with slots := slots, lanes := lanes }) (e := .ex)
      (as := [(k, some n)]) (by simp) present, by simp, by simp, by simp, by simp, by simp⟩

theorem State.NotedAtExit.moved {k : AnomalyKind} {n : RecNo} (h : s.NotedAtExit u k n) (lanes : Lanes) (tunnel : Tunnel) :
    s.NotedAtExit { u with lanes := lanes, tunnel := tunnel } k n :=
  ⟨h.executor, h.eyes, ⟨h.marks.line, h.marks.node, h.marks.absent, h.marks.raised⟩, h.mark, h.estop, h.heat, h.settings⟩

/-- What a record lost at the exit comes to, with no command pending and no drain set: HOLD is raised. -/
theorem State.NotedAtExit.held {k : AnomalyKind} {n : RecNo} (h : s.NotedAtExit u k n) (c : HoldCause)
    (quiet : s.executor.drain = none) (idle : s.nonePending) (unl : u.lanes.unl = s.lanes.unl) :
    u.Controlled (u.observe s (some (.hold c)))
      ∧ (u.observe s (some (.hold c))).eyes.get .ex = { s.eyes.get .ex with anomaly := ⟨k, some n, true⟩ }
      ∧ (∀ d ∈ Eye.all, d ≠ .ex → (u.observe s (some (.hold c))).eyes.get d = s.eyes.get d)
      ∧ (s.present .panel = true → (u.observe s (some (.hold c))).attention .panel = true)
      ∧ s.heldBy (u.observe s (some (.hold c))) c
      ∧ (s.inRun = true → (u.observe s (some (.hold c))).permissionsWithdrawn)
      ∧ s.settingsKept (u.observe s (some (.hold c))) ∧ s.lineKept (u.observe s (some (.hold c))) := by
  obtain ⟨held, withdrawn, control⟩ := State.observe_held (s := s) (u := u) c (by rw [h.executor]; exact quiet)
    (by rw [State.nonePending, h.executor]; exact idle) (by rw [unl])
  obtain ⟨stored, working, single⟩ := h.settings
  refine ⟨control, ?_, fun d _ other => ?_, fun present => control.marks.raised _ (h.mark present),
    State.heldBy_congr h.executor h.marks.driveCode working held, fun run => withdrawn ?_,
    ⟨control.stored.trans stored, control.working.trans working, control.single.trans single⟩,
    (h.marks.trans control.marks).lineKept⟩
  · rw [control.eyes, h.eyes, PerEye.get_set, if_pos rfl]
  · rw [control.eyes, h.eyes, PerEye.get_set, if_neg other]
  · rw [State.inRun, h.executor]
    exact run

end

/-! ## A transit overflow (R76, R115) -/

/-- The verdict of R115, its reasons written out. -/
theorem Record.judged_eq (v : Record) (t : Settings) :
    let why : Reasons :=
      ⟨decide (v.credit < t.classTarget.get v.ceiling), decide (v.rinseSamples = 0),
        decide (v.rinseSamples ≠ 0 ∧ ∃ k ∈ v.rinseMin, k < t.rinseFloor), v.sensorFault, false⟩
    v.judged t = { v with state := if why = Reasons.none then .clean else .short, reasons := why } := by
  have cold : (decide (v.rinseSamples ≠ 0) && v.rinseMin.any (· < t.rinseFloor)) =
      decide (v.rinseSamples ≠ 0 ∧ ∃ k ∈ v.rinseMin, k < t.rinseFloor) := by
    cases v.rinseMin <;> simp
  simp only [Record.judged, Record.verdictReasons, cold]

section
variable {s : State} {n : RecNo} {x y : XtEntry}

/-- A step with 2 records in XT and one in the last cell: the head of XT is lost, and the rest sees it. -/
theorem State.stepTunnel_overflow (last : s.lanes.lastCell = some n) (full : s.lanes.xt = [x, y]) :
    ∃ u : State, s.stepTunnel = u.observe s (some (.hold .transitOverflow))
      ∧ s.NotedAtExit u .transitOverflow x.rack
      ∧ u.lanes = { s.lanes with
          cells := none :: s.lanes.cells.dropLast
          xt := [y, ⟨n, .timing s.working.exitWindow⟩]
          off := s.lanes.off ++ [⟨x.rack, .transitOverflow⟩] }
      ∧ (∀ k, u.record k = if k = n then (s.record n).map (·.judged s.working) else s.record k)
      ∧ u.tunnel.admissionUsed = false ∧ u.tunnel.pitch = s.working.pitchCounts := by
  obtain ⟨slots, form⟩ := s.updateRecord_form n (·.judged s.working)
  have left : s.leaveTunnel = (({ s with slots := slots, lanes := { s.lanes with
      xt := [y, ⟨n, .timing s.working.exitWindow⟩]
      off := s.lanes.off ++ [⟨x.rack, .transitOverflow⟩] } } : State).recordAnomaly .ex .transitOverflow (some x.rack),
      some (.hold .transitOverflow)) := by
    unfold State.leaveTunnel
    rw [last]
    simp [form, full, Lanes.sendOff, State.withLanes]
  have record (k : RecNo) : s.leaveTunnel.1.record k =
      if k = n then (s.record n).map (·.judged s.working) else s.record k := by
    rw [State.record_leaveTunnel, last]
    by_cases same : k = n
    · subst same
      simp
    · rw [if_neg same, if_neg fun e => same (Option.some.inj e).symm]
  unfold State.stepTunnel
  rw [left] at record ⊢
  refine ⟨_, rfl, (State.notedAtExit _ _ _ _).moved _ _, ?_, record, rfl, ?_⟩
  · simp [Lanes.shifted]
  · simp

theorem State.transitOverflow_holds (last : s.lanes.lastCell = some n) (full : s.lanes.xt = [x, y]) (idle : s.nonePending)
    (quiet : s.executor.drain = none) : ∃ t, exec .step s = .next t
      ∧ t.lanes = { s.lanes with
          cells := none :: s.lanes.cells.dropLast
          xt := [y, ⟨n, .timing s.working.exitWindow⟩]
          off := s.lanes.off ++ [⟨x.rack, .transitOverflow⟩] }
      ∧ (∀ k, k ≠ n → t.record k = s.record k)
      ∧ (∀ v ∈ s.record n, t.record n = some (v.judged s.working))
      ∧ (t.eyes.get .ex).anomaly = ⟨.transitOverflow, some x.rack, true⟩
      ∧ (∀ d ∈ Eye.all, d ≠ .ex → t.eyes.get d = s.eyes.get d)
      ∧ (s.present .panel = true → t.attention .panel = true)
      ∧ s.heldBy t .transitOverflow ∧ (s.inRun = true → t.permissionsWithdrawn)
      ∧ t.tunnel.admissionUsed = false ∧ t.tunnel.pitch = s.working.pitchCounts
      ∧ t.estop = s.estop ∧ t.heat = s.heat ∧ s.settingsKept t ∧ s.lineKept t := by
  obtain ⟨u, form, noted, lanes, record, admission, pitch⟩ := State.stepTunnel_overflow last full
  obtain ⟨control, edge, eyes, mark, held, withdrawn, settings, line⟩ :=
    noted.held .transitOverflow quiet idle (by rw [lanes])
  refine ⟨_, congrArg Host.Outcome.next form, control.lanes.trans lanes, fun k other => ?_, fun v hv => ?_, ?_, eyes, mark,
    held, withdrawn, control.admission.trans admission, control.pitch.trans pitch, control.estop.trans noted.estop,
    control.heat.trans noted.heat, settings, line⟩
  · rw [control.record, record, if_neg other]
  · rw [control.record, record, if_pos rfl, Option.mem_def.1 hv]
    rfl
  · rw [edge]

end

/-! ## A record missing at the exit (R87) -/

section
variable {s : State} {n : RecNo}

theorem Lanes.exitTiming_iff (l : Lanes) (n : RecNo) :
    l.exitTiming n = true ↔ ∃ x ∈ l.xt, x.rack = n ∧ x.window ≠ .arriving := by
  have timing (w : Window) : w.isTiming = true ↔ w ≠ .arriving := by cases w <;> simp [Window.isTiming]
  simp [Lanes.exitTiming, timing]

theorem State.exitMissing_eq (there : s.lanes.exitTiming n = true) :
    s.exitMissing n = ((s.withLanes { s.lanes.sendOff n .exitMissing with
      xt := s.lanes.xt.filter (·.rack ≠ n) }).recordAnomaly .ex .exitMissing (some n)).observe s
        (some (.hold .exitMissing)) := by
  unfold State.exitMissing
  rw [if_pos there]

theorem State.exitMissing_holds (idle : s.nonePending) (quiet : s.executor.drain = none)
    (there : ∃ x ∈ s.lanes.xt, x.rack = n ∧ x.window ≠ .arriving) : ∃ t, exec (.exitMissing n) s = .next t
      ∧ t.lanes = { s.lanes with
          xt := s.lanes.xt.filter fun x => decide (x.rack ≠ n)
          off := s.lanes.off ++ [⟨n, .exitMissing⟩] }
      ∧ t.slots = s.slots
      ∧ (t.eyes.get .ex) = { s.eyes.get .ex with anomaly := ⟨.exitMissing, some n, true⟩ }
      ∧ (∀ d ∈ Eye.all, d ≠ .ex → t.eyes.get d = s.eyes.get d)
      ∧ (s.present .panel = true → t.attention .panel = true)
      ∧ s.heldBy t .exitMissing ∧ (s.inRun = true → t.permissionsWithdrawn)
      ∧ t.tunnel.admissionUsed = s.tunnel.admissionUsed ∧ s.sensorsKept t ∧ s.settingsKept t ∧ s.lineKept t := by
  have noted : s.NotedAtExit ((s.withLanes { s.lanes.sendOff n .exitMissing with
      xt := s.lanes.xt.filter (·.rack ≠ n) }).recordAnomaly .ex .exitMissing (some n)) .exitMissing n :=
    s.notedAtExit s.slots { s.lanes.sendOff n .exitMissing with xt := s.lanes.xt.filter (·.rack ≠ n) } .exitMissing n
  obtain ⟨control, edge, eyes, mark, held, withdrawn, settings, line⟩ :=
    noted.held .exitMissing quiet idle (by simp [Lanes.sendOff])
  refine ⟨_, congrArg Host.Outcome.next (State.exitMissing_eq ((Lanes.exitTiming_iff _ _).2 there)), ?_, ?_, edge, eyes,
    mark, held, withdrawn, control.admission.trans (by simp),
    ⟨control.estop.trans noted.estop, control.heat.trans noted.heat, control.pitch.trans (by simp)⟩, settings, line⟩
  · rw [control.lanes]
    simp [Lanes.sendOff]
  · rw [control.slots]
    simp

/-! ## A stall (R92) -/

/-- The stall timer, once stopped, stays so. -/
theorem State.drainTest_stall (h : s.tunnel.stall = none) : s.drainTest.tunnel.stall = none := by
  rcases s.drainTest_cases with same | ⟨i, form⟩
  · rw [same]
    exact h
  · rw [form, State.writeOutcome_tunnel]
    split
    · rfl
    · exact h

theorem State.enterLoop_stall (l : LoopState) (h : s.tunnel.stall = none) : (s.enterLoop l).tunnel.stall = none := by
  unfold State.enterLoop
  dsimp only
  split
  · rfl
  · exact h

theorem State.holdingTest_stall (h : s.tunnel.stall = none) : s.holdingTest.tunnel.stall = none := by
  unfold State.holdingTest
  split
  · split
    · exact h
    · exact State.drainTest_stall (by simpa using h)
  all_goals exact h

theorem State.takeHold_stall (i : Issuer) (h : s.tunnel.stall = none) : (s.takeHold i).tunnel.stall = none := by
  have entered := State.enterLoop_stall (.holding i) h
  unfold State.takeHold
  split
  case h_6 => exact State.drainTest_stall (by simpa using h)
  case h_7 => exact State.holdingTest_stall (by simpa using entered)
  all_goals simpa using h

theorem State.raiseHold_stall (c : HoldCause) (idle : s.nonePending) (h : s.tunnel.stall = none) :
    (s.raiseHold c).tunnel.stall = none := by
  rw [State.raiseHold_eq c idle]
  exact State.takeHold_stall _ (by simpa using h)

theorem State.tunnelStall_holds (idle : s.nonePending) (quiet : s.executor.drain = none) (runs : s.tunnel.stall ≠ none) :
    ∃ t, exec .tunnelStall s = .next t
      ∧ t.tunnel.stall = none ∧ s.heldBy t .tunnelStall ∧ (s.inRun = true → t.permissionsWithdrawn)
      ∧ (s.present .panel = true → t.attention .panel = true)
      ∧ s.racksKept t ∧ s.surroundingsKept t := by
  obtain ⟨k, running⟩ := Option.ne_none_iff_exists'.1 runs
  have form : s.tunnelStall = ({ s with tunnel := { s.tunnel with stall := none } } : State).raiseHold .tunnelStall := by
    rw [State.tunnelStall, running]
  have mark := State.raiseHold_mark (s := { s with tunnel := { s.tunnel with stall := none } }) .tunnelStall
  obtain ⟨held, _, withdrawn, control⟩ := State.raiseHold_held
    (s := { s with tunnel := { s.tunnel with stall := none } }) .tunnelStall quiet idle
  have none := State.raiseHold_stall (s := { s with tunnel := { s.tunnel with stall := none } }) .tunnelStall idle rfl
  refine ⟨_, congrArg Host.Outcome.next form, ?_⟩
  generalize ({ s with tunnel := { s.tunnel with stall := Option.none } } : State).raiseHold .tunnelStall = t
    at mark held withdrawn control none ⊢
  exact ⟨none, State.heldBy_congr rfl rfl rfl held, withdrawn, mark, ⟨control.slots, control.lanes⟩,
    ⟨control.eyes, control.estop, control.heat, control.pitch, control.admission⟩,
    ⟨control.stored, control.working, control.single⟩, control.marks.line, fun n _ => control.marks.node n⟩

end

end Sys2Proof.Machine
end
section
/-! Two exit windows that run out in one millisecond (R85, R87; section 4.5, second example). -/

namespace Sys2Proof.Machine

/-! ## What the vector keeps while commands are taken (R160, R163) -/

section
variable (s : State)

theorem State.cancelBit_vector (c : LineCommand) :
    (s.cancelBit c).executor.vector = s.executor.vector.set c none := by
  unfold State.cancelBit
  split
  · simp [State.clearBit]
  · rename_i free
    cases c <;> exact (by rw [PerCommand.set, ← free]; rfl)

/-- A command taken leaves of the vector what it neither was nor cancels. -/
theorem State.get_cancelBits (cs : List LineCommand) (d : LineCommand) :
    (cs.foldl State.cancelBit s).executor.vector.get d = if d ∈ cs then none else s.executor.vector.get d := by
  induction cs generalizing s with
  | nil => simp
  | cons c cs ih =>
    rw [List.foldl_cons, ih, State.cancelBit_vector, PerCommand.get_set]
    by_cases tail : d ∈ cs <;> by_cases head : d = c <;> simp [tail, head]

theorem State.get_take (c : LineCommand) (i : Issuer) (d : LineCommand) :
    (s.take c i).executor.vector.get d = if d = c ∨ d ∈ cancelsOf c then none else s.executor.vector.get d := by
  rw [State.take, State.applyCommand_vector, State.get_cancelBits]
  have cleared : (s.clearBit c).executor.vector = s.executor.vector.set c none := rfl
  rw [cleared, PerCommand.get_set]
  by_cases head : d = c <;> by_cases tail : d ∈ cancelsOf c <;> simp [head, tail]

end

/-! ## The hold causes stand until a RUN is taken (R165, R171) -/

section
variable (s : State)

@[simp] theorem State.enterLoop_holdCauses (l : LoopState) :
    (s.enterLoop l).executor.holdCauses = s.executor.holdCauses := by simp

@[simp] theorem State.completeDrain_holdCauses (i : Issuer) :
    (s.completeDrain i).executor.holdCauses = s.executor.holdCauses := by simp [State.completeDrain]

@[simp] theorem State.drainTest_holdCauses : s.drainTest.executor.holdCauses = s.executor.holdCauses := by
  unfold State.drainTest
  repeat' split
  · simp
  all_goals rfl

@[simp] theorem State.endHolding_holdCauses (i : Issuer) :
    (s.endHolding i).executor.holdCauses = s.executor.holdCauses := by simp [State.endHolding]

@[simp] theorem State.holdingTest_holdCauses : s.holdingTest.executor.holdCauses = s.executor.holdCauses := by
  unfold State.holdingTest
  repeat' split
  · rfl
  · simp
  all_goals rfl

@[simp] theorem State.clearDrain_holdCauses : s.clearDrain.executor.holdCauses = s.executor.holdCauses := by
  unfold State.clearDrain
  dsimp only
  split <;> simp

theorem State.applyCommand_holdCauses {c : LineCommand} (hc : c ≠ .run) (i : Issuer) :
    (s.applyCommand c i).executor.holdCauses = s.executor.holdCauses := by
  cases c with
  | stop =>
    show (s.takeStop i).executor.holdCauses = _
    unfold State.takeStop
    split <;> simp
  | clear =>
    show (s.takeClear i).executor.holdCauses = _
    unfold State.takeClear
    repeat' split
    all_goals simp
  | setup =>
    show (s.takeSetup i).executor.holdCauses = _
    unfold State.takeSetup
    split <;> simp
  | commit =>
    show (s.takeCommit i).executor.holdCauses = _
    unfold State.takeCommit
    repeat' split
    all_goals simp [State.applySettings]
  | hold =>
    show (s.takeHold i).executor.holdCauses = _
    unfold State.takeHold
    split <;> simp
  | drain =>
    show (s.takeDrain i).executor.holdCauses = _
    unfold State.takeDrain
    repeat' split
    all_goals simp
  | run => exact absurd rfl hc

theorem State.cancelBits_holdCauses (cs : List LineCommand) :
    (cs.foldl State.cancelBit s).executor.holdCauses = s.executor.holdCauses := by
  induction cs generalizing s with
  | nil => rfl
  | cons c cs ih =>
    rw [List.foldl_cons, ih]
    unfold State.cancelBit
    split
    · simp [State.clearBit]
    · rfl

theorem State.take_holdCauses {c : LineCommand} (hc : c ≠ .run) (i : Issuer) :
    (s.take c i).executor.holdCauses = s.executor.holdCauses := by
  rw [State.take, State.applyCommand_holdCauses _ hc, State.cancelBits_holdCauses]
  rfl

end

/-- EXIT_MISSING is among the hold causes, and no RUN can be taken before a HOLD: one is pending, or no RUN is. -/
structure State.ExitHeld (s : State) : Prop where
  cause : s.executor.holdCauses.exitMissing = true
  vector : s.executor.vector.get .hold ≠ none ∨ s.executor.vector.get .run = none

namespace State.ExitHeld

variable {s t : State}

theorem congr (h : s.ExitHeld) (causes : t.executor.holdCauses = s.executor.holdCauses)
    (vector : t.executor.vector = s.executor.vector) : t.ExitHeld :=
  ⟨by rw [causes]; exact h.cause, by rw [vector]; exact h.vector⟩

theorem of_executor (h : s.ExitHeld) (executor : t.executor = s.executor) : t.ExitHeld :=
  h.congr (by rw [executor]) (by rw [executor])

/-- HOLD stands before RUN in the order of the vector (R163). -/
theorem ne_run (h : s.ExitHeld) {c : LineCommand} (next : s.nextCommand = some c) : c ≠ .run := by
  rintro rfl
  have may := List.find?_some next
  rcases h.vector with pending | free
  · obtain ⟨i, hold⟩ := Option.ne_none_iff_exists'.1 pending
    have before : (LineCommand.all.dropLast.find? fun c => (s.executor.vector.get c).isSome
        && (!s.executor.loop.isBusy || c = .stop || c = .hold)).isSome = true :=
      List.find?_isSome.2 ⟨.hold, by decide, by simp [hold]⟩
    have all : LineCommand.all = LineCommand.all.dropLast ++ [.run] := rfl
    rw [State.nextCommand, all, List.find?_append] at next
    obtain ⟨d, found⟩ := Option.isSome_iff_exists.1 before
    rw [found] at next
    obtain rfl := Option.some.inj next
    exact absurd (List.mem_of_find?_eq_some found) (by decide)
  · simp [free] at may

theorem take (h : s.ExitHeld) {c : LineCommand} (next : s.nextCommand = some c) (i : Issuer) : (s.take c i).ExitHeld := by
  refine ⟨by rw [State.take_holdCauses _ (h.ne_run next)]; exact h.cause, ?_⟩
  rw [State.get_take, State.get_take]
  cases c with
  | stop => exact .inr rfl
  | setup => exact .inr rfl
  | hold => exact .inr rfl
  | run => exact .inr rfl
  | _ => exact h.vector

theorem takeUpTo (k : Nat) (h : s.ExitHeld) : (State.takeUpTo k s).ExitHeld := by
  induction k generalizing s with
  | zero => exact h
  | succ k ih =>
    unfold State.takeUpTo
    split
    · rename_i c next
      split
      · exact ih (h.take next _)
      · exact h
    · exact h

theorem takeCommands (h : s.ExitHeld) : s.takeCommands.ExitHeld := h.takeUpTo 7

/-- A HOLD made pending holds back any RUN. -/
theorem raised {c : HoldCause} (cause : (s.executor.holdCauses.add c).exitMissing = true) : (s.raiseHold c).ExitHeld := by
  refine takeCommands ⟨?_, .inl ?_⟩
  · rw [State.setBit]
    split
    · simpa using cause
    · simpa using cause
  · rw [State.setBit]
    split
    · rename_i pending
      exact Option.isSome_iff_ne_none.1 pending
    · simp

theorem tunnelStall (h : s.ExitHeld) : s.tunnelStall.ExitHeld := by
  unfold State.tunnelStall
  split
  · exact raised h.cause
  · exact h

theorem mergeTimeout (h : s.ExitHeld) : s.mergeTimeout.ExitHeld := by
  unfold State.mergeTimeout
  repeat' split
  · exact h.of_executor (by simp [State.markMerge])
  all_goals exact h

theorem dispatchTimeout (h : s.ExitHeld) : s.dispatchTimeout.ExitHeld := by
  unfold State.dispatchTimeout
  repeat' split
  · exact h.of_executor (by simp [State.markDispatch])
  all_goals exact h

theorem heatTimerExpiry (h : s.ExitHeld) : s.heatTimerExpiry.ExitHeld := by
  unfold State.heatTimerExpiry
  repeat' split
  · exact (h.congr (by simp) (by simp)).takeCommands
  · exact (h.congr (by simp) (by simp)).takeCommands
  · exact h

theorem settleTimerExpiry (h : s.ExitHeld) : s.settleTimerExpiry.ExitHeld := by
  unfold State.settleTimerExpiry
  split
  · exact (h.congr (by simp) (by simp)).takeCommands
  · exact h

theorem when {f : State → State} (hf : ∀ {t : State}, t.ExitHeld → (f t).ExitHeld) (due : Bool) (h : s.ExitHeld) :
    (s.when due f).ExitHeld := by
  unfold State.when
  split
  · exact hf h
  · exact h

end State.ExitHeld

/-- A record missing at the exit leaves its cause standing, whatever the drain and the commands pending (R169). -/
theorem State.exitMissing_exitHeld {s : State} {n : RecNo} (there : s.lanes.exitTiming n = true) :
    (s.exitMissing n).ExitHeld := by
  rw [State.exitMissing_eq there]
  exact State.reacting_leads (P := fun _ => True) (fun _ _ => trivial) (fun _ _ => trivial)
    (fun _ _ => State.ExitHeld.raised rfl) (fun t h => h.congr t.drainTest_holdCauses t.drainTest_vector) trivial

/-! ## The exit through the millisecond -/

/-- XT and OFF are as they were. -/
def State.ExitKept (s t : State) : Prop := t.lanes.xt = s.lanes.xt ∧ t.lanes.off = s.lanes.off

/-- All that moves no rack, and a COMMIT, which gives the tunnel its cells, leave XT and OFF. -/
theorem State.exitKept_closed : BesideClosed State.ExitKept where
  refl _ := ⟨rfl, rfl⟩
  trans h k := ⟨k.1.trans h.1, k.2.trans h.2⟩
  beside h := by rw [State.ExitKept, h.lanes]; exact ⟨rfl, rfl⟩
  take s c i _ := by
    rcases s.take_settled c i with h | ⟨_, h⟩ <;> rw [State.ExitKept, h.lanes] <;> exact ⟨rfl, rfl⟩

section
variable {s : State}

theorem State.ExitKept.of_settled {t : State} (h : s.Settled t) : s.ExitKept t := by
  rcases h with h | ⟨_, h⟩ <;> rw [State.ExitKept, h.lanes] <;> exact ⟨rfl, rfl⟩

theorem State.exitKept_when (due : Bool) {f : State → State} (hf : ∀ t : State, t.ExitKept (f t)) :
    s.ExitKept (s.when due f) := by
  unfold State.when
  split
  · exact hf s
  · exact ⟨rfl, rfl⟩

theorem State.jamsExpire_exitKept (s : State) : s.ExitKept s.jamsExpire :=
  State.exitKept_closed.foldl s (fun _ _ => State.exitKept_when _ fun u => State.exitKept_closed.declareJam u _) Eye.all

theorem State.creditSample_exitKept (s : State) : s.ExitKept s.creditSample :=
  State.exitKept_closed.past (State.exitKept_closed.foldl _ (fun t p => by simp [State.ExitKept]) s.rackZones)

theorem State.exitMissing_exit {n : RecNo} (there : s.lanes.exitTiming n = true) :
    (s.exitMissing n).lanes.xt = s.lanes.xt.filter (·.rack ≠ n)
      ∧ (s.exitMissing n).lanes.off = s.lanes.off ++ [⟨n, .exitMissing⟩] := by
  rw [State.exitMissing_eq there]
  obtain ⟨xt, off⟩ := State.ExitKept.of_settled (State.observe_settled ((s.withLanes { s.lanes.sendOff n .exitMissing with
      xt := s.lanes.xt.filter (·.rack ≠ n) }).recordAnomaly .ex .exitMissing (some n)) s (some (.hold .exitMissing)))
  rw [xt, off]
  simp [Lanes.sendOff]

/-- What a millisecond does after the exit windows have run out. -/
def State.afterExits (s : State) : State :=
  let s4 := s.when (s.tunnel.stall = some 0) State.tunnelStall
  let s5 := s4.when (s4.merge.any fun g => g.window = .timing 0) State.mergeTimeout
  let s6 := s5.when (s5.dispatch.grant.any fun g => g.window = .timing 0) State.dispatchTimeout
  let s7 := s6.when (s6.executor.heatTimer = some 0) State.heatTimerExpiry
  s7.when (s7.executor.settleTimer = some 0) State.settleTimerExpiry

/-- What a millisecond does before them. -/
def State.beforeExits (s : State) : State :=
  s.countTimers.jamsExpire.when (s.countTimers.jamsExpire.heat.sampleTimer = 0) State.creditSample

theorem State.tick_eq (s : State) :
    s.tick = (s.beforeExits.lanes.runOut.foldl State.exitMissing s.beforeExits).afterExits := by
  unfold State.tick State.afterExits State.beforeExits State.jamsExpire
  rfl

theorem State.beforeExits_exitKept (s : State) : s.countTimers.ExitKept s.beforeExits :=
  State.exitKept_closed.trans s.countTimers.jamsExpire_exitKept (State.exitKept_when _ State.creditSample_exitKept)

theorem State.afterExits_exitKept (s : State) : s.ExitKept s.afterExits :=
  have h := State.exitKept_closed
  h.trans (h.trans (h.trans (h.trans (State.exitKept_when _ h.tunnelStall) (State.exitKept_when _ h.mergeTimeout))
    (State.exitKept_when _ h.dispatchTimeout)) (State.exitKept_when _ h.heatTimerExpiry))
    (State.exitKept_when _ h.settleTimerExpiry)

theorem State.ExitHeld.afterExits (h : s.ExitHeld) : s.afterExits.ExitHeld :=
  ((((h.when .tunnelStall _).when .mergeTimeout _).when .dispatchTimeout _).when .heatTimerExpiry _).when
    .settleTimerExpiry _

theorem State.exits_run_out {m n : RecNo} (on : s.tunnel.permit = true) (other : m ≠ n)
    (xt : s.lanes.xt = [⟨m, .timing 1⟩, ⟨n, .timing 1⟩]) : s.tick.lanes.xt = []
      ∧ s.tick.lanes.off = s.lanes.off ++ [⟨m, .exitMissing⟩, ⟨n, .exitMissing⟩]
      ∧ s.tick.executor.holdCauses.exitMissing = true := by
  have counted : s.countTimers.lanes.xt = [⟨m, .timing 0⟩, ⟨n, .timing 0⟩] := by
    simp [State.countTimers, on, xt, Window.countDown]
  have off : s.countTimers.lanes.off = s.lanes.off := by simp [State.countTimers, on]
  obtain ⟨xt0, off0⟩ := s.beforeExits_exitKept
  rw [counted] at xt0
  rw [off] at off0
  have first : s.beforeExits.lanes.exitTiming m = true :=
    (Lanes.exitTiming_iff _ _).2 ⟨⟨m, .timing 0⟩, by simp [xt0], rfl, by simp⟩
  obtain ⟨xt1, off1⟩ := State.exitMissing_exit first
  have left : (s.beforeExits.exitMissing m).lanes.xt = [⟨n, .timing 0⟩] := by
    rw [xt1, xt0]
    simp [Ne.symm other]
  have second : (s.beforeExits.exitMissing m).lanes.exitTiming n = true :=
    (Lanes.exitTiming_iff _ _).2 ⟨⟨n, .timing 0⟩, by simp [left], rfl, by simp⟩
  obtain ⟨xt2, off2⟩ := State.exitMissing_exit second
  have out : s.beforeExits.lanes.runOut = [m, n] := by simp [Lanes.runOut, xt0]
  have form : s.tick = ((s.beforeExits.exitMissing m).exitMissing n).afterExits := by
    rw [State.tick_eq, out]
    rfl
  obtain ⟨xt3, off3⟩ := State.afterExits_exitKept ((s.beforeExits.exitMissing m).exitMissing n)
  rw [form]
  refine ⟨?_, ?_, (State.exitMissing_exitHeld second).afterExits.cause⟩
  · rw [xt3, xt2, left]
    simp
  · rw [off3, off2, off1, off0]
    simp

end

/-- Settles O39: each of the three holds of the tunnel, and the millisecond in which two exit windows run out. -/
theorem tunnelHolds : Obligations.TunnelHolds := by
  refine ⟨fun s n x y last full idle quiet => ?_, fun s idle quiet => ⟨fun m there => ?_, fun m none => ?_,
    State.tunnelStall_holds idle quiet, fun stopped => ?_⟩, fun s m n queue on other xt => ?_⟩
  · obtain ⟨t, form, lanes, others, judged, rest⟩ := State.transitOverflow_holds last full idle quiet
    exact ⟨t, form, lanes, others, fun v hv => (judged v hv).trans (congrArg some (v.judged_eq s.working)), rest⟩
  · exact State.exitMissing_holds idle quiet there
  · have absent : s.lanes.exitTiming m = false := by
      rw [← Bool.not_eq_true, Lanes.exitTiming_iff]
      rintro ⟨x, hx, rack, window⟩
      exact window (none x hx rack)
    exact congrArg Host.Outcome.next (by rw [State.exitMissing, absent]; rfl)
  · exact congrArg Host.Outcome.next (by rw [State.tunnelStall, stopped])
  · have form : step s = .next s.tick := by
      unfold step
      rw [queue]
    exact ⟨s.tick, form, State.exits_run_out on other xt⟩

end Sys2Proof.Machine
end

section
/-! A jam and the edges of the ESTOP input (R57, R58, R71, R72): the executor is given HOLD or STOP, and what becomes of the
permissions with it (R166). -/

namespace Sys2Proof.Machine

/-! ## The permissions where RUN is left (R166) -/

section
variable {s t u : State} {i : Issuer}

theorem State.permissionsKept_trans (h : s.permissionsKept t) (k : t.permissionsKept u) : s.permissionsKept u := by
  obtain ⟨permit, stall, unload, merge, dispatch⟩ := h
  obtain ⟨permit', stall', unload', merge', dispatch'⟩ := k
  exact ⟨permit'.trans permit, stall'.trans stall, unload'.trans unload, merge'.trans merge, dispatch'.trans dispatch⟩

/-- Outside RUN, a command that keeps the permissions leaves them as R166 has it. -/
theorem State.permissionsLeft_of_kept (run : s.inRun = false) (h : s.permissionsKept t) : s.permissionsLeft t := by
  refine ⟨by rw [h.2.2.1], by rw [h.2.2.2.2], by rw [h.2.2.2.2], ?_⟩
  rw [run]
  exact h

/-- What keeps the permissions after a command is no part of it. -/
theorem State.permissionsLeft_kept (h : s.permissionsLeft t) (k : t.permissionsKept u) : s.permissionsLeft u := by
  obtain ⟨diverter, deferred, last, left⟩ := h
  obtain ⟨permit, stall, unload, merge, dispatch⟩ := id k
  refine ⟨by rw [unload, diverter], by rw [dispatch, deferred], by rw [dispatch, last], ?_⟩
  cases run : s.inRun with
  | true =>
    rw [run] at left
    unfold State.permissionsWithdrawn
    rw [permit, stall, unload, merge, dispatch]
    exact left
  | false =>
    rw [run] at left
    exact State.permissionsKept_trans left k

/-- What keeps the permissions and the loop state before a command is no part of it. -/
theorem State.permissionsLeft_after (k : s.permissionsKept t) (run : t.inRun = s.inRun) (h : t.permissionsLeft u) :
    s.permissionsLeft u := by
  obtain ⟨diverter, deferred, last, left⟩ := h
  obtain ⟨permit, stall, unload, merge, dispatch⟩ := id k
  refine ⟨by rw [diverter, unload], by rw [deferred, dispatch], by rw [last, dispatch], ?_⟩
  rw [run] at left
  cases there : s.inRun with
  | true =>
    rw [there] at left
    exact left
  | false =>
    rw [there] at left
    exact State.permissionsKept_trans k left

theorem State.writeOutcome_permissions (s : State) (c : LineCommand) (k : OutcomeKind) (i : Issuer) :
    s.permissionsKept (s.writeOutcome c k i) := by
  simp [State.permissionsKept]

theorem State.enterLoop_permissions (s : State) (l : LoopState) : s.permissionsLeft (s.enterLoop l) := by
  cases run : s.inRun with
  | true =>
    have withdrawn := s.enterLoop_withdrawn l run
    refine ⟨(s.enterLoop_controlled l).diverter, ?_, ?_, ?_⟩
    · simp [State.enterLoop, run]
    · simp [State.enterLoop, run]
    · rw [run]
      exact withdrawn
  | false =>
    refine State.permissionsLeft_of_kept run ?_
    simp [State.permissionsKept, State.enterLoop, run]

theorem State.clearDrain_permissions (s : State) : s.permissionsKept s.clearDrain := by
  unfold State.clearDrain
  dsimp only
  split
  · exact State.writeOutcome_permissions (s.withExecutor { s.executor with drain := none }) _ _ _
  · exact ⟨rfl, rfl, rfl, rfl, rfl⟩

/-- With no drain set, the end of HOLDING keeps the permissions. -/
theorem State.holdingTest_permissions (quiet : s.executor.drain = none) : s.permissionsKept s.holdingTest := by
  unfold State.holdingTest
  split
  · split
    · exact ⟨rfl, rfl, rfl, rfl, rfl⟩
    · rw [State.endHolding, State.drainTest_none (by simpa using quiet)]
      simp [State.permissionsKept]
  all_goals exact ⟨rfl, rfl, rfl, rfl, rfl⟩

/-- HOLD with no drain set leaves RUN, or keeps the permissions. -/
theorem State.takeHold_permissions (quiet : s.executor.drain = none) : s.permissionsLeft (s.takeHold i) := by
  have outside (loop : s.executor.loop ≠ .run) : s.inRun = false := by
    cases h : s.executor.loop <;> simp_all [State.inRun, LoopState.isRun]
  unfold State.takeHold
  cases loop : s.executor.loop with
  | run =>
    dsimp only
    have begun := State.permissionsLeft_kept (s.enterLoop_permissions (.holding i)) (u := ((s.enterLoop (.holding i)).withExecutor
      { (s.enterLoop (.holding i)).executor with
        settleTimer := some (s.enterLoop (.holding i)).working.settleTimeout }).writeOutcome .hold .inProgress i)
      (by simp [State.permissionsKept])
    exact State.permissionsLeft_kept begun (State.holdingTest_permissions (by simpa using quiet))
  | starting o j =>
    dsimp only
    rw [State.drainTest_none (by simpa using quiet)]
    exact State.permissionsLeft_of_kept (outside (by simp [loop])) (by simp [State.permissionsKept])
  | _ => exact State.permissionsLeft_of_kept (outside (by simp [loop])) (s.writeOutcome_permissions _ _ _)

/-- STOP leaves RUN, or keeps the permissions. -/
theorem State.takeStop_permissions : s.permissionsLeft (s.takeStop i) := by
  have outside (loop : s.executor.loop ≠ .run) : s.inRun = false := by
    cases h : s.executor.loop <;> simp_all [State.inRun, LoopState.isRun]
  have stop (u : State) : u.permissionsKept (u.clearDrain.writeOutcome .stop .done i) :=
    State.permissionsKept_trans u.clearDrain_permissions (State.writeOutcome_permissions _ _ _ _)
  unfold State.takeStop
  cases loop : s.executor.loop with
  | idle => exact State.permissionsLeft_of_kept (outside (by simp [loop])) (stop s)
  | stopped => exact State.permissionsLeft_of_kept (outside (by simp [loop])) (stop s)
  | starting o j =>
    refine State.permissionsLeft_of_kept (outside (by simp [loop])) (State.permissionsKept_trans ?_ (stop _))
    simp [State.permissionsKept]
  | holding j =>
    refine State.permissionsLeft_of_kept (outside (by simp [loop])) (State.permissionsKept_trans ?_ (stop _))
    simp [State.permissionsKept]
  | _ => exact State.permissionsLeft_kept (s.enterLoop_permissions .stopped) (stop _)

/-- HOLD raised by an internal cause, with no command pending and no drain set, leaves RUN or keeps the permissions. -/
theorem State.raiseHold_permissions (c : HoldCause) (quiet : s.executor.drain = none) (idle : s.nonePending) :
    s.permissionsLeft (s.raiseHold c) := by
  rw [State.raiseHold_eq c idle]
  refine State.permissionsLeft_after ?_ ?_ (State.takeHold_permissions (by simpa using quiet))
  · simp [State.permissionsKept]
  · simp [State.inRun]

theorem State.raiseStop_permissions (c : StopCause) (idle : s.nonePending) : s.permissionsLeft (s.raiseStop c) := by
  rw [State.raiseStop_eq c idle]
  refine State.permissionsLeft_after ?_ ?_ State.takeStop_permissions
  · simp [State.permissionsKept]
  · simp [State.inRun]

/-- An internal stop cause raises the panel node's mark (R162). -/
theorem State.raiseStop_mark (c : StopCause) (idle : s.nonePending) (present : s.present .panel = true) :
    (s.raiseStop c).attention .panel = true := by
  rw [State.raiseStop_eq c idle]
  have here : (s.withExecutor { s.executor with stopCauses := s.executor.stopCauses.add c }).present .panel = true := present
  refine (State.takeStop_controlled _ _).marks.raised .panel ?_
  rw [State.attention_raiseMark, here]
  simp

end

/-! ## The jam (R57, R58) -/

section
variable {s : State} {e : Eye} {b : Blockage}

theorem State.declareJam_eq (blockage : (s.eyes.get e).blockage = some b) (runs : (s.eyes.get e).jamTimer ≠ none) :
    s.declareJam e = ((s.setEye e { s.eyes.get e with
      blockage := some { b with jamDeclared := true }, jamTimer := none }).recordAnomaly e .jam none).raiseHold (.jam e) := by
  obtain ⟨k, timer⟩ := Option.ne_none_iff_exists'.1 runs
  simp only [State.declareJam, blockage, timer]

/-- With no blockage or no jam timer running there is no jam (R57). -/
theorem State.declareJam_none (h : (s.eyes.get e).blockage = none ∨ (s.eyes.get e).jamTimer = none) :
    s.declareJam e = s := by
  unfold State.declareJam
  dsimp only
  split
  · rename_i blockage timer
    simp [blockage, timer] at h
  · rfl

end

/-- Settles O35: the jam is noted at its trackpoint, and the HOLD it raises leaves the racks and the inputs. -/
theorem jamRaisesHold : Obligations.JamRaisesHold := by
  unfold Obligations.JamRaisesHold
  refine fun s e => ⟨fun b blockage runs idle quiet => ?_, fun h => congrArg Host.Outcome.next (State.declareJam_none h)⟩
  refine ⟨_, congrArg Host.Outcome.next (State.declareJam_eq blockage runs), ?_⟩
  generalize marked : s.setEye e { s.eyes.get e with
    blockage := some { b with jamDeclared := true }, jamTimer := none } = m
  obtain ⟨eyes, rest⟩ : (∀ d, (m.recordAnomaly e .jam none).eyes.get d = if d = e then { s.eyes.get e with
      blockage := some ⟨b.length, b.isReset, true⟩, jamTimer := none, anomaly := ⟨.jam, none, true⟩ } else s.eyes.get d)
      ∧ m = { s with eyes := m.eyes } := by
    subst marked
    refine ⟨fun d => ?_, rfl⟩
    by_cases h : d = e <;> simp [h]
  have marks : s.OnlyMarks (m.recordAnomaly e .jam none) := by
    subst marked
    exact (s.setEye_marks e _).trans (State.recordAnomaly_kept _ _ _ _).marks
  have executor : (m.recordAnomaly e .jam none).executor = s.executor := by
    rw [State.recordAnomaly_executor, rest]
  have permissions : s.permissionsKept (m.recordAnomaly e .jam none) := by
    rw [rest]
    simp [State.permissionsKept]
  have kept : s.racksKept (m.recordAnomaly e .jam none) ∧ s.sensorsKept (m.recordAnomaly e .jam none)
      ∧ (m.recordAnomaly e .jam none).tunnel.admissionUsed = s.tunnel.admissionUsed
      ∧ s.settingsKept (m.recordAnomaly e .jam none) := by
    rw [rest]
    simp [State.racksKept, State.sensorsKept, State.settingsKept]
  generalize m.recordAnomaly e .jam none = u at eyes marks executor permissions kept ⊢
  obtain ⟨⟨slots, lanes⟩, ⟨estop, heat, pitch⟩, admission, stored, working, single⟩ := kept
  have still : u.executor.drain = none := by rw [executor]; exact quiet
  have none : u.nonePending := by rw [State.nonePending, executor]; exact idle
  obtain ⟨held, _, _, control⟩ := State.raiseHold_held (.jam e) still none
  refine ⟨?_, fun d _ other => ?_, fun present => State.raiseHold_mark _ (by rw [marks.present]; exact present),
    State.heldBy_congr executor marks.driveCode working held,
    State.permissionsLeft_after permissions (by rw [State.inRun, executor, State.inRun])
      (State.raiseHold_permissions _ still none),
    ⟨control.slots.trans slots, control.lanes.trans lanes⟩,
    ⟨control.estop.trans estop, control.heat.trans heat, control.pitch.trans pitch⟩,
    control.admission.trans admission,
    ⟨control.stored.trans stored, control.working.trans working, control.single.trans single⟩,
    (marks.trans control.marks).lineKept⟩
  · rw [control.eyes, eyes, if_pos rfl]
  · rw [control.eyes, eyes, if_neg other]

/-! ## The ESTOP input (R71, R72) -/

/-- Outside STARTING the released edge ends the condition alone (R72). -/
theorem State.estopOff_outsideStarting {s : State} (idle : s.nonePending) (loop : ∀ o i, s.executor.loop ≠ .starting o i) :
    s.estopOff = { s with estop := ⟨false, 0⟩ } := by
  have tested : ({ s with estop := ⟨false, 0⟩ } : State).startingTest = { s with estop := ⟨false, 0⟩ } := by
    unfold State.startingTest
    split
    · rename_i o i starting
      exact absurd starting (loop o i)
    all_goals rfl
  rw [State.estopOff, tested]
  exact State.takeCommands_none idle

/-- Settles O36: the active edge is a STOP raised, the released one is tested in STARTING alone. -/
theorem estopStopsAndReleases : Obligations.EstopStopsAndReleases := by
  unfold Obligations.EstopStopsAndReleases
  refine fun s idle => ⟨fun released => ?_, fun active loop => ?_⟩
  · have row : exec .estopActive s = .next s.estopOn := by
      show Host.Outcome.next (if s.estop.active then s else s.estopOn) = _
      rw [if_neg (by simp [released])]
    obtain ⟨⟨taken, causes⟩, _, _, control⟩ := State.raiseStop_stopped (s := { s with estop := ⟨true, 0⟩ }) .estop idle
    refine ⟨_, row, control.estop, State.stopTaken_congr (u := { s with estop := ⟨true, 0⟩ }) rfl taken,
      State.permissionsLeft_after (t := { s with estop := ⟨true, 0⟩ }) ⟨rfl, rfl, rfl, rfl, rfl⟩ rfl
        (State.raiseStop_permissions .estop idle),
      causes, State.raiseStop_mark (s := { s with estop := ⟨true, 0⟩ }) .estop idle, ⟨control.slots, control.lanes⟩,
      control.eyes, control.heat, control.pitch, control.admission,
      ⟨control.stored, control.working, control.single⟩, control.marks.line, fun n _ => control.marks.node n⟩
  · show Host.Outcome.next (if s.estop.active then s.estopOff else s) = _
    rw [if_pos active, State.estopOff_outsideStarting idle loop]

end Sys2Proof.Machine
end

section
/-! Blockages that begin, and blockages that end as debris (R54, R55, R60, R61, R86, R143, R153). -/

namespace Sys2Proof.Machine

/-! ## A blocked edge (R55) -/

/-- The blockage at `e` begun, not yet handed on (R55, R57). -/
def State.blocking (s : State) (e : Eye) : State :=
  s.setEye e
    { s.eyes.get e with
      blocked := true, runCount := 0, blockage := some ⟨0, (s.eyes.get e).start, false⟩
      jamTimer := some (s.working.jamLimit.get e) }

section
variable (s : State) (e : Eye)

theorem State.blockedEdge_eq : s.blockedEdge e = (s.blocking e).handBlocked e := rfl

theorem State.blocking_isBlocked : (s.blocking e).isBlocked e = true := by simp [State.isBlocked, State.blocking]

theorem exec_blockedEdge {s : State} {e : Eye} (clear : (s.eyes.get e).blocked = false) :
    exec (.blockedEdge e) s = .next (s.blockedEdge e) := by
  show Host.Outcome.next (if (s.eyes.get e).blocked then s else s.blockedEdge e) = _
  rw [if_neg (by simp [clear])]

theorem MergeSource.eye_injective {a b : MergeSource} (h : a.eye = b.eye) : a = b := by
  cases a <;> cases b <;> simp_all [MergeSource.eye]

theorem Lanes.mapHeadWindow_eq (l : Lanes) (f : Window → Window) : l.mapHeadWindow f =
    { l with xt := l.xt.head?.toList.map (fun x => { x with window := f x.window }) ++ l.xt.tail } := by
  obtain ⟨_, _, _, _, _, xt, _, _, _, _⟩ := l
  cases xt <;> rfl

/-- A *blocked* event at an eye of the merge comes to the Merge Arbiter (R143). -/
theorem State.handBlocked_merge_eye (src : MergeSource) : s.handBlocked src.eye = s.mergeBlocked src.eye := by
  cases src <;> rfl

theorem State.mergeBlocked_form : ∃ g, s.mergeBlocked e = { s with merge := g } := by
  rcases s.mergeBlocked_cases e with ⟨_, h⟩ | ⟨_, _, _, _, h⟩ | ⟨_, _, _, _, h⟩
  · exact ⟨s.merge, h⟩
  · obtain ⟨g, hg⟩ := ({ s with merge := none } : State).decideMerge_form
    exact ⟨g, h.trans hg⟩
  · exact ⟨_, h⟩

theorem State.dispatchBlocked_form : ∃ d, s.dispatchBlocked = { s with dispatch := d } := by
  rcases s.dispatchBlocked_cases with ⟨_, h⟩ | ⟨_, _, _, _, h⟩ | ⟨_, _, _, h⟩
  · exact ⟨s.dispatch, h⟩
  · exact ⟨_, h⟩
  · exact ⟨_, h⟩

/-- At an eye that is no source's the Merge Arbiter has nothing to do with a *blocked* event. -/
theorem State.mergeBlocked_elsewhere (h : ∀ src : MergeSource, src.eye ≠ e) : s.mergeBlocked e = s := by
  rcases s.mergeBlocked_cases e with ⟨_, k⟩ | ⟨g, _, k, _⟩ | ⟨g, _, k, _⟩
  · exact k
  · exact absurd k (h _)
  · exact absurd k (h _)

/-- All that a *blocked* event does, receiver by receiver (R55, R86, R143, R153). -/
theorem State.handBlocked_eq : s.handBlocked e =
    { s with
      merge := (s.mergeBlocked e).merge
      dispatch := if e = .ds then s.dispatchBlocked.dispatch else s.dispatch
      lanes := if e = .ex then s.lanes.mapHeadWindow Window.onBlocked else s.lanes } := by
  obtain ⟨d, hd⟩ := s.dispatchBlocked_form
  obtain ⟨g, hg⟩ := s.mergeBlocked_form e
  have elsewhere (h : ∀ src : MergeSource, src.eye ≠ e) := congrArg State.merge (s.mergeBlocked_elsewhere e h)
  cases e with
  | outfeed x =>
    show s.mergeBlocked _ = _
    rw [hg]
    rfl
  | sp =>
    show s.mergeBlocked _ = _
    rw [hg]
    rfl
  | en => rw [elsewhere fun src => src.eye_ne_en]; rfl
  | ex => rw [elsewhere fun src => src.eye_ne.2]; rfl
  | ul => rw [elsewhere fun src => src.eye_ne_ul]; rfl
  | ds =>
    rw [elsewhere fun src => src.eye_ne_ds]
    show s.dispatchBlocked = _
    rw [hd]
    rfl

/-- A merge grant that no expiry has reopened waits at a blocked eye (R143). -/
theorem State.mergeBlocked_merge {s : State} {e : Eye} (old : ∀ g ∈ s.merge, g.source.eye = e → g.reopened = false) :
    (s.mergeBlocked e).merge = s.merge.map (fun g => if g.source.eye = e then { g with window := .arriving } else g) := by
  rcases s.mergeBlocked_cases e with ⟨other, h⟩ | ⟨g, grant, here, new, h⟩ | ⟨g, grant, here, _, h⟩
  · rw [h]
    cases grant : s.merge with
    | none => rfl
    | some g => simp [other g grant]
  · rw [old g grant here] at new
    cases new
  · simp [h, grant, here, Window.onBlocked]

/-- A merge grant that an expiry has reopened is decided again with the blockage in progress (R147). -/
theorem State.blockedEdge_reopened {s : State} {g : MergeGrant} (grant : s.merge = some g) (new : g.reopened = true) :
    (s.blockedEdge g.source.eye).mergeFresh ∧ (∀ f ∈ (s.blockedEdge g.source.eye).merge, f.source ≠ g.source)
      ∧ (s.blockedEdge g.source.eye).decideMerge = s.blockedEdge g.source.eye := by
  have decided : s.blockedEdge g.source.eye = ({ s.blocking g.source.eye with merge := none } : State).decideMerge := by
    rw [State.blockedEdge_eq, State.handBlocked_merge_eye]
    simp [State.mergeBlocked, State.blocking, grant, new]
  rw [decided]
  refine ⟨State.decideMerge_fresh (State.mergeFresh_of_none rfl), fun f hf same => ?_, State.decideMerge_idem _⟩
  rcases State.decideMerge_notBlocked _ f hf with stood | clear
  · cases stood
  · rw [same] at clear
    exact absurd (s.blocking_isBlocked g.source.eye) (by simpa [State.isBlocked] using clear)

/-- A dispatch grant that no expiry has reopened waits at a blocked DS (R153). -/
theorem State.dispatchBlocked_dispatch {s : State} (old : ∀ g ∈ s.dispatch.grant, g.reopened = none) :
    s.dispatchBlocked.dispatch =
      { s.dispatch with grant := s.dispatch.grant.map fun g => { g with window := .arriving } } := by
  rcases s.dispatchBlocked_cases with ⟨grant, h⟩ | ⟨g, r, grant, new, _⟩ | ⟨g, grant, _, h⟩
  · rw [h]
    exact congrArg (fun g => ({ s.dispatch with grant := g } : Dispatch)) (by rw [grant]; rfl)
  · rw [old g grant] at new
    cases new
  · simp [h, grant, Window.onBlocked]

/-- A dispatch grant that an expiry has reopened is taken back (R157). -/
theorem State.dispatchBlocked_reopened {s : State} {g : DispatchGrant} {r : DispatchRound}
    (grant : s.dispatch.grant = some g) (new : g.reopened = some r) :
    s.dispatchBlocked.dispatch = ⟨r.deferred, none, r.lastTarget⟩ := by
  simp [State.dispatchBlocked, grant, new]

end

/-! ## Debris (R61) -/

theorem Window.onDebris_eq (w : Window) (full : Nat) :
    w.onDebris full = if w = .arriving then .timing full else w := by
  cases w <;> rfl

section
variable (s : State) (e : Eye)

/-- All that debris does, receiver by receiver (R61, R86, R143, R153). -/
theorem State.handDebris_eq : s.handDebris e =
    { s with
      merge := s.merge.map fun g =>
        if g.source.eye = e then { g with window := g.window.onDebris s.working.mergeWindow } else g
      dispatch := { s.dispatch with grant := s.dispatch.grant.map fun g =>
        if e = .ds then { g with window := g.window.onDebris s.working.dispatchWindow } else g }
      lanes := if e = .ex then s.lanes.mapHeadWindow (·.onDebris s.working.exitWindow) else s.lanes } := by
  have merge (d : Eye) : s.mapMergeWindow d (·.onDebris s.working.mergeWindow) =
      { s with merge := s.merge.map fun g =>
        if g.source.eye = d then { g with window := g.window.onDebris s.working.mergeWindow } else g } := by
    unfold State.mapMergeWindow
    cases grant : s.merge with
    | none => exact congrArg (fun g => ({ s with merge := g } : State)) grant
    | some g =>
      by_cases h : g.source.eye = d
      · simp [h]
      · exact (if_neg h).trans (congrArg (fun g => ({ s with merge := g } : State)) (by simp [grant, h]))
  have elsewhere (h : ∀ src : MergeSource, src.eye ≠ e) : (s.merge.map fun g =>
      if g.source.eye = e then { g with window := g.window.onDebris s.working.mergeWindow } else g) = s.merge := by
    simp [h]
  cases e with
  | outfeed x => exact (merge (.outfeed x)).trans (by simp)
  | sp => exact (merge .sp).trans (by simp)
  | en => rw [elsewhere fun src => src.eye_ne_en]; simp [State.handDebris]
  | ex => rw [elsewhere fun src => src.eye_ne.2]; simp [State.handDebris, State.withLanes]
  | ul => rw [elsewhere fun src => src.eye_ne_ul]; simp [State.handDebris]
  | ds => rw [elsewhere fun src => src.eye_ne_ds]; simp [State.handDebris, State.mapDispatchWindow]

/-- The blockage at `e` ends as debris, which is recorded and not yet handed on (R61). -/
def State.debrisNoted (s : State) (e : Eye) : State := (s.cleared e).recordAnomaly e .debris none

/-- Debris noted is no matter but of the trackpoint and the panel node's mark. -/
theorem State.debrisNoted_rest : (s.debrisNoted e).slots = s.slots ∧ (s.debrisNoted e).lanes = s.lanes
    ∧ (s.debrisNoted e).merge = s.merge ∧ (s.debrisNoted e).dispatch = s.dispatch
    ∧ (s.debrisNoted e).unload = s.unload ∧ (s.debrisNoted e).tunnel = s.tunnel
    ∧ (s.debrisNoted e).executor = s.executor ∧ (s.debrisNoted e).draws = s.draws
    ∧ (s.debrisNoted e).working = s.working := by
  simp [State.debrisNoted, State.cleared]

theorem State.debrisNoted_mark (present : s.present .panel = true) : (s.debrisNoted e).attention .panel = true :=
  State.recordAnomalies_mark (s.cleared e) e [(.debris, none)] (by simp) present

theorem State.Edging.debris {s t : State} {e : Eye} {a : Anomaly} (h : s.Edging t e a) : s.Edging (t.handDebris e) e a := by
  rw [State.handDebris_eq]
  exact ⟨h.eye, h.others, h.sensors, h.settings, ⟨h.marks.line, h.marks.node, h.marks.absent, h.marks.raised⟩⟩

theorem exec_clearEdge_debris {s : State} {e : Eye} (h : s.endsAsDebris e) : exec (.clearEdge e) s =
    .next (((s.debrisNoted e).handDebris e).endBlockage e) := by
  obtain ⟨blocked, b, hb, jam, reset, short⟩ := h
  have debris : Blockage.classify { b with length := lengthen b.length } (s.working.rackMin.get e)
      (s.working.rackMax.get e) = .debris := by
    have low : lengthen b.length < s.working.rackMin.get e := short
    simp [Blockage.classify, jam, reset, low]
  show Host.Outcome.next (if (s.eyes.get e).blocked then s.clearEdge e else s) = _
  rw [if_pos blocked, State.clearEdge, State.debrisNoted, State.cleared]
  simp only [Option.mem_def.1 hb, debris]
  rfl

/-- The end of a blockage writes its trackpoint and the permission of its owner (R127, R140, R150). -/
theorem State.endBlockage_form : ∃ eyes release merge dispatch, s.endBlockage e =
    { s with
      eyes := eyes, unload := { s.unload with release := release }, merge := merge, dispatch := dispatch } := by
  unfold State.endBlockage
  generalize { s.eyes.get e with blockage := none } = t
  have merge : ∃ g, (s.setEye e t).decideMerge = { s.setEye e t with merge := g } := State.decideMerge_form _
  cases e with
  | outfeed x =>
    obtain ⟨g, h⟩ := merge
    exact ⟨_, _, g, _, h⟩
  | sp =>
    obtain ⟨g, h⟩ := merge
    exact ⟨_, _, g, _, h⟩
  | ul =>
    obtain ⟨r, h⟩ := (s.setEye .ul t).decideRelease_form
    exact ⟨_, r, _, _, h⟩
  | ds =>
    obtain ⟨d, h⟩ := (s.setEye .ds t).decideDispatch_form
    exact ⟨_, _, _, d, h⟩
  | en => exact ⟨_, s.unload.release, s.merge, s.dispatch, rfl⟩
  | ex => exact ⟨_, s.unload.release, s.merge, s.dispatch, rfl⟩

/-- The permissions that stand in `s` stand in `t`, and a merge grant that has opened is fresh (R127, R140, R150). -/
structure State.Stands (s t : State) : Prop where
  merge : s.merge ≠ none → t.merge = s.merge
  dispatch : s.dispatch.grant ≠ none → t.dispatch = s.dispatch
  unload : s.unload.release ≠ none → t.unload = s.unload
  fresh : s.merge = none → t.mergeFresh

theorem State.Stands.refl : s.Stands s := ⟨fun _ => rfl, fun _ => rfl, fun _ => rfl, State.mergeFresh_of_none⟩

theorem State.decideMerge_stands : s.Stands s.decideMerge := by
  obtain ⟨g, h⟩ := s.decideMerge_form
  exact ⟨fun grant => by rw [State.decideMerge_of_grant grant], fun _ => by rw [h], fun _ => by rw [h],
    fun none => State.decideMerge_fresh (State.mergeFresh_of_none none)⟩

theorem State.decideRelease_stands : s.Stands s.decideRelease := by
  obtain ⟨r, h⟩ := s.decideRelease_form
  refine ⟨fun _ => by rw [h], fun _ => by rw [h], fun standing => ?_,
    fun none => State.mergeFresh_of_none (by rw [h]; exact none)⟩
  rw [(State.decideRelease_eq_self s).2 (.inl (by simp [Option.isSome_iff_ne_none.2 standing]))]

theorem State.decideDispatch_stands : s.Stands s.decideDispatch := by
  obtain ⟨d, h⟩ := s.decideDispatch_form
  exact ⟨fun _ => by rw [h], fun grant => by rw [State.decideDispatch_of_grant grant], fun _ => by rw [h],
    fun none => State.mergeFresh_of_none (by rw [h]; exact none)⟩

theorem State.endBlockage_stands : s.Stands (s.endBlockage e) := by
  have same (t : Trackpoint) {u : State} (h : (s.setEye e t).Stands u) : s.Stands u :=
    ⟨h.merge, h.dispatch, h.unload, h.fresh⟩
  refine same { s.eyes.get e with blockage := none } ?_
  unfold State.endBlockage
  cases e with
  | outfeed x => exact State.decideMerge_stands _
  | sp => exact State.decideMerge_stands _
  | ul => exact State.decideRelease_stands _
  | ds => exact State.decideDispatch_stands _
  | en => exact .refl _
  | ex => exact .refl _

/-- The owner of the permission at `e` has decided at the end of a blockage (R127, R140, R150). -/
theorem State.endBlockage_settled : (e = .ul → (s.endBlockage e).decideRelease = s.endBlockage e)
    ∧ ((e = .sp ∨ ∃ x, e = .outfeed x) → (s.endBlockage e).decideMerge = s.endBlockage e)
    ∧ (e = .ds → (s.endBlockage e).decideDispatch = s.endBlockage e) := by
  refine ⟨?_, ?_, ?_⟩
  · rintro rfl
    exact State.decideRelease_idem _
  · rintro (rfl | ⟨x, rfl⟩) <;> exact State.decideMerge_idem _
  · rintro rfl
    exact State.decideDispatch_idem _

end

/-! ## Both edges -/

/-- Settles O27: the blocked edge begins a blockage and hands it on; debris is handed on and the blockage ends. -/
theorem blockagesBeginAndDebrisMovesNothing : Obligations.BlockagesBeginAndDebrisMovesNothing := by
  unfold Obligations.BlockagesBeginAndDebrisMovesNothing
  refine ⟨fun s e clear => ?_, fun s e ends => ?_⟩
  · refine ⟨_, exec_blockedEdge clear, ?_⟩
    have form : s.blockedEdge e = _ := (s.blocking e).handBlocked_eq e
    refine ⟨by rw [form]; rfl, by simp [form, State.blocking], fun d _ other => by simp [form, State.blocking, other],
      fun old => ?_, fun g grant here new => ?_, fun old => ?_, fun here g grant r new => ?_, ?_⟩
    · rw [form]
      exact State.mergeBlocked_merge old
    · subst here
      obtain ⟨fresh, other, settled⟩ := State.blockedEdge_reopened grant new
      exact ⟨fresh, other, State.mergeGrantOpen_next.2 settled⟩
    · rw [form]
      by_cases here : e = .ds
      · subst here
        simp only [if_true]
        exact State.dispatchBlocked_dispatch (s := s.blocking .ds) (old rfl)
      · simp [here, State.blocking]
    · subst here
      rw [form]
      exact State.dispatchBlocked_reopened (s := s.blocking .ds) grant new
    · rw [form]
      by_cases here : e = .ex
      · simp [here, Lanes.mapHeadWindow_eq, Window.onBlocked, State.blocking]
      · simp [here, State.blocking]
  · intro again
    refine ⟨_, exec_clearEdge_debris ends, ?_⟩
    have standing (w : Window) (full : Nat) : again w full = w.onDebris full := (w.onDebris_eq full).symm
    obtain ⟨slots, lanes, merge, dispatch, unload, tunnel, executor, draws, working⟩ := s.debrisNoted_rest e
    have edging : s.Edging ((s.debrisNoted e).handDebris e) e _ := ((State.Edging.start s e).note .debris none).debris
    obtain ⟨cleared, sensors, settings, line⟩ := edging.ended
    have handed := (s.debrisNoted e).handDebris_eq e
    rw [merge, dispatch, lanes, working] at handed
    generalize hv : (s.debrisNoted e).handDebris e = v at handed cleared sensors settings line ⊢
    obtain ⟨_, _, _, _, form⟩ := v.endBlockage_form e
    obtain ⟨release, grant, target⟩ := v.endBlockage_settled e
    have stands := v.endBlockage_stands e
    have mark (present : s.present .panel = true) : (v.endBlockage e).attention .panel = true := by
      refine v.endBlockage_attention e ?_
      rw [handed]
      exact s.debrisNoted_mark e present
    refine ⟨cleared, mark, by rw [form, handed, ← slots], ?_, fun g hg => ?_, fun g hg => ?_, fun g hg => ?_,
      fun none => ?_,
      fun ul => State.unloadReleaseOpen_next.2 (release ul), fun source => State.mergeGrantOpen_next.2 (grant source),
      fun ds => State.dispatchGrantOpen_next.2 (target ds), by rw [form, handed, ← tunnel], sensors, settings, line,
      by rw [form, handed, ← executor], by rw [form, handed, ← draws]⟩
    · rw [form, handed]
      by_cases here : e = .ex
      · simp [here, Lanes.mapHeadWindow_eq, standing]
      · simp [here]
    · have stood := congrArg State.merge handed
      simp only [Option.mem_def.1 hg, Option.map_some] at stood
      rw [stands.merge (by simp [stood]), stood]
      simp only [standing]
    · have stood := congrArg State.dispatch handed
      simp only [Option.mem_def.1 hg, Option.map_some] at stood
      rw [stands.dispatch (by simp [stood]), stood]
      simp only [standing]
    · have stood : v.unload = s.unload := by rw [handed, ← unload]
      rw [stands.unload (by simp [stood, Option.mem_def.1 hg]), stood]
    · exact stands.fresh (by rw [handed, none]; rfl)

end Sys2Proof.Machine
end

section
/-! Windows that run out (R66, R145, R147, R155, R157). -/

namespace Sys2Proof.Machine

theorem Window.isTiming_iff (w : Window) : w.isTiming = true ↔ w ≠ .arriving := by cases w <;> simp [Window.isTiming]

theorem State.recordAnomaly_form (s : State) (e : Eye) (k : AnomalyKind) (r : Option RecNo) :
    ∃ nodes, s.recordAnomaly e k r = { s with
      eyes := s.eyes.set e { s.eyes.get e with anomaly := ⟨k, r, true⟩ }, line := { s.line with nodes := nodes } } :=
  State.raiseMark_form (s.setEye e { s.eyes.get e with anomaly := ⟨k, r, true⟩ }) .panel

/-- An anomaly recorded at another trackpoint, or here, is no part of a blockage. -/
theorem State.recordAnomaly_blocked (s : State) (e d : Eye) (k : AnomalyKind) (r : Option RecNo) :
    ((s.recordAnomaly e k r).eyes.get d).blocked = (s.eyes.get d).blocked := by
  rw [State.recordAnomaly_eyes]
  by_cases h : d = e <;> simp [h]

/-! ## The merge window (R145, R147) -/

section
variable {s : State} {g : MergeGrant}

/-- The merge grant `g` withdrawn as its window runs out, and the anomaly recorded; the arbiter has still to decide (R145). -/
def State.mergeExpired (s : State) (g : MergeGrant) : State :=
  ({ s with merge := none } : State).recordAnomaly g.source.eye .mergeTimeout (s.lanes.sourceHeadOf g.source)

theorem State.mergeTimeout_eq (grant : s.merge = some g) (timing : g.window ≠ .arriving) :
    s.mergeTimeout = (s.mergeExpired g).decideMerge.markMerge g.source := by
  unfold State.mergeTimeout
  simp only [grant, (Window.isTiming_iff _).2 timing, if_true]
  rfl

theorem State.mergeTimeout_arriving (waits : ∀ g ∈ s.merge, g.window = .arriving) : s.mergeTimeout = s := by
  unfold State.mergeTimeout
  split
  · rename_i g grant
    rw [waits g grant]
    rfl
  · rfl

/-- What the expiry of a merge window writes: an anomaly with its mark, and the grant. -/
theorem State.mergeTimeout_form (grant : s.merge = some g) (timing : g.window ≠ .arriving) :
    ∃ nodes merge, s.mergeTimeout = { s with
      eyes := s.eyes.set g.source.eye { s.eyes.get g.source.eye with
        anomaly := ⟨.mergeTimeout, s.lanes.sourceHeadOf g.source, true⟩ }
      line := { s.line with nodes := nodes }, merge := merge } := by
  obtain ⟨nodes, noted⟩ := ({ s with merge := none } : State).recordAnomaly_form g.source.eye .mergeTimeout
    (s.lanes.sourceHeadOf g.source)
  obtain ⟨merge, decided⟩ := (s.mergeExpired g).decideMerge_form
  refine ⟨nodes, merge.map fun f => { f with reopened := decide (f.source = g.source) }, ?_⟩
  rw [State.mergeTimeout_eq grant timing, decided, State.mergeExpired, noted]
  rfl

/-- A mark at a grant is no part of what the Merge Arbiter decides. -/
theorem State.markMerge_fresh {src : MergeSource} (h : s.mergeFresh) : (s.markMerge src).mergeFresh := by
  intro f hf
  obtain ⟨g, hg, rfl⟩ := Option.map_eq_some_iff.1 hf
  exact h g hg

theorem State.markMerge_settled {src : MergeSource} (h : s.decideMerge = s) :
    (s.markMerge src).decideMerge = s.markMerge src := by
  rw [State.decideMerge_eq_self] at h ⊢
  have room : (s.markMerge src).isFull .acc = s.isFull .acc := rfl
  rw [room]
  simpa [State.inRun, State.isBlocked] using h

/-- The arbiter has decided again after the expiry (R145). -/
theorem State.mergeTimeout_decided (grant : s.merge = some g) (timing : g.window ≠ .arriving) :
    s.mergeTimeout.mergeFresh ∧ s.mergeTimeout.decideMerge = s.mergeTimeout := by
  have withdrawn : (s.mergeExpired g).merge = none := State.recordAnomaly_merge _ _ _ _
  rw [State.mergeTimeout_eq grant timing]
  exact ⟨State.markMerge_fresh (State.decideMerge_fresh (State.mergeFresh_of_none withdrawn)),
    State.markMerge_settled (State.decideMerge_idem _)⟩

theorem State.mergeTimeout_mark (grant : s.merge = some g) (timing : g.window ≠ .arriving)
    (present : s.present .panel = true) : s.mergeTimeout.attention .panel = true := by
  rw [State.mergeTimeout_eq grant timing]
  exact ((s.mergeExpired g).decideMerge_controlled).marks.raised .panel
    (State.recordAnomalies_mark { s with merge := none } g.source.eye [(_, _)] (by simp) present)

/-- A grant after the expiry carries the mark exactly where it is to the same source (R147). -/
theorem State.mergeTimeout_marked (grant : s.merge = some g) (timing : g.window ≠ .arriving) :
    ∀ f ∈ s.mergeTimeout.merge, f.reopened = decide (f.source = g.source) := by
  intro f hf
  rw [State.mergeTimeout_eq grant timing] at hf
  obtain ⟨_, _, rfl⟩ := Option.map_eq_some_iff.1 hf
  rfl

/-- A decision stands where one more source's eye is blocked. -/
theorem State.decideMerge_blocking {e : Eye} (h : s.decideMerge = s) : (s.blocking e).decideMerge = s.blocking e := by
  rw [State.decideMerge_eq_self] at h ⊢
  refine h.imp id fun blocked m chosen => ?_
  have stood := blocked m chosen
  unfold State.isBlocked at stood ⊢
  by_cases here : m.eye = e
  · simp [State.blocking, here]
  · simpa [State.blocking, here] using stood

/-- With *blocked* in the millisecond of the expiry, no grant to the same source stands after it (R147). -/
theorem State.mergeTimeout_blocked (grant : s.merge = some g) (timing : g.window ≠ .arriving) :
    (∀ f ∈ (s.mergeTimeout.blockedEdge g.source.eye).merge, f.source ≠ g.source)
      ∧ (s.mergeTimeout.blockedEdge g.source.eye).decideMerge = s.mergeTimeout.blockedEdge g.source.eye := by
  have marked := State.mergeTimeout_marked grant timing
  have settled := (State.mergeTimeout_decided grant timing).2
  generalize s.mergeTimeout = t at marked settled ⊢
  by_cases again : ∃ f ∈ t.merge, f.source = g.source
  · obtain ⟨f, hf, same⟩ := again
    obtain ⟨_, other, decided⟩ := State.blockedEdge_reopened hf (by simp [marked f hf, same])
    rw [same] at other decided
    exact ⟨other, decided⟩
  · have kept : t.blockedEdge g.source.eye = t.blocking g.source.eye := by
      rw [State.blockedEdge_eq, State.handBlocked_merge_eye]
      rcases (t.blocking g.source.eye).mergeBlocked_cases g.source.eye with ⟨_, same⟩ | ⟨f, hf, eye, _⟩ | ⟨f, hf, eye, _⟩
      · exact same
      · exact absurd ⟨f, hf, MergeSource.eye_injective eye⟩ again
      · exact absurd ⟨f, hf, MergeSource.eye_injective eye⟩ again
    rw [kept]
    exact ⟨fun f hf same => again ⟨f, hf, same⟩, State.decideMerge_blocking settled⟩

end

/-! ## The dispatch window (R155, R157) -/

section
variable {s : State} {g : DispatchGrant}

/-- The dispatch grant withdrawn as its window runs out, and the anomaly recorded; the arbiter has still to decide (R155). -/
def State.dispatchExpired (s : State) : State :=
  ({ s with dispatch := { s.dispatch with grant := none } } : State).recordAnomaly .ds .dispatchTimeout s.lanes.ret.head?

theorem State.dispatchTimeout_eq (grant : s.dispatch.grant = some g) (timing : g.window ≠ .arriving) :
    s.dispatchTimeout = s.dispatchExpired.decideDispatch.markDispatch ⟨s.dispatch.deferred, s.dispatch.lastTarget⟩ := by
  unfold State.dispatchTimeout
  simp only [grant, (Window.isTiming_iff _).2 timing, if_true]
  rfl

theorem State.dispatchTimeout_arriving (waits : ∀ g ∈ s.dispatch.grant, g.window = .arriving) : s.dispatchTimeout = s := by
  unfold State.dispatchTimeout
  split
  · rename_i g grant
    rw [waits g grant]
    rfl
  · rfl

/-- What the expiry of a dispatch window writes: an anomaly with its mark, and the arbiter's state. -/
theorem State.dispatchTimeout_form (grant : s.dispatch.grant = some g) (timing : g.window ≠ .arriving) :
    ∃ nodes dispatch, s.dispatchTimeout = { s with
      eyes := s.eyes.set .ds { s.eyes.get .ds with anomaly := ⟨.dispatchTimeout, s.lanes.ret.head?, true⟩ }
      line := { s.line with nodes := nodes }, dispatch := dispatch } := by
  obtain ⟨nodes, noted⟩ := ({ s with dispatch := { s.dispatch with grant := none } } : State).recordAnomaly_form .ds
    .dispatchTimeout s.lanes.ret.head?
  obtain ⟨d, decided⟩ := s.dispatchExpired.decideDispatch_form
  refine ⟨nodes, { d with grant := d.grant.map fun f =>
    { f with reopened := some ⟨s.dispatch.deferred, s.dispatch.lastTarget⟩ } }, ?_⟩
  rw [State.dispatchTimeout_eq grant timing, decided, State.dispatchExpired, noted]
  rfl

theorem State.markDispatch_settled {r : DispatchRound} (h : s.decideDispatch = s) :
    (s.markDispatch r).decideDispatch = s.markDispatch r := by
  rw [State.decideDispatch_eq_self] at h ⊢
  have claims : (s.markDispatch r).claimants = s.claimants := rfl
  rw [claims]
  simpa [State.inRun, State.isBlocked] using h

/-- The arbiter has decided again after the expiry (R155): a grant that has opened is fresh and marked, and with none the
classes and the last target stand. -/
theorem State.dispatchTimeout_decided (grant : s.dispatch.grant = some g) (timing : g.window ≠ .arriving) :
    s.dispatchTimeout.dispatchFresh
      ∧ (s.dispatchTimeout.dispatch.grant = none → s.dispatchTimeout.dispatch = { s.dispatch with grant := none })
      ∧ s.dispatchTimeout.decideDispatch = s.dispatchTimeout
      ∧ ∀ f ∈ s.dispatchTimeout.dispatch.grant, f.reopened = some ⟨s.dispatch.deferred, s.dispatch.lastTarget⟩ := by
  have withdrawn : s.dispatchExpired.dispatch = { s.dispatch with grant := none } := State.recordAnomaly_dispatch _ _ _ _
  obtain ⟨fresh, nothing⟩ := State.decideDispatch_fresh (s := s.dispatchExpired) (by rw [withdrawn])
  rw [State.dispatchTimeout_eq grant timing]
  refine ⟨fun f hf => ?_, fun none => ?_, State.markDispatch_settled (State.decideDispatch_idem _), fun f hf => ?_⟩
  · obtain ⟨opened, new, rfl⟩ := Option.map_eq_some_iff.1 hf
    exact fresh opened new
  · have bare : s.dispatchExpired.decideDispatch.dispatch.grant = Option.none := Option.map_eq_none_iff.1 none
    rw [← withdrawn, ← nothing bare, State.markDispatch_dispatch, bare]
    exact congrArg (fun x => ({ s.dispatchExpired.decideDispatch.dispatch with grant := x } : Dispatch)) bare.symm
  · obtain ⟨_, _, rfl⟩ := Option.map_eq_some_iff.1 hf
    rfl

theorem State.dispatchTimeout_mark (grant : s.dispatch.grant = some g) (timing : g.window ≠ .arriving)
    (present : s.present .panel = true) : s.dispatchTimeout.attention .panel = true := by
  rw [State.dispatchTimeout_eq grant timing]
  exact (s.dispatchExpired.decideDispatch_controlled).marks.raised .panel (State.recordAnomalies_mark
    { s with dispatch := { s.dispatch with grant := none } } .ds [(_, _)] (by simp) present)

/-- With *blocked* in the millisecond of the expiry, no grant stands after it, and the classes and the last target are
those of the grant that expired (R157). -/
theorem State.dispatchTimeout_blocked (grant : s.dispatch.grant = some g) (timing : g.window ≠ .arriving) :
    (s.dispatchTimeout.blockedEdge .ds).dispatch = { s.dispatch with grant := none }
      ∧ (s.dispatchTimeout.blockedEdge .ds).decideDispatch = s.dispatchTimeout.blockedEdge .ds := by
  obtain ⟨_, bare, _, marked⟩ := State.dispatchTimeout_decided grant timing
  generalize s.dispatchTimeout = t at bare marked ⊢
  constructor
  · cases reopened : t.dispatch.grant with
    | none =>
      have kept : t.blockedEdge .ds = t.blocking .ds := by
        rw [State.blockedEdge_eq]
        show (t.blocking .ds).dispatchBlocked = _
        simp [State.dispatchBlocked, State.blocking, reopened]
      rw [kept]
      exact bare reopened
    | some f => exact State.dispatchBlocked_reopened (s := t.blocking .ds) reopened (marked f reopened)
  · refine (State.decideDispatch_eq_self _).2 (.inl ?_)
    have blocked : (t.blockedEdge .ds).isBlocked .ds = true := by
      obtain ⟨d, form⟩ := (t.blocking .ds).dispatchBlocked_form
      show ((t.blocking .ds).dispatchBlocked).isBlocked .ds = true
      rw [form]
      exact t.blocking_isBlocked .ds
    simp [blocked]

end

/-! ## Both windows -/

/-- Settles O43: an expiry is a withdrawal and a decision anew, and a *blocked* event at once takes a reopened grant back. -/
theorem windowsRunOut : Obligations.WindowsRunOut := by
  unfold Obligations.WindowsRunOut
  have noted {s t : State} {e : Eye} {k : AnomalyKind} {r : Option RecNo} (eyes : t.eyes =
      s.eyes.set e { s.eyes.get e with anomaly := ⟨k, r, true⟩ }) :
      t.eyes.get e = { s.eyes.get e with anomaly := ⟨k, r, true⟩ } ∧ ∀ d ∈ Eye.all, d ≠ e → t.eyes.get d = s.eyes.get d := by
    rw [eyes]
    exact ⟨by simp, fun d _ other => by simp [other]⟩
  refine fun s => ⟨fun g grant timing => ?_, fun waits => congrArg Host.Outcome.next (State.mergeTimeout_arriving waits),
    fun g grant timing => ?_, fun waits => congrArg Host.Outcome.next (State.dispatchTimeout_arriving waits),
    fun g grant timing clear => ?_, fun g grant timing clear => ?_⟩
  · obtain ⟨nodes, merge, form⟩ := State.mergeTimeout_form grant timing
    obtain ⟨fresh, settled⟩ := State.mergeTimeout_decided grant timing
    obtain ⟨here, others⟩ := noted (s := s) (t := s.mergeTimeout) (by rw [form])
    refine ⟨_, rfl, by rw [form], here, others, s.mergeTimeout_kept.marks.lineKept,
      State.mergeTimeout_mark grant timing, fresh, State.mergeGrantOpen_next.2 settled⟩
  · obtain ⟨nodes, dispatch, form⟩ := State.dispatchTimeout_form grant timing
    obtain ⟨fresh, bare, settled, _⟩ := State.dispatchTimeout_decided grant timing
    obtain ⟨here, others⟩ := noted (s := s) (t := s.dispatchTimeout) (by rw [form])
    have working : s.dispatchTimeout.working = s.working := by rw [form]
    unfold State.dispatchFresh at fresh
    rw [working] at fresh
    refine ⟨_, rfl, by rw [form], here, others, s.dispatchTimeout_kept.marks.lineKept,
      State.dispatchTimeout_mark grant timing, bare, fresh, State.dispatchGrantOpen_next.2 settled⟩
  · obtain ⟨other, settled⟩ := State.mergeTimeout_blocked grant timing
    refine ⟨_, rfl, _, exec_blockedEdge ?_, other, State.mergeGrantOpen_next.2 settled⟩
    obtain ⟨_, _, form⟩ := State.mergeTimeout_form grant timing
    simp [form, clear]
  · obtain ⟨taken, settled⟩ := State.dispatchTimeout_blocked grant timing
    refine ⟨_, rfl, _, exec_blockedEdge ?_, taken, State.dispatchGrantOpen_next.2 settled⟩
    obtain ⟨_, _, form⟩ := State.dispatchTimeout_form grant timing
    simp [form, clear]

end Sys2Proof.Machine
end

section
/-! What an event does beside the filters of inputs that no level has changed at: two states alike but for these stay alike
under it (R44, R53, R70). -/

namespace Sys2Proof.Machine

/-- The state with other trackpoints and another ESTOP input. -/
def State.withInputs (s : State) (eyes : PerEye Trackpoint) (estop : EstopInput) : State :=
  { s with eyes := eyes, estop := estop }

/-! ## What reads no input -/

section
variable (s before : State) (E : PerEye Trackpoint) (X : EstopInput)

@[simp] theorem State.withInputs_lanes : (s.withInputs E X).lanes = s.lanes := rfl
@[simp] theorem State.withInputs_eyes : (s.withInputs E X).eyes = E := rfl
@[simp] theorem State.withInputs_estop : (s.withInputs E X).estop = X := rfl
@[simp] theorem State.withInputs_tunnel : (s.withInputs E X).tunnel = s.tunnel := rfl
@[simp] theorem State.withInputs_unload : (s.withInputs E X).unload = s.unload := rfl
@[simp] theorem State.withInputs_merge : (s.withInputs E X).merge = s.merge := rfl
@[simp] theorem State.withInputs_dispatch : (s.withInputs E X).dispatch = s.dispatch := rfl
@[simp] theorem State.withInputs_executor : (s.withInputs E X).executor = s.executor := rfl
@[simp] theorem State.withInputs_line : (s.withInputs E X).line = s.line := rfl
@[simp] theorem State.withInputs_working : (s.withInputs E X).working = s.working := rfl
@[simp] theorem State.withInputs_single : (s.withInputs E X).single = s.single := rfl
@[simp] theorem State.withInputs_draws : (s.withInputs E X).draws = s.draws := rfl
@[simp] theorem State.withInputs_present (n : Node) : (s.withInputs E X).present n = s.present n := rfl
@[simp] theorem State.withInputs_record (n : RecNo) : (s.withInputs E X).record n = s.record n := rfl
@[simp] theorem State.withInputs_inRun : (s.withInputs E X).inRun = s.inRun := rfl
@[simp] theorem State.withInputs_isFull (p : Place) : (s.withInputs E X).isFull p = s.isFull p := rfl
@[simp] theorem State.withInputs_unloadHead : (s.withInputs E X).unloadHead = s.unloadHead := rfl
@[simp] theorem State.withInputs_claimants : (s.withInputs E X).claimants = s.claimants := rfl
@[simp] theorem State.withInputs_drainDue : (s.withInputs E X).drainDue = s.drainDue := rfl

/-! The records and the places. -/

@[simp] theorem State.raiseMark_withInputs (n : Node) : (s.withInputs E X).raiseMark n = (s.raiseMark n).withInputs E X := by
  unfold State.raiseMark
  rw [State.withInputs_present]
  split <;> rfl

@[simp] theorem State.updateRecord_withInputs (n : RecNo) (f : Record → Record) :
    (s.withInputs E X).updateRecord n f = (s.updateRecord n f).withInputs E X := by
  unfold State.updateRecord
  rw [State.withInputs_record]
  split <;> rfl

@[simp] theorem State.setDiverter_withInputs : (s.withInputs E X).setDiverter = s.setDiverter.withInputs E X := by
  unfold State.setDiverter
  rw [State.withInputs_unloadHead]
  repeat' split
  all_goals rfl

theorem State.takeNewHead_withInputs :
    (s.withInputs E X).takeNewHead before = (s.takeNewHead before).withInputs E X := by
  unfold State.takeNewHead
  rw [State.withInputs_lanes]
  repeat' split
  · rfl
  · rw [State.withInputs_working, State.updateRecord_withInputs, State.setDiverter_withInputs,
      State.raiseMark_withInputs]
  · rfl

@[simp] theorem State.covers_withInputs (e : Eye) : (s.withInputs E X).covers e = s.covers e := by
  cases e <;> rfl

@[simp] theorem State.endPermission_withInputs (e : Eye) :
    (s.withInputs E X).endPermission e = (s.endPermission e).withInputs E X := by
  unfold State.endPermission
  rw [State.covers_withInputs]
  repeat' split
  all_goals rfl

/-- The landing with other inputs in its state. -/
def Landing.withInputs (m : Landing) (eyes : PerEye Trackpoint) (estop : EstopInput) : Landing :=
  { m with state := m.state.withInputs eyes estop }

@[simp] theorem State.land_withInputs (e : Eye) (n : RecNo) (p : Option Place) :
    (s.withInputs E X).land e n p = (s.land e n p).withInputs E X := by
  unfold State.land
  cases p with
  | none => rfl
  | some p =>
    dsimp only
    rw [State.withInputs_isFull]
    split
    · split <;> rfl
    · refine congrArg (fun t => (⟨t, [], none⟩ : Landing)) ?_
      split
      · split
        · exact State.raiseMark_withInputs (s.withLanes _) E X _
        · rfl
      · rfl

@[simp] theorem State.destination_withInputs (e : Eye) : (s.withInputs E X).destination e = s.destination e := by
  cases e <;> rfl

@[simp] theorem State.withLanes_withInputs (l : Lanes) :
    (s.withInputs E X).withLanes l = (s.withLanes l).withInputs E X := rfl

@[simp] theorem State.setSlot_withInputs (n : RecNo) (r : Option Record) :
    (s.withInputs E X).setSlot n r = (s.setSlot n r).withInputs E X := rfl

@[simp] theorem State.unloadSkipped_withInputs (e : Eye) (n : RecNo) :
    (s.withInputs E X).unloadSkipped e n = s.unloadSkipped e n := rfl

theorem State.ordinaryPassage_withInputs (e : Eye) (n : RecNo) :
    (s.withInputs E X).ordinaryPassage e n = (s.ordinaryPassage e n).withInputs E X := by
  simp [State.ordinaryPassage, Landing.withInputs]

theorem State.phantomPassage_withInputs (e : Eye) :
    (s.withInputs E X).phantomPassage e = (s.phantomPassage e).withInputs E X := by
  have free : (s.withInputs E X).lowestFree = s.lowestFree := rfl
  unfold State.phantomPassage
  simp only [free, State.endPermission_withInputs, State.covers_withInputs, State.setSlot_withInputs,
    State.land_withInputs, State.destination_withInputs]
  repeat' split
  all_goals rfl

/-- What a passage moves and records is read from no input. -/
@[simp] theorem State.reconcile_withInputs (e : Eye) :
    (s.withInputs E X).reconcile e = (s.reconcile e).withInputs E X := by
  unfold State.reconcile
  rw [State.withInputs_lanes]
  split
  · exact s.ordinaryPassage_withInputs E X e _
  · exact s.phantomPassage_withInputs E X e

/-! The executor. -/

@[simp] theorem State.withExecutor_withInputs (x : Executor) :
    (s.withInputs E X).withExecutor x = (s.withExecutor x).withInputs E X := rfl

@[simp] theorem State.writeOutcome_withInputs (c : LineCommand) (k : OutcomeKind) (i : Issuer) :
    (s.withInputs E X).writeOutcome c k i = (s.writeOutcome c k i).withInputs E X :=
  State.raiseMark_withInputs (s.withExecutor _) E X _

@[simp] theorem State.enterLoop_withInputs (l : LoopState) :
    (s.withInputs E X).enterLoop l = (s.enterLoop l).withInputs E X := by
  unfold State.enterLoop
  rw [State.withInputs_inRun]
  split <;> rfl

@[simp] theorem State.completeDrain_withInputs (i : Issuer) :
    (s.withInputs E X).completeDrain i = (s.completeDrain i).withInputs E X := by
  simp [State.completeDrain]

@[simp] theorem State.drainTest_withInputs : (s.withInputs E X).drainTest = s.drainTest.withInputs E X := by
  unfold State.drainTest
  rw [State.withInputs_executor, State.withInputs_drainDue]
  split
  · rw [State.completeDrain_withInputs]
    split <;> rfl
  · rfl

@[simp] theorem State.clearDrain_withInputs : (s.withInputs E X).clearDrain = s.clearDrain.withInputs E X := by
  unfold State.clearDrain
  rw [State.withInputs_executor]
  dsimp only
  split <;> simp

@[simp] theorem State.endHolding_withInputs (i : Issuer) :
    (s.withInputs E X).endHolding i = (s.endHolding i).withInputs E X := by
  simp [State.endHolding]

@[simp] theorem State.holdingTest_withInputs : (s.withInputs E X).holdingTest = s.holdingTest.withInputs E X := by
  unfold State.holdingTest
  rw [State.withInputs_executor, State.withInputs_line]
  split
  · rw [State.endHolding_withInputs]
    split <;> rfl
  all_goals rfl

@[simp] theorem State.takeHold_withInputs (i : Issuer) : (s.withInputs E X).takeHold i = (s.takeHold i).withInputs E X := by
  unfold State.takeHold
  rw [State.withInputs_executor]
  split <;> simp

@[simp] theorem State.takeStop_withInputs (i : Issuer) : (s.withInputs E X).takeStop i = (s.takeStop i).withInputs E X := by
  unfold State.takeStop
  rw [State.withInputs_executor]
  split <;> simp

@[simp] theorem State.raiseHold_withInputs (c : HoldCause) (idle : s.nonePending) :
    (s.withInputs E X).raiseHold c = (s.raiseHold c).withInputs E X := by
  rw [State.raiseHold_eq c idle, State.raiseHold_eq (s := s.withInputs E X) c idle]
  simp

@[simp] theorem State.raiseStop_withInputs (c : StopCause) (idle : s.nonePending) :
    (s.withInputs E X).raiseStop c = (s.raiseStop c).withInputs E X := by
  rw [State.raiseStop_eq c idle, State.raiseStop_eq (s := s.withInputs E X) c idle]
  simp

/-- With no command pending, what an internal cause brings about is read from no input. -/
theorem State.raise_withInputs (c : Option Cause) (idle : s.nonePending) :
    (s.withInputs E X).raise c = (s.raise c).withInputs E X := by
  unfold State.raise
  split
  · exact s.raiseHold_withInputs E X _ idle
  · exact s.raiseStop_withInputs E X _ idle
  · rfl

end

/-! ## What reads whether a blockage is in progress (R127, R141, R151) -/

section
variable (s : State) {E : PerEye Trackpoint} (X : EstopInput)
  (blocked : ∀ e, (s.withInputs E X).isBlocked e = s.isBlocked e)
include blocked

theorem State.decideRelease_withInputs : (s.withInputs E X).decideRelease = s.decideRelease.withInputs E X := by
  unfold State.decideRelease
  rw [blocked, State.withInputs_unload, State.withInputs_inRun, State.withInputs_unloadHead]
  split
  · rfl
  · split
    · split
      · rw [State.withInputs_isFull]
        split <;> rfl
      all_goals rfl
    · rfl

theorem State.decideMerge_withInputs : (s.withInputs E X).decideMerge = s.decideMerge.withInputs E X := by
  unfold State.decideMerge
  rw [State.withInputs_merge, State.withInputs_inRun, State.withInputs_lanes, State.withInputs_isFull]
  split
  · rfl
  · split
    · rw [blocked]
      split <;> rfl
    · rfl

theorem State.decideDispatch_withInputs : (s.withInputs E X).decideDispatch = s.decideDispatch.withInputs E X := by
  unfold State.decideDispatch
  rw [blocked, State.withInputs_dispatch, State.withInputs_inRun, State.withInputs_lanes, State.withInputs_claimants]
  split
  · rfl
  · split <;> rfl

end

/-! ## States alike but for some inputs -/

/-- The input stands in `t` as in `s`. -/
def State.agrees (s t : State) : SampleInput → Prop
  | .eye e => t.eyes.get e = s.eyes.get e
  | .estop => t.estop = s.estop

/-- `t` is `s` but for the trackpoints and the ESTOP input, and of these but for the inputs not `on`; the same blockages
are in progress. -/
structure State.Alike (on : SampleInput → Prop) (s t : State) : Prop where
  rest : t = s.withInputs t.eyes t.estop
  blocked : ∀ e, t.isBlocked e = s.isBlocked e
  input : ∀ i, on i → s.agrees t i

section
variable {on on' : SampleInput → Prop} {s t u v : State}

theorem State.agrees_refl (s : State) (i : SampleInput) : s.agrees s i := by cases i <;> rfl

theorem State.agrees_trans {i : SampleInput} (h : s.agrees t i) (k : t.agrees u i) : s.agrees u i := by
  cases i <;> exact Eq.trans k h

namespace State.Alike

theorem refl (s : State) : s.Alike on s := ⟨rfl, fun _ => rfl, fun i _ => s.agrees_refl i⟩

theorem trans (h : s.Alike on t) (k : t.Alike on u) : s.Alike on u :=
  ⟨by rw [k.rest, h.rest]; rfl, fun e => (k.blocked e).trans (h.blocked e),
    fun i hi => State.agrees_trans (h.input i hi) (k.input i hi)⟩

theorem mono (h : s.Alike on t) (k : ∀ i, on' i → on i) : s.Alike on' t :=
  ⟨h.rest, h.blocked, fun i hi => h.input i (k i hi)⟩

/-- What commutes with the change of the inputs and leaves them keeps states alike. -/
theorem under {f : State → State} (h : s.Alike on t)
    (commutes : f (s.withInputs t.eyes t.estop) = (f s).withInputs t.eyes t.estop) (eyes : (f s).eyes = s.eyes)
    (estop : (f s).estop = s.estop) : (f s).Alike on (f t) := by
  have form : f t = (f s).withInputs t.eyes t.estop := (congrArg f h.rest).trans commutes
  rw [form]
  refine ⟨rfl, fun e => ?_, fun i hi => ?_⟩
  · have same := h.blocked e
    unfold State.isBlocked at same ⊢
    rw [eyes]
    exact same
  · have same := h.input i hi
    cases i with
    | eye e => exact same.trans (congrArg (PerEye.get · e) eyes.symm)
    | estop => exact same.trans estop.symm

/-- So with all that control does. -/
theorem control {f : State → State} (h : s.Alike on t)
    (commutes : f (s.withInputs t.eyes t.estop) = (f s).withInputs t.eyes t.estop) (controlled : s.Controlled (f s)) :
    (f s).Alike on (f t) := h.under commutes controlled.eyes controlled.estop

end State.Alike

theorem State.Alike.executor (h : s.Alike on t) : t.executor = s.executor := by rw [h.rest]; rfl

theorem State.Alike.sameBlocked (h : s.Alike on t) (e : Eye) :
    (s.withInputs t.eyes t.estop).isBlocked e = s.isBlocked e := h.rest ▸ h.blocked e

theorem State.Alike.decideAfter (h : s.Alike on t) (k : u.Alike on' v) : (s.decideAfter u).Alike on (t.decideAfter v) := by
  have released := h.control (s.decideRelease_withInputs _ h.sameBlocked) s.decideRelease_controlled
  have mergeDue : mergeDue v t = mergeDue u s := by rw [h.rest, k.rest]; rfl
  have dispatchDue : dispatchDue v t = dispatchDue u s := by rw [h.rest, k.rest]; rfl
  have merged : (if Machine.mergeDue u s then s.decideRelease.decideMerge else s.decideRelease).Alike on
      (if Machine.mergeDue v t then t.decideRelease.decideMerge else t.decideRelease) := by
    rw [mergeDue]
    split
    · exact released.control (State.decideMerge_withInputs _ _ released.sameBlocked) (State.decideMerge_controlled _)
    · exact released
  unfold State.decideAfter
  dsimp only
  rw [dispatchDue]
  split
  · exact merged.control (State.decideDispatch_withInputs _ _ merged.sameBlocked) (State.decideDispatch_controlled _)
  · exact merged

theorem State.Alike.drainTest (h : s.Alike on t) : s.drainTest.Alike on t.drainTest :=
  h.control (s.drainTest_withInputs _ _) s.drainTest_controlled

end

end Sys2Proof.Machine
end

section
/-! The edges of the inputs, beside the filters of the others (R44, R55, R60, R71, R72). -/

namespace Sys2Proof.Machine

/-! ## An event -/

theorem State.Settled.inputs {s t : State} (h : s.Settled t) : t.eyes = s.eyes ∧ t.estop = s.estop := by
  rcases h with h | ⟨_, h⟩ <;> exact ⟨h.eyes, h.estop⟩

section
variable {s u : State}

theorem State.raise_vector (c : Option Cause) (idle : s.nonePending) : (s.raise c).executor.vector = s.executor.vector := by
  unfold State.raise
  split
  · rw [State.raiseHold_eq _ idle]
    exact (State.applyCommand_vector _ .hold .internal).trans (by simp)
  · rw [State.raiseStop_eq _ idle]
    exact (State.applyCommand_vector _ .stop .internal).trans (by simp)
  · rfl

/-- With no command pending, none comes to be pending at an event. -/
theorem State.observe_nonePending (before : State) (c : Option Cause) (idle : s.nonePending) :
    (s.observe before c).nonePending := by
  refine State.reacting_keeps (P := State.nonePending) (fun t h => h)
    (fun t h => by rw [State.nonePending, State.drainTest_vector]; exact h) (fun t h => ?_) ?_
  · have decided : (t.decideAfter before).nonePending := by
      rw [State.nonePending, State.decideAfter_executor]
      exact h
    rw [State.nonePending, State.raise_vector c decided]
    exact decided
  · rw [State.nonePending, State.refreshPermit_executor, State.takeNewHead_executor]
    exact idle

theorem State.passage_nonePending (e : Eye) (idle : s.nonePending) : (s.passage e).nonePending := by
  refine State.observe_nonePending s _ ?_
  show (s.noted e).nonePending
  rw [State.nonePending, State.noted_executor]
  exact idle

theorem State.handOn_nonePending (e : Eye) (c : Classification) (idle : s.nonePending) : (s.handOn e c).nonePending := by
  have noted (k : AnomalyKind) : (s.recordAnomaly e k none).nonePending := by
    rw [State.nonePending, State.recordAnomaly_executor]
    exact idle
  cases c with
  | one => exact State.passage_nonePending e idle
  | debris =>
    show ((s.recordAnomaly e .debris none).handDebris e).nonePending
    rw [State.handDebris_eq]
    exact noted .debris
  | double => exact State.passage_nonePending e (State.passage_nonePending e (noted .double))

end

section
variable {on on' : SampleInput → Prop} {s t u v : State}

theorem State.Alike.reacting {f g : State → State} (h : s.Alike on t) (idle : s.nonePending)
    (rest : ∀ {u v : State}, u.Alike on v → u.nonePending → (f u).Alike on (g v)) :
    (s.reacting f).Alike on (t.reacting g) := by
  have due : t.drainDue = s.drainDue := by rw [h.rest]; rfl
  have draws : t.draws = s.draws := by rw [h.rest]; rfl
  have drawn : s.draw.Alike on t.draw := h.control (f := State.draw) rfl s.draw_controlled
  unfold State.reacting
  rw [due, draws]
  split
  · split
    · exact rest drawn.drainTest (by rw [State.nonePending, State.drainTest_vector]; exact idle)
    · exact (rest drawn idle).drainTest
  · exact rest h idle

theorem State.Alike.observe (h : u.Alike on v) (k : s.Alike on' t) (c : Option Cause) (idle : u.nonePending) :
    (u.observe s c).Alike on (v.observe t c) := by
  have lanes : v.takeNewHead t = v.takeNewHead s := by rw [k.rest]; rfl
  have head : (u.takeNewHead s).Alike on (v.takeNewHead t) := by
    rw [lanes]
    exact h.under (f := (·.takeNewHead s)) (u.takeNewHead_withInputs s _ _) (u.takeNewHead_eyes s)
      (u.takeNewHead_kept s).estop
  have permit : (u.takeNewHead s).refreshPermit.Alike on (v.takeNewHead t).refreshPermit :=
    head.control (f := State.refreshPermit) rfl (State.refreshPermit_controlled _)
  refine permit.reacting ?_ fun {x y} alike none => ?_
  · rw [State.nonePending, State.refreshPermit_executor, State.takeNewHead_executor]
    exact idle
  · have decided := alike.decideAfter k
    obtain ⟨eyes, estop⟩ := ((x.decideAfter s).raise_settled c).inputs
    refine decided.under (f := (·.raise c)) (State.raise_withInputs _ _ _ c ?_) eyes estop
    rw [State.nonePending, State.decideAfter_executor]
    exact none

/-! ## A passage -/

theorem State.Alike.setEye (h : s.Alike on t) (e : Eye) {x y : Trackpoint} (blocked : y.blockage.isSome = x.blockage.isSome)
    (same : on (.eye e) → y = x) : (s.setEye e x).Alike on (t.setEye e y) := by
  refine ⟨by rw [h.rest]; rfl, fun d => ?_, fun i hi => ?_⟩
  · have other := h.blocked d
    unfold State.isBlocked at other ⊢
    by_cases here : d = e
    · simpa [here] using blocked
    · simpa [here] using other
  · have other := h.input i hi
    cases i with
    | eye d =>
      show (t.setEye e y).eyes.get d = (s.setEye e x).eyes.get d
      by_cases here : d = e
      · subst here
        simpa using same hi
      · have same : t.eyes.get d = s.eyes.get d := other
        simpa [here] using same
    | estop => exact other

theorem State.Alike.recordAnomaly (h : s.Alike on t) (e : Eye) (k : AnomalyKind) (r : Option RecNo) :
    (s.recordAnomaly e k r).Alike on (t.recordAnomaly e k r) := by
  refine State.Alike.control (f := (·.raiseMark .panel)) (h.setEye e (h.blocked e) fun here => ?_)
    (State.raiseMark_withInputs _ _ _ _) (State.raiseMark_controlled _ _)
  have same : t.eyes.get e = s.eyes.get e := h.input _ here
  rw [same]

theorem State.Alike.recordAnomalies (h : s.Alike on t) (e : Eye) (as : List (AnomalyKind × Option RecNo)) :
    (s.recordAnomalies e as).Alike on (t.recordAnomalies e as) := by
  induction as generalizing s t with
  | nil => exact h
  | cons a as ih => exact ih (h.recordAnomaly e a.1 a.2)

theorem State.Alike.passage (h : s.Alike on t) (e : Eye) (idle : s.nonePending) :
    (s.passage e).Alike on (t.passage e) := by
  have landing : t.reconcile e = (s.reconcile e).withInputs t.eyes t.estop :=
    (congrArg (·.reconcile e) h.rest).trans (s.reconcile_withInputs _ _ e)
  have moved : (s.reconcile e).state.Alike on (t.reconcile e).state :=
    h.under (f := fun w => (w.reconcile e).state) (congrArg Landing.state (s.reconcile_withInputs _ _ e))
      (s.reconcile_movement e).eyes (s.reconcile_kept e).estop
  have noted : (s.noted e).Alike on (t.noted e) := by
    unfold State.noted
    rw [congrArg Landing.anomalies landing]
    exact moved.recordAnomalies e _
  rw [State.passage_eq, State.passage_eq, congrArg Landing.cause landing]
  refine noted.observe h _ ?_
  rw [State.nonePending, State.noted_executor]
  exact idle

/-! ## The receivers of a blockage (R55, R61) -/

theorem State.mergeBlocked_withInputs (s : State) {E : PerEye Trackpoint} (X : EstopInput) (e : Eye)
    (blocked : ∀ d, (s.withInputs E X).isBlocked d = s.isBlocked d) :
    (s.withInputs E X).mergeBlocked e = (s.mergeBlocked e).withInputs E X := by
  unfold State.mergeBlocked
  rw [State.withInputs_merge]
  split
  · split
    · split
      · exact State.decideMerge_withInputs { s with merge := none } X blocked
      · rfl
    · rfl
  · rfl

theorem State.dispatchBlocked_withInputs (s : State) (E : PerEye Trackpoint) (X : EstopInput) :
    (s.withInputs E X).dispatchBlocked = s.dispatchBlocked.withInputs E X := by
  unfold State.dispatchBlocked
  rw [State.withInputs_dispatch]
  split
  · split <;> rfl
  · rfl

theorem State.Alike.handBlocked (h : s.Alike on t) (e : Eye) : (s.handBlocked e).Alike on (t.handBlocked e) := by
  have commutes : (s.withInputs t.eyes t.estop).handBlocked e = (s.handBlocked e).withInputs t.eyes t.estop := by
    have merge (d : Eye) := s.mergeBlocked_withInputs t.estop d h.sameBlocked
    cases e with
    | outfeed x => exact merge (.outfeed x)
    | sp => exact merge .sp
    | ds => exact s.dispatchBlocked_withInputs _ _
    | _ => rfl
  exact h.under (f := (·.handBlocked e)) commutes (by rw [State.handBlocked_eq]) (by rw [State.handBlocked_eq])

theorem State.Alike.handDebris (h : s.Alike on t) (e : Eye) : (s.handDebris e).Alike on (t.handDebris e) := by
  refine h.under (f := (·.handDebris e)) ?_ (by rw [State.handDebris_eq]) (by rw [State.handDebris_eq])
  rw [State.handDebris_eq, State.handDebris_eq]
  rfl

theorem State.Alike.handOn (h : s.Alike on t) (e : Eye) (c : Classification) (idle : s.nonePending) :
    (s.handOn e c).Alike on (t.handOn e c) := by
  cases c with
  | one => exact h.passage e idle
  | debris => exact (h.recordAnomaly e .debris none).handDebris e
  | double =>
    have noted : (s.recordAnomaly e .double none).nonePending := by
      rw [State.nonePending, State.recordAnomaly_executor]
      exact idle
    exact ((h.recordAnomaly e .double none).passage e noted).passage e (State.passage_nonePending e noted)

theorem State.Alike.endBlockage (h : s.Alike on t) (e : Eye) : (s.endBlockage e).Alike on (t.endBlockage e) := by
  have ended : (s.setEye e { s.eyes.get e with blockage := none }).Alike on
      (t.setEye e { t.eyes.get e with blockage := none }) := by
    refine h.setEye e rfl fun here => ?_
    have same : t.eyes.get e = s.eyes.get e := h.input _ here
    rw [same]
  have merge := ended.control (State.decideMerge_withInputs _ _ ended.sameBlocked) (State.decideMerge_controlled _)
  unfold State.endBlockage
  cases e with
  | outfeed x => exact merge
  | sp => exact merge
  | ul => exact ended.control (State.decideRelease_withInputs _ _ ended.sameBlocked) (State.decideRelease_controlled _)
  | ds => exact ended.control (State.decideDispatch_withInputs _ _ ended.sameBlocked) (State.decideDispatch_controlled _)
  | en => exact ended
  | ex => exact ended

/-! ## The edges -/

/-- The edge of an input, to the level `raw`: BLOCKED or CLEAR, ACTIVE or RELEASED (R55, R60, R71, R72). -/
def State.edge (s : State) (raw : Bool) : SampleInput → State
  | .eye e => if raw then s.blockedEdge e else s.clearEdge e
  | .estop => if raw then s.estopOn else s.estopOff

theorem State.Alike.blockedEdge (h : s.Alike on t) (e : Eye) (here : on (.eye e)) :
    (s.blockedEdge e).Alike on (t.blockedEdge e) := by
  have same : t.eyes.get e = s.eyes.get e := h.input _ here
  have working : t.working = s.working := by rw [h.rest]; rfl
  have begun : (s.blocking e).Alike on (t.blocking e) := h.setEye e rfl fun _ => by rw [same, working]
  exact begun.handBlocked e

theorem State.Alike.clearEdge (h : s.Alike on t) (e : Eye) (here : on (.eye e)) (idle : s.nonePending) :
    (s.clearEdge e).Alike on (t.clearEdge e) := by
  have same : t.eyes.get e = s.eyes.get e := h.input _ here
  have working : t.working = s.working := by rw [h.rest]; rfl
  unfold State.clearEdge
  rw [same, working]
  dsimp only
  split
  · exact ((h.setEye e rfl fun _ => rfl).handOn e _ idle).endBlockage e
  · exact h.setEye e rfl fun _ => rfl

/-- The ESTOP input written alike. -/
theorem State.Alike.setEstop (h : s.Alike on t) (x : EstopInput) :
    ({ s with estop := x } : State).Alike on { t with estop := x } := by
  refine ⟨by rw [h.rest]; rfl, h.blocked, fun i hi => ?_⟩
  have other := h.input i hi
  cases i with
  | eye e => exact other
  | estop => rfl

theorem State.Alike.enterRun (h : s.Alike on t) (i : Issuer) (idle : s.nonePending) :
    (s.enterRun i).Alike on (t.enterRun i) := by
  have begun : ((s.withExecutor { s.executor with loop := .run, heatTimer := none }).writeOutcome .run .done
      i).refreshPermit.Alike on ((t.withExecutor { t.executor with loop := .run, heatTimer := none }).writeOutcome .run
      .done i).refreshPermit := by
    refine h.control (f := fun w => ((w.withExecutor { w.executor with loop := .run, heatTimer := none }).writeOutcome
      .run .done i).refreshPermit) (by simp; rfl) ?_
    exact ((s.withExecutor_controlled _).trans (State.writeOutcome_controlled _ _ _ _ _)).trans
      (State.refreshPermit_controlled _)
  refine begun.reacting ?_ fun {u v} alike _ => ?_
  · rw [State.nonePending, State.refreshPermit_executor, State.writeOutcome_vector]
    exact idle
  · have release := alike.control (u.decideRelease_withInputs _ alike.sameBlocked) u.decideRelease_controlled
    have merge := release.control (State.decideMerge_withInputs _ _ release.sameBlocked) (State.decideMerge_controlled _)
    exact merge.control (State.decideDispatch_withInputs _ _ merge.sameBlocked) (State.decideDispatch_controlled _)

theorem State.Alike.startingTest (h : s.Alike on t) (estop : t.estop = s.estop) (idle : s.nonePending) :
    s.startingTest.Alike on t.startingTest := by
  have condition : t.startingCondition = s.startingCondition := by
    unfold State.startingCondition
    rw [estop, h.rest]
    rfl
  unfold State.startingTest
  rw [condition, h.executor]
  split
  · split
    · exact h.enterRun _ idle
    · exact h
  all_goals exact h

theorem State.estopOff_eq (idle : s.nonePending) : s.estopOff = ({ s with estop := ⟨false, 0⟩ } : State).startingTest :=
  State.takeCommands_none (by rw [State.startingTest_vector]; exact idle)

/-- An edge taken beside other filters of the other inputs is the edge taken, beside them. -/
theorem State.Alike.edge (h : s.Alike on t) (raw : Bool) {i : SampleInput} (here : on i) (idle : s.nonePending) :
    (s.edge raw i).Alike on (t.edge raw i) := by
  have idle' : t.nonePending := by rw [State.nonePending, h.executor]; exact idle
  unfold State.edge
  cases i with
  | eye e =>
    cases raw with
    | true => exact h.blockedEdge e here
    | false => exact h.clearEdge e here idle
  | estop =>
    cases raw with
    | true =>
      obtain ⟨eyes, estop⟩ := (({ s with estop := ⟨true, 0⟩ } : State).raiseStop_settled .estop).inputs
      exact (h.setEstop ⟨true, 0⟩).under (f := (·.raiseStop .estop)) (State.raiseStop_withInputs _ _ _ _ idle) eyes estop
    | false =>
      show s.estopOff.Alike on t.estopOff
      rw [State.estopOff_eq idle, State.estopOff_eq idle']
      exact (h.setEstop ⟨false, 0⟩).startingTest rfl idle

end

end Sys2Proof.Machine
end

section
/-! One sample of the eyes and of the ESTOP input (R53, R54, R56, R70). -/

namespace Sys2Proof.Machine

/-! ## What an edge leaves -/

/-- With no COMMIT pending, what moves the racks leaves the settings. -/
theorem State.settingsKept_closed : MoveClosed (withoutCommit State.settingsKept) :=
  have control := withoutCommit_control (Q := State.settingsKept) (fun _ => ⟨rfl, rfl, rfl⟩)
    (fun h k => ⟨k.1.trans h.1, k.2.1.trans h.2.1, k.2.2.trans h.2.2⟩) fun h => ⟨h.stored, h.working, h.single⟩
  have unwritten {s t : State} (executor : t.executor = s.executor) (stored : t.stored = s.stored)
      (working : t.working = s.working) (single : t.single = s.single) : withoutCommit State.settingsKept s t :=
    fun free => ⟨by rw [executor]; exact free, stored, working, single⟩
  { refl := control.refl
    trans := control.trans
    take := control.take
    beside := fun h free => ⟨h.bit.trans free, h.stored, h.working, h.single⟩
    newHead := fun s before => by
      obtain ⟨_, _, _, h⟩ := s.takeNewHead_form before
      rw [h]
      exact unwritten rfl rfl rfl rfl
    windows := fun _ _ _ => unwritten rfl rfl rfl rfl
    update := fun s n f => unwritten (by simp) (by simp) (by simp) (by simp)
    reconcile := fun s e =>
      have moved := s.reconcile_movement e
      have kept := s.reconcile_kept e
      unwritten moved.executor kept.stored moved.working kept.single
    shift := fun s =>
      have ⟨single, stored, working⟩ := s.leaveTunnel_settings
      unwritten s.leaveTunnel_executor stored working single
    exitMissing := fun _ _ _ => unwritten rfl rfl rfl rfl }

section
variable {s : State}

theorem State.free_of_idle (idle : s.nonePending) : s.executor.vector.commit = none := by
  rw [idle]
  rfl

theorem State.blockedEdge_idle (e : Eye) (idle : s.nonePending) : (s.blockedEdge e).nonePending := by
  rw [State.blockedEdge_eq, State.handBlocked_eq]
  exact idle

theorem State.clearEdge_idle (e : Eye) (idle : s.nonePending) : (s.clearEdge e).nonePending := by
  unfold State.clearEdge
  dsimp only
  split
  · rw [State.nonePending, State.endBlockage_executor]
    exact State.handOn_nonePending e _ idle
  · exact idle

theorem State.estopOn_idle (idle : s.nonePending) : s.estopOn.nonePending := by
  have same := State.raise_vector (s := { s with estop := ⟨true, 0⟩ }) (some (.stop .estop)) idle
  show s.estopOn.executor.vector = _
  exact same.trans idle

theorem State.estopOff_idle (idle : s.nonePending) : s.estopOff.nonePending := by
  rw [State.estopOff_eq idle, State.nonePending, State.startingTest_vector]
  exact idle

end

section
variable (s : State) (e : Eye)

theorem State.passage_eyes : (s.passage e).eyes = (s.noted e).eyes := by
  rw [State.passage_eq]
  exact (State.observe_settled _ s _).inputs.1.trans (State.takeNewHead_eyes _ _)

/-- What a classified blockage hands on writes no trackpoint but the last anomaly of its own. -/
theorem State.handOn_eyes (c : Classification) :
    ∃ a, (s.handOn e c).eyes = s.eyes.set e { s.eyes.get e with anomaly := a } := by
  have twice (x y : Trackpoint) : (s.eyes.set e x).set e y = s.eyes.set e y :=
    PerEye.ext_get fun d => by by_cases h : d = e <;> simp [h]
  cases c with
  | one => exact ⟨_, (s.passage_eyes e).trans (s.noted_eyes e)⟩
  | debris =>
    show ∃ a, ((s.recordAnomaly e .debris none).handDebris e).eyes = _
    rw [State.handDebris_eq]
    exact ⟨_, s.recordAnomaly_eyes e .debris none⟩
  | double =>
    show ∃ a, (((s.recordAnomaly e .double none).passage e).passage e).eyes = _
    simp only [State.passage_eyes, State.noted_eyes, State.recordAnomaly_eyes, twice, PerEye.get_set, if_true]
    exact ⟨_, rfl⟩

theorem State.blockedEdge_eyes : (s.blockedEdge e).eyes = s.eyes.set e ⟨true, 0, (s.eyes.get e).start,
    some ⟨0, (s.eyes.get e).start, false⟩, some (s.working.jamLimit.get e), (s.eyes.get e).anomaly⟩ := by
  rw [State.blockedEdge_eq, State.handBlocked_eq]
  rfl

theorem State.clearEdge_eyes :
    ∃ a, (s.clearEdge e).eyes = s.eyes.set e ⟨false, 0, false, none, none, a⟩ := by
  unfold State.clearEdge
  dsimp only
  split
  · rename_i b _
    obtain ⟨a, handed⟩ := (s.setEye e ⟨false, 0, false, some { b with length := lengthen b.length }, none,
      (s.eyes.get e).anomaly⟩).handOn_eyes e (Blockage.classify { b with length := lengthen b.length }
        (s.working.rackMin.get e) (s.working.rackMax.get e))
    refine ⟨a, (State.endBlockage_controlled _ e).eyes.trans (PerEye.ext_get fun d => ?_)⟩
    by_cases h : d = e <;> simp [handed, h]
  · rename_i none
    refine ⟨(s.eyes.get e).anomaly, PerEye.ext_get fun d => ?_⟩
    by_cases h : d = e <;> simp [h, none]

theorem State.edge_others (raw : Bool) : (∀ d, d ≠ e → ((s.edge raw (.eye e)).eyes.get d) = s.eyes.get d)
    ∧ (s.edge raw (.eye e)).estop = s.estop := by
  cases raw with
  | true => exact ⟨fun d h => by simp [State.edge, State.blockedEdge_eyes, h],
      s.blockedEdge_same [.eyes] e (by simp) .estop (by simp)⟩
  | false =>
    obtain ⟨a, written⟩ := s.clearEdge_eyes e
    exact ⟨fun d h => by simp [State.edge, written, h],
      s.clearEdge_same [.eyes, .admission] e (by simp) (by simp) .estop (by simp)⟩

/-- An edge of the ESTOP input writes its own level and no trackpoint. -/
theorem State.edge_estop {s : State} (raw : Bool) (idle : s.nonePending) :
    (s.edge raw .estop).estop = ⟨raw, 0⟩ ∧ (s.edge raw .estop).eyes = s.eyes := by
  cases raw with
  | true =>
    obtain ⟨eyes, estop⟩ := (({ s with estop := ⟨true, 0⟩ } : State).raiseStop_settled .estop).inputs
    exact ⟨estop, eyes⟩
  | false =>
    show s.estopOff.estop = _ ∧ s.estopOff.eyes = _
    rw [State.estopOff_eq idle]
    have control := ({ s with estop := ⟨false, 0⟩ } : State).startingTest_controlled
    exact ⟨control.estop, control.eyes⟩

end

/-- What a sample keeps: the inputs that are `on`, the settings, and that no command is pending. -/
structure State.SampleKeeps (on : SampleInput → Prop) (s t : State) : Prop where
  input : ∀ i, on i → s.agrees t i
  idle : t.nonePending
  settings : s.settingsKept t

section
variable {on on' : SampleInput → Prop} {s t u : State}

theorem State.SampleKeeps.refl (idle : s.nonePending) : s.SampleKeeps on s :=
  ⟨fun i _ => s.agrees_refl i, idle, rfl, rfl, rfl⟩

theorem State.SampleKeeps.trans (h : s.SampleKeeps on t) (k : t.SampleKeeps on u) : s.SampleKeeps on u :=
  ⟨fun i hi => State.agrees_trans (h.input i hi) (k.input i hi), k.idle, k.settings.1.trans h.settings.1,
    k.settings.2.1.trans h.settings.2.1, k.settings.2.2.trans h.settings.2.2⟩

theorem State.SampleKeeps.mono (h : s.SampleKeeps on t) (k : ∀ i, on' i → on i) : s.SampleKeeps on' t :=
  ⟨fun i hi => h.input i (k i hi), h.idle, h.settings⟩

theorem State.Alike.sampleKeeps (h : s.Alike on t) (idle : s.nonePending) : s.SampleKeeps on t :=
  ⟨h.input, by rw [State.nonePending, h.executor]; exact idle, by rw [h.rest]; exact ⟨rfl, rfl, rfl⟩⟩

/-- An edge leaves the other inputs. -/
theorem State.edge_keeps (raw : Bool) (i : SampleInput) (idle : s.nonePending) :
    s.SampleKeeps (· ≠ i) (s.edge raw i) := by
  have closed := State.settingsKept_closed
  have free := State.free_of_idle idle
  cases i with
  | eye e =>
    obtain ⟨eyes, estop⟩ := s.edge_others e raw
    refine ⟨fun j hj => ?_, ?_, ?_⟩
    · cases j with
      | eye d => exact eyes d fun h => hj (congrArg _ h)
      | estop => exact estop
    · cases raw with
      | true => exact State.blockedEdge_idle e idle
      | false => exact State.clearEdge_idle e idle
    · cases raw with
      | true => exact (closed.blockedEdge s e free).2
      | false => exact (closed.clearEdge s e free).2
  | estop =>
    obtain ⟨_, eyes⟩ := State.edge_estop raw idle
    refine ⟨fun j hj => ?_, ?_, ?_⟩
    · cases j with
      | eye d => exact congrArg (PerEye.get · d) eyes
      | estop => exact absurd rfl hj
    · cases raw with
      | true => exact State.estopOn_idle idle
      | false => exact State.estopOff_idle idle
    · cases raw with
      | true => exact (closed.estopOn s free).2
      | false => exact (closed.estopOff s free).2

end

/-! ## One sample of one input (R53, R54, R56, R70) -/

/-- The sample of one input at the level `raw`. -/
def State.sampleInput (s : State) (raw : Bool) : SampleInput → State
  | .eye e => s.sampleEye e raw
  | .estop => s.sampleEstop raw

/-- The sample completes a run of the other level (R53, R70). -/
def State.flips (s : State) (raw : Bool) : SampleInput → Prop
  | .eye e => raw ≠ (s.eyes.get e).blocked ∧ s.working.eyeCheck.get e ≤ (s.eyes.get e).runCount + 1
  | .estop => raw ≠ s.estop.active ∧ estopCheck ≤ s.estop.runCount + 1

/-- A sample that completes no run, counted (R53, R54, R56). -/
def Trackpoint.counted (t : Trackpoint) (raw : Bool) : Trackpoint :=
  { t with
    runCount := if raw = t.blocked then 0 else t.runCount + 1
    start := t.start && raw
    blockage := t.blockage.map fun b => { b with length := lengthen b.length } }

/-- A sample of the ESTOP input that completes no run, counted (R70). -/
def EstopInput.counted (x : EstopInput) (raw : Bool) : EstopInput :=
  { x with runCount := if raw = x.active then 0 else x.runCount + 1 }

/-- The sample counted at its input. -/
def State.counted (s : State) (raw : Bool) : SampleInput → State
  | .eye e => s.setEye e ((s.eyes.get e).counted raw)
  | .estop => { s with estop := s.estop.counted raw }

section
variable {on : SampleInput → Prop} {s t : State} {raw : Bool} {i : SampleInput}

theorem State.sampleInput_of_flips (h : s.flips raw i) : s.sampleInput raw i = s.edge raw i := by
  cases i with
  | eye e => exact (if_neg h.1).trans (if_neg (Nat.not_lt.2 h.2))
  | estop => exact (if_neg h.1).trans (if_neg (Nat.not_lt.2 h.2))

theorem State.sampleInput_of_quiet (h : ¬s.flips raw i) : s.sampleInput raw i = s.counted raw i := by
  cases i with
  | eye e =>
    by_cases same : raw = (s.eyes.get e).blocked
    · simp [State.sampleInput, State.sampleEye, State.counted, Trackpoint.counted, same]
    · have short : (s.eyes.get e).runCount + 1 < s.working.eyeCheck.get e := Nat.not_le.1 fun long => h ⟨same, long⟩
      simp [State.sampleInput, State.sampleEye, State.counted, Trackpoint.counted, same, short]
  | estop =>
    by_cases same : raw = s.estop.active
    · simp [State.sampleInput, State.sampleEstop, State.counted, EstopInput.counted, same]
    · have short : s.estop.runCount + 1 < estopCheck := Nat.not_le.1 fun long => h ⟨same, long⟩
      simp [State.sampleInput, State.sampleEstop, State.counted, EstopInput.counted, same, short]

theorem State.counted_alike (s : State) (raw : Bool) (i : SampleInput) : s.Alike (· ≠ i) (s.counted raw i) := by
  cases i with
  | eye e =>
    refine ⟨rfl, fun d => ?_, fun j hj => ?_⟩
    · unfold State.isBlocked
      by_cases here : d = e <;> simp [State.counted, Trackpoint.counted, here]
    · cases j with
      | eye d =>
        have other : d ≠ e := fun h => hj (congrArg _ h)
        simp [State.agrees, State.counted, other]
      | estop => rfl
  | estop =>
    refine ⟨rfl, fun _ => rfl, fun j hj => ?_⟩
    cases j with
    | eye d => rfl
    | estop => exact absurd rfl hj

/-- Whether a sample completes a run is a matter of its input and of the check times. -/
theorem State.SampleKeeps.flips (h : s.SampleKeeps on t) (here : on i) : t.flips raw i ↔ s.flips raw i := by
  have same := h.input i here
  cases i with
  | eye e =>
    have eye : t.eyes.get e = s.eyes.get e := same
    simp only [State.flips, eye, h.settings.2.1]
  | estop =>
    have estop : t.estop = s.estop := same
    simp only [State.flips, estop]

theorem State.sampleInput_keeps (raw : Bool) (i : SampleInput) (idle : s.nonePending) :
    s.SampleKeeps (· ≠ i) (s.sampleInput raw i) := by
  by_cases h : s.flips raw i
  · rw [State.sampleInput_of_flips h]
    exact State.edge_keeps raw i idle
  · rw [State.sampleInput_of_quiet h]
    exact (s.counted_alike raw i).sampleKeeps idle

end

/-! ## The samples of one millisecond -/

/-- The samples of the inputs of `l`, one after the other. -/
def State.samples (s : State) (raw : SampleInput → Bool) (l : List SampleInput) : State :=
  l.foldl (fun t i => t.sampleInput (raw i) i) s

section
variable {s : State} {raw : SampleInput → Bool} {l a b : List SampleInput} {j : SampleInput}

theorem State.samples_keeps (l : List SampleInput) (idle : s.nonePending) :
    s.SampleKeeps (· ∉ l) (s.samples raw l) := by
  induction l generalizing s with
  | nil => exact .refl idle
  | cons i l ih =>
    have first := State.sampleInput_keeps (raw i) i idle
    exact (first.mono fun _ h => List.ne_of_not_mem_cons h).trans
      ((ih first.idle).mono fun _ h => List.not_mem_of_not_mem_cons h)

theorem State.samples_split (s : State) (a b : List SampleInput) (j : SampleInput) :
    s.samples raw (a ++ j :: b) = ((s.samples raw a).sampleInput (raw j) j).samples raw b := List.foldl_append

/-- Each input of the list has its sample, which finds it as it was and is the last to write it. -/
theorem State.samples_at (idle : s.nonePending) (before : j ∉ a) (after : j ∉ b) :
    ∃ t, s.SampleKeeps (· = j) t ∧ (t.sampleInput (raw j) j).agrees (s.samples raw (a ++ j :: b)) j := by
  have first := State.samples_keeps (raw := raw) a idle
  have own := State.sampleInput_keeps (raw j) j first.idle
  refine ⟨s.samples raw a, first.mono (by rintro _ rfl; exact before), ?_⟩
  rw [State.samples_split]
  exact (State.samples_keeps b own.idle).input j after

/-- Samples that complete no run change nothing but their inputs. -/
theorem State.samples_quiet (idle : s.nonePending) (once : l.Nodup) (quiet : ∀ i ∈ l, ¬s.flips (raw i) i) :
    s.Alike (· ∉ l) (s.samples raw l) := by
  induction l generalizing s with
  | nil => exact .refl s
  | cons i l ih =>
    obtain ⟨fresh, once⟩ := List.nodup_cons.1 once
    have counted : s.sampleInput (raw i) i = s.counted (raw i) i := State.sampleInput_of_quiet (quiet i List.mem_cons_self)
    have first := s.counted_alike (raw i) i
    have kept := first.sampleKeeps idle
    have rest := ih kept.idle once fun j hj flips =>
      quiet j (List.mem_cons_of_mem i hj) ((kept.flips fun same => fresh (same ▸ hj)).1 flips)
    rw [State.samples, List.foldl_cons, counted]
    exact (first.mono fun _ h => List.ne_of_not_mem_cons h).trans
      (rest.mono fun _ h => List.not_mem_of_not_mem_cons h)

/-- Where one sample alone completes a run, it is the edge of its input, beside the counts of the others. -/
theorem State.samples_edge (idle : s.nonePending) (once : (a ++ j :: b).Nodup) (flips : s.flips (raw j) j)
    (quiet : ∀ i ∈ a ++ j :: b, i ≠ j → ¬s.flips (raw i) i) :
    (s.edge (raw j) j).Alike (· = j) (s.samples raw (a ++ j :: b)) := by
  obtain ⟨before, ⟨after, rest⟩, apart⟩ : a.Nodup ∧ (j ∉ b ∧ b.Nodup) ∧ ∀ x ∈ a, ∀ y ∈ j :: b, x ≠ y := by
    rw [← List.nodup_cons]
    exact List.nodup_append.1 once
  have out : j ∉ a := fun h => apart j h j List.mem_cons_self rfl
  have first : s.Alike (· ∉ a) (s.samples raw a) := State.samples_quiet idle before fun i hi =>
    quiet i (by simp [hi]) fun same => out (same ▸ hi)
  have kept := first.sampleKeeps idle
  have own : (s.samples raw a).sampleInput (raw j) j = (s.samples raw a).edge (raw j) j :=
    State.sampleInput_of_flips ((kept.flips out).2 flips)
  have edge := State.edge_keeps (raw j) j kept.idle
  have last := State.samples_quiet (raw := raw) edge.idle rest fun i hi flips => by
    have other : i ≠ j := fun same => after (same ▸ hi)
    have outside : i ∉ a := fun h => apart i h i (List.mem_cons_of_mem j hi) rfl
    exact quiet i (by simp [hi]) other ((kept.flips outside).1 ((edge.flips other).1 flips))
  rw [State.samples_split, own]
  have joined := (first.edge (raw j) out idle).mono (on' := (· = j)) (by rintro _ rfl; exact out)
  exact joined.trans (last.mono (by rintro _ rfl; exact after))

end

/-! ## The order of the inputs -/

theorem nodup_eraseDups {α : Type} [DecidableEq α] (l : List α) : l.eraseDups.Nodup := by
  induction h : l.length using Nat.strong_induction_on generalizing l with
  | _ n ih =>
    cases l with
    | nil => simp
    | cons x xs =>
      rw [List.eraseDups_cons, List.nodup_cons, List.mem_eraseDups]
      refine ⟨by simp, ih _ ?_ _ rfl⟩
      rw [← h]
      exact Nat.lt_succ_of_le (List.length_filter_le _ xs)

theorem nodup_inOrder {α : Type} [DecidableEq α] (order : List α) {all : List α} (h : all.Nodup) :
    (inOrder order all).Nodup := by
  refine List.nodup_append.2 ⟨nodup_eraseDups order, h.filter _, fun x hx y hy same => ?_⟩
  have named : x ∈ order := List.mem_eraseDups.1 hx
  have unnamed : y ∉ order := by simpa using (List.mem_filter.1 hy).2
  exact unnamed (same ▸ named)

theorem mem_inOrder {α : Type} [DecidableEq α] (order : List α) {all : List α} {x : α} (h : x ∈ all) :
    x ∈ inOrder order all := by
  by_cases named : x ∈ order <;> simp [inOrder, named, h]

theorem mem_sampleInputs (i : SampleInput) : i ∈ sampleInputs := by
  cases i with
  | eye e => simp [sampleInputs, Eye.mem_all e]
  | estop => simp [sampleInputs]

/-- Every input has its place in the order of one sample, and no other. -/
theorem inOrder_sampleInputs_split (order : List SampleInput) (j : SampleInput) :
    ∃ a b, inOrder order sampleInputs = a ++ j :: b ∧ j ∉ a ∧ j ∉ b := by
  obtain ⟨a, b, split⟩ := List.append_of_mem (mem_inOrder order (mem_sampleInputs j))
  have once : (a ++ j :: b).Nodup := split ▸ nodup_inOrder order (by decide)
  refine ⟨a, b, split, fun h => ?_, (List.nodup_cons.1 (List.nodup_append.1 once).2.1).1⟩
  exact (List.nodup_append.1 once).2.2 j h j List.mem_cons_self rfl

/-! ## EYE_SAMPLE -/

/-- The level each input is sampled at. -/
def sampleLevel (blocked : List Eye) (low : Bool) : SampleInput → Bool
  | .eye e => decide (e ∈ blocked)
  | .estop => low

theorem State.sampleAll_eq (s : State) (blocked : List Eye) (low : Bool) (order : List SampleInput) :
    s.sampleAll blocked low order =
      (s.samples (sampleLevel blocked low) (inOrder order sampleInputs)).settleGrants := by
  unfold State.sampleAll State.samples
  congr 2
  funext t i
  cases i <;> rfl

section
variable {on : SampleInput → Prop} {s t u : State} {raw : Bool} {e : Eye}

theorem State.sampleInput_eye_quiet (h : ¬s.flips raw (.eye e)) :
    (s.sampleInput raw (.eye e)).eyes.get e = (s.eyes.get e).counted raw := by
  rw [State.sampleInput_of_quiet h]
  simp [State.counted]

theorem State.sampleInput_eye_flips (h : s.flips raw (.eye e)) :
    ∃ a, (s.sampleInput raw (.eye e)).eyes.get e =
      if raw then ⟨true, 0, (s.eyes.get e).start, some ⟨0, (s.eyes.get e).start, false⟩,
        some (s.working.jamLimit.get e), a⟩
      else ⟨false, 0, false, none, none, a⟩ := by
  rw [State.sampleInput_of_flips h]
  cases raw with
  | true => exact ⟨(s.eyes.get e).anomaly, by simp [State.edge, State.blockedEdge_eyes]⟩
  | false =>
    obtain ⟨a, written⟩ := s.clearEdge_eyes e
    exact ⟨a, by simp [State.edge, written]⟩

theorem State.sampleInput_estop (idle : s.nonePending) : (s.sampleInput raw .estop).estop =
    if raw = s.estop.active then ⟨s.estop.active, 0⟩
    else if s.estop.runCount + 1 < 5 then ⟨s.estop.active, s.estop.runCount + 1⟩
    else ⟨raw, 0⟩ := by
  by_cases h : s.flips raw .estop
  · have long : ¬s.estop.runCount + 1 < 5 := Nat.not_lt.2 h.2
    rw [State.sampleInput_of_flips h, (State.edge_estop raw idle).1, if_neg h.1, if_neg long]
  · rw [State.sampleInput_of_quiet h]
    by_cases same : raw = s.estop.active
    · simp [State.counted, EstopInput.counted, same]
    · have short : s.estop.runCount + 1 < 5 := Nat.not_le.1 fun long => h ⟨same, long⟩
      simp [State.counted, EstopInput.counted, same, short]

/-- The row of an eye's edge, where a sample gives it (R55, R60). -/
theorem exec_edge_eye (h : s.flips raw (.eye e)) :
    exec (if raw then .blockedEdge e else .clearEdge e) s = .next (s.edge raw (.eye e)) := by
  cases raw with
  | true => exact exec_blockedEdge (by simpa using h.1.symm)
  | false => exact congrArg Host.Outcome.next (if_pos (by simpa using h.1.symm))

/-- The row of an ESTOP edge, where a sample gives it (R71, R72). -/
theorem exec_edge_estop (h : s.flips raw .estop) :
    exec (if raw then .estopActive else .estopReleased) s = .next (s.edge raw .estop) := by
  cases raw with
  | true => exact congrArg Host.Outcome.next (if_neg (by simpa using h.1.symm))
  | false => exact congrArg Host.Outcome.next (if_pos (by simpa using h.1.symm))

/-- `u` with the inputs of `t`, and with reopened grants that stand as any other (notes/assumptions/27.md). -/
def State.settledWith (t u : State) : State :=
  { u with
    eyes := t.eyes
    estop := t.estop
    merge := u.merge.map fun g => { g with reopened := false }
    dispatch := { u.dispatch with grant := u.dispatch.grant.map fun g => { g with reopened := none } } }

theorem State.Alike.settleGrants (h : u.Alike on t) : t.settleGrants = t.settleGrants.settledWith u :=
  congrArg State.settleGrants h.rest

end

section
variable (s : State) (blocked : List Eye) (low : Bool) (order : List SampleInput)

/-- Each input has its one sample, which finds it as the millisecond does. -/
theorem State.sampleAll_at {s : State} (idle : s.nonePending) (j : SampleInput) : ∃ t, s.SampleKeeps (· = j) t
    ∧ (t.sampleInput (sampleLevel blocked low j) j).agrees (s.sampleAll blocked low order) j := by
  obtain ⟨a, b, split, before, after⟩ := inOrder_sampleInputs_split order j
  obtain ⟨t, kept, last⟩ := State.samples_at (raw := sampleLevel blocked low) idle before after
  refine ⟨t, kept, ?_⟩
  rw [State.sampleAll_eq, split]
  cases j <;> exact last

theorem State.sampleAll_eye_quiet {s : State} (idle : s.nonePending) {e : Eye} {raw : Bool}
    (level : sampleLevel blocked low (.eye e) = raw) (h : ¬s.flips raw (.eye e)) :
    (s.sampleAll blocked low order).eyes.get e = (s.eyes.get e).counted raw := by
  obtain ⟨t, kept, last⟩ := State.sampleAll_at blocked low order idle (.eye e)
  have same : t.eyes.get e = s.eyes.get e := kept.input _ rfl
  rw [level] at last
  exact last.trans ((State.sampleInput_eye_quiet fun k => h ((kept.flips rfl).1 k)).trans (by rw [same]))

theorem State.sampleAll_eye_flips {s : State} (idle : s.nonePending) {e : Eye} {raw : Bool}
    (level : sampleLevel blocked low (.eye e) = raw) (h : s.flips raw (.eye e)) :
    ∃ a, (s.sampleAll blocked low order).eyes.get e =
      if raw then ⟨true, 0, (s.eyes.get e).start, some ⟨0, (s.eyes.get e).start, false⟩,
        some (s.working.jamLimit.get e), a⟩
      else ⟨false, 0, false, none, none, a⟩ := by
  obtain ⟨t, kept, last⟩ := State.sampleAll_at blocked low order idle (.eye e)
  have same : t.eyes.get e = s.eyes.get e := kept.input _ rfl
  obtain ⟨a, sampled⟩ := State.sampleInput_eye_flips ((kept.flips rfl).2 h)
  rw [level] at last
  rw [same, kept.settings.2.1] at sampled
  exact ⟨a, last.trans sampled⟩

theorem State.sampleAll_estop {s : State} (idle : s.nonePending) : (s.sampleAll blocked low order).estop =
    if low = s.estop.active then ⟨s.estop.active, 0⟩
    else if s.estop.runCount + 1 < 5 then ⟨s.estop.active, s.estop.runCount + 1⟩
    else ⟨low, 0⟩ := by
  obtain ⟨t, kept, last⟩ := State.sampleAll_at blocked low order idle .estop
  have same : t.estop = s.estop := kept.input _ rfl
  have sampled := State.sampleInput_estop (raw := low) kept.idle
  rw [same] at sampled
  exact Eq.trans last sampled

/-- The ESTOP level changes where its sample completes a run. -/
theorem State.sampleAll_estop_active {s : State} (idle : s.nonePending) :
    s.flips low .estop ↔ (s.sampleAll blocked low order).estop.active ≠ s.estop.active := by
  rw [State.sampleAll_estop blocked low order idle]
  by_cases same : low = s.estop.active
  · simp [State.flips, same]
  · by_cases short : s.estop.runCount + 1 < 5
    · simp [State.flips, estopCheck, same, short]
      omega
    · have long : 5 ≤ s.estop.runCount + 1 := Nat.not_lt.1 short
      simp [State.flips, estopCheck, same, short, long]

theorem State.sampleAll_settings {s : State} (idle : s.nonePending) : s.settingsKept (s.sampleAll blocked low order) :=
  (State.settingsKept_closed.sampleAll s blocked low order (State.free_of_idle idle)).2

theorem State.sampleAll_quiet {s : State} (idle : s.nonePending)
    (quiet : ∀ i, ¬s.flips (sampleLevel blocked low i) i) :
    s.sampleAll blocked low order = (s.sampleAll blocked low order).settledWith s := by
  rw [State.sampleAll_eq]
  exact (State.samples_quiet idle (nodup_inOrder order (by decide)) fun i _ => quiet i).settleGrants

/-- One level changes: the sample is the edge of its input, beside the counts of the others. -/
theorem State.sampleAll_edge {s : State} (idle : s.nonePending) {j : SampleInput}
    (flips : s.flips (sampleLevel blocked low j) j) (quiet : ∀ i, i ≠ j → ¬s.flips (sampleLevel blocked low i) i) :
    s.sampleAll blocked low order = (s.sampleAll blocked low order).settledWith (s.edge (sampleLevel blocked low j) j)
      ∧ (s.edge (sampleLevel blocked low j) j).agrees (s.sampleAll blocked low order) j := by
  obtain ⟨a, b, split, _⟩ := inOrder_sampleInputs_split order j
  have once : (a ++ j :: b).Nodup := split ▸ nodup_inOrder order (by decide)
  have alike := State.samples_edge (raw := sampleLevel blocked low) idle once flips fun i _ => quiet i
  rw [State.sampleAll_eq, split]
  refine ⟨alike.settleGrants, ?_⟩
  have last := alike.input j rfl
  cases j <;> exact last

end

/-- Settles O37: each input's sample finds it as it was, since the samples and the edges of the others leave it; and where
one level changes, the counts of the others do not show in its edge. -/
theorem eyeSampleFilters : Obligations.EyeSampleFilters := by
  unfold Obligations.EyeSampleFilters
  intro s blocked low order idle raw flips longer sampled
  have keeps := s.sampleAll_same [.eyes, .admission, .estop] blocked low order (by simp) (by simp) (by simp)
  obtain ⟨line, nodes⟩ := keeps .line (by simp)
  have estop := State.sampleAll_estop_active blocked low order idle
  refine ⟨s.sampleAll blocked low order, rfl, fun e _ => ?_, State.sampleAll_estop blocked low order idle,
    fun quiet still => ?_, fun e _ here quiet still => ?_, fun quiet moved => ?_, keeps .heat (by simp),
    keeps .pitch (by simp), State.sampleAll_settings blocked low order idle, line, fun n _ => nodes n⟩
  · by_cases h : flips e
    · obtain ⟨a, written⟩ := State.sampleAll_eye_flips blocked low order idle (raw := raw e) rfl h
      rw [written]
      refine ⟨?_, fun k => absurd h k, fun _ => ?_⟩
      · cases raw e <;> simp
      · cases raw e <;> simp
    · rw [State.sampleAll_eye_quiet blocked low order idle (raw := raw e) rfl h]
      exact ⟨rfl, fun _ => ⟨rfl, rfl, rfl, rfl, rfl⟩, fun k => absurd k h⟩
  · refine State.sampleAll_quiet blocked low order idle fun i => ?_
    cases i with
    | eye e => exact quiet e (Eye.mem_all e)
    | estop => exact fun h => estop.1 h still
  · obtain ⟨form, same⟩ := State.sampleAll_edge blocked low order idle (j := .eye e) here fun i other => by
      cases i with
      | eye d => exact quiet d (Eye.mem_all d) fun h => other (congrArg _ h)
      | estop => exact fun h => estop.1 h still
    exact ⟨_, exec_edge_eye here, form, same⟩
  · have here := estop.2 moved
    obtain ⟨form, same⟩ := State.sampleAll_edge blocked low order idle (j := .estop) here fun i other => by
      cases i with
      | eye d => exact quiet d (Eye.mem_all d)
      | estop => exact absurd rfl other
    exact ⟨_, exec_edge_estop here, form, same⟩

end Sys2Proof.Machine
end
section
/-! Permissions stand in RUN alone and the permit follows its condition (R90, R92, R166); RUN stands with the drive sound and
ESTOP released (R166, R170). What the executor and the owners of permissions keep of both. -/

namespace Sys2Proof.Machine

/-! ## What is kept -/

/-- What the permissions keep to: none outside RUN, the permit under its condition, the stall timer under the permit. -/
def State.regulated (s : State) : Prop := s.permissionsOnlyInRun ∧ s.permitFollows

/-- The same before the permit is worked out again (R90). -/
def State.contained (s : State) : Prop :=
  s.permissionsOnlyInRun ∧ (s.tunnel.stall.isSome = true → s.tunnel.permit = true)

/-- The drive node is present with a code other than FAULT and ESTOP, and the ESTOP input is released (R166, R170). -/
def State.driveSound (s : State) : Prop :=
  s.present .drive = true ∧ s.line.driveCode.isFault = false ∧ s.estop.active = false

/-- What leads from `s` to `t` keeps the permissions and RUN as they are to stand. -/
structure State.Steers (s t : State) : Prop where
  regulated : s.regulated → t.regulated
  safe : s.runIsSafe → t.runIsSafe

/-- `t` opens no permission that `s` has closed, and its loop state, its drive and its ESTOP level are those of `s`. -/
structure State.Eases (s t : State) : Prop where
  loop : t.executor.loop = s.executor.loop
  present : t.present .drive = s.present .drive
  code : t.line.driveCode = s.line.driveCode
  estop : t.estop.active = s.estop.active
  permit : t.tunnel.permit = true → s.tunnel.permit = true
  stall : (s.tunnel.stall.isSome = true → s.tunnel.permit = true) → t.tunnel.stall.isSome = true → t.tunnel.permit = true
  release : s.unload.release = none → t.unload.release = none
  merge : s.merge = none → t.merge = none
  grant : s.dispatch.grant = none → t.dispatch.grant = none

section
variable {s t u : State}

theorem State.Steers.refl (s : State) : s.Steers s := ⟨id, id⟩

theorem State.Steers.trans (h : s.Steers t) (k : t.Steers u) : s.Steers u :=
  ⟨fun r => k.regulated (h.regulated r), fun r => k.safe (h.safe r)⟩

theorem State.Eases.trans (h : s.Eases t) (k : t.Eases u) : s.Eases u where
  loop := k.loop.trans h.loop
  present := k.present.trans h.present
  code := k.code.trans h.code
  estop := k.estop.trans h.estop
  permit a := h.permit (k.permit a)
  stall a := k.stall (h.stall a)
  release a := k.release (h.release a)
  merge a := k.merge (h.merge a)
  grant a := k.grant (h.grant a)

/-- The tunnel and the permissions apart, what leads from `s` to `t` writes neither the loop state, the drive nor ESTOP. -/
theorem State.Eases.of_kept (h : s.Kept t) (loop : t.executor.loop = s.executor.loop)
    (permit : t.tunnel.permit = s.tunnel.permit) (stall : t.tunnel.stall = s.tunnel.stall)
    (release : s.unload.release = none → t.unload.release = none) (merge : s.merge = none → t.merge = none)
    (grant : s.dispatch.grant = none → t.dispatch.grant = none) : s.Eases t where
  loop := loop
  present := h.marks.present .drive
  code := h.marks.driveCode
  estop := by rw [h.estop]
  permit a := permit ▸ a
  stall a b := by
    rw [stall] at b
    rw [permit]
    exact a b
  release := release
  merge := merge
  grant := grant

theorem State.Eases.inRun (h : s.Eases t) : t.inRun = s.inRun := by rw [State.inRun, h.loop]; rfl

theorem State.Eases.safe (h : s.Eases t) (k : s.runIsSafe) : t.runIsSafe := fun run => by
  rw [h.present, h.code, h.estop]
  exact k (h.inRun ▸ run)

theorem State.Eases.contained (h : s.Eases t) (k : s.contained) : t.contained := by
  obtain ⟨outside, stall⟩ := k
  refine ⟨fun run => ?_, h.stall stall⟩
  obtain ⟨permit, _, release, merge, grant⟩ := outside (h.inRun ▸ run)
  have off : t.tunnel.permit = false := Bool.eq_false_iff.2 fun on => by simp [h.permit on] at permit
  have still : t.tunnel.stall = none := by
    cases runs : t.tunnel.stall with
    | none => rfl
    | some k => simp [h.stall stall (by rw [runs]; rfl)] at off
  exact ⟨off, still, h.release release, h.merge merge, h.grant grant⟩

theorem State.regulated.contained (h : s.regulated) : s.contained := ⟨h.1, h.2.2⟩

theorem State.regulated.withdrawn (h : s.regulated) : s.inRun = true ∨ s.permissionsWithdrawn := by
  cases run : s.inRun with
  | true => exact .inl rfl
  | false => exact .inr (h.1 run)

theorem State.permitCondition_outside (outside : s.inRun = false) : s.permitCondition = false := by
  simp [State.permitCondition, outside]

/-- Outside RUN with no permission there is nothing to keep to. -/
theorem State.regulated_of_withdrawn (outside : s.inRun = false) (h : s.permissionsWithdrawn) : s.regulated := by
  refine ⟨fun _ => h, ?_, fun runs => ?_⟩
  · rw [h.1, State.permitCondition_outside outside]
  · rw [h.2.1] at runs
    cases runs

/-- The permit worked out again follows its condition (R90, R92). -/
theorem State.contained.refreshed (h : s.contained) : s.refreshPermit.regulated := by
  obtain ⟨outside, _⟩ := h
  refine ⟨fun run => ?_, rfl, fun runs => ?_⟩
  · obtain ⟨_, _, release, merge, grant⟩ := outside run
    have off := State.permitCondition_outside (s := s) run
    exact ⟨off, by simp [State.refreshPermit, off], release, merge, grant⟩
  · cases on : s.permitCondition with
    | true => exact on
    | false => simp [State.refreshPermit, on] at runs

/-- What opens no permission, turns the permit neither on nor off and leaves the back-pressure as it is. -/
theorem State.Eases.steers (h : s.Eases t) (permit : t.tunnel.permit = s.tunnel.permit)
    (pressure : t.backPressure = s.backPressure) : s.Steers t := by
  refine ⟨fun r => ?_, h.safe⟩
  obtain ⟨outside, stall⟩ := h.contained r.contained
  refine ⟨outside, ?_, stall⟩
  rw [permit, State.permitCondition, h.inRun, pressure]
  exact r.2.1

/-- STARTING ends with the drive sound and ESTOP released (R167). -/
theorem State.driveSound_of_starting (h : s.startingCondition = true) : s.driveSound := by
  simp only [State.startingCondition, Bool.and_eq_true, Bool.or_eq_true, decide_eq_true_eq, Bool.not_eq_true'] at h
  obtain ⟨⟨⟨_, present⟩, code⟩, estop⟩ := h
  refine ⟨present, ?_, estop⟩
  rcases code with code | code <;> rw [code] <;> rfl

/-- What ends outside RUN, with no permission left that stood outside it or was to be withdrawn (R166). -/
theorem State.steers_outside (outside : t.inRun = false)
    (left : s.inRun = true ∨ s.permissionsWithdrawn → t.permissionsWithdrawn) : s.Steers t :=
  ⟨fun r => State.regulated_of_withdrawn outside (left r.withdrawn), fun _ run => by simp [outside] at run⟩

/-- Control that stands in RUN only where the drive was sound and ESTOP released keeps RUN safe. -/
theorem State.Controlled.safe (h : s.Controlled t) (sound : t.inRun = true → s.driveSound) : t.runIsSafe := fun run => by
  rw [h.present, h.marks.driveCode, h.estop]
  exact sound run

theorem State.Controlled.backPressure (h : s.Controlled t) : t.backPressure = s.backPressure := by
  simp only [State.backPressure, h.lanes, h.working]

/-- Control that leaves the loop state and the permissions. -/
theorem State.Controlled.steers (h : s.Controlled t) (loop : t.executor.loop = s.executor.loop) (k : s.permissionsKept t) :
    s.Steers t := by
  obtain ⟨permit, stall, unload, merge, dispatch⟩ := k
  exact (State.Eases.of_kept (.of_controlled h) loop permit stall (by rw [unload]; exact id) (by rw [merge]; exact id)
    (by rw [dispatch]; exact id)).steers permit h.backPressure

end

/-! ## The executor's state and the decisions -/

section
variable (s : State)

theorem State.withExecutor_steers (x : Executor) (loop : x.loop = s.executor.loop) : s.Steers (s.withExecutor x) :=
  (s.withExecutor_controlled x).steers loop ⟨rfl, rfl, rfl, rfl, rfl⟩

theorem State.raiseMark_steers (n : Node) : s.Steers (s.raiseMark n) :=
  (s.raiseMark_controlled n).steers (by simp) (by simp [State.permissionsKept])

theorem State.writeOutcome_steers (c : LineCommand) (k : OutcomeKind) (i : Issuer) (f : Option CommitFailure) :
    s.Steers (s.writeOutcome c k i f) :=
  (s.writeOutcome_controlled c k i f).steers (by simp) (by simp [State.permissionsKept])

theorem State.draw_steers : s.Steers s.draw := s.draw_controlled.steers rfl ⟨rfl, rfl, rfl, rfl, rfl⟩

/-- From one loop state other than RUN to another. -/
theorem State.relooped_steers {x : Executor} (here : s.inRun = false) (there : x.loop.isRun = false) :
    s.Steers (s.withExecutor x) :=
  State.steers_outside there fun h => h.resolve_left (by simp [here])

theorem State.enterLoop_steers {l : LoopState} (there : l.isRun = false) : s.Steers (s.enterLoop l) := by
  refine State.steers_outside (by simpa [State.inRun] using there) fun h => ?_
  cases run : s.inRun with
  | true => exact s.enterLoop_withdrawn l run
  | false =>
    rw [run] at h
    unfold State.enterLoop
    rw [run]
    exact h.resolve_left (by simp)

/-- A decision is taken in RUN alone, and writes neither the executor nor the tunnel. -/
theorem State.steers_of_decision {t : State} (h : s.Controlled t) (executor : t.executor = s.executor)
    (tunnel : t.tunnel = s.tunnel) (outside : s.inRun = false → t = s) : s.Steers t := by
  have same : t.inRun = s.inRun := by rw [State.inRun, executor]; rfl
  cases run : s.inRun with
  | false =>
    rw [outside run]
    exact .refl s
  | true =>
    refine ⟨fun r => ⟨fun a => by simp [same, run] at a, ?_, ?_⟩, fun k => h.safe fun _ => k run⟩
    · rw [tunnel, State.permitCondition, same, h.backPressure]
      exact r.2.1
    · rw [tunnel]
      exact r.2.2

theorem State.decideRelease_steers : s.Steers s.decideRelease := by
  obtain ⟨_, form⟩ := s.decideRelease_form
  exact s.steers_of_decision s.decideRelease_controlled (by simp) (by rw [form])
    fun run => (State.decideRelease_eq_self s).2 (.inl (by simp [run]))

theorem State.decideMerge_steers : s.Steers s.decideMerge := by
  obtain ⟨_, form⟩ := s.decideMerge_form
  exact s.steers_of_decision s.decideMerge_controlled (by simp) (by rw [form])
    fun run => (State.decideMerge_eq_self s).2 (.inl (by simp [run]))

theorem State.decideDispatch_steers : s.Steers s.decideDispatch := by
  obtain ⟨_, form⟩ := s.decideDispatch_form
  exact s.steers_of_decision s.decideDispatch_controlled (by simp) (by rw [form])
    fun run => (State.decideDispatch_eq_self s).2 (.inl (by simp [run]))

theorem State.decideAll_steers : s.Steers s.decideAll :=
  (s.decideRelease_steers.trans (State.decideMerge_steers _)).trans (State.decideDispatch_steers _)

theorem State.decideAfter_steers (before : State) : s.Steers (s.decideAfter before) := by
  obtain ⟨_, _, _, form⟩ := s.decideAfter_form before
  exact s.steers_of_decision (s.decideAfter_controlled before) (s.decideAfter_executor before) (by rw [form])
    State.decideAfter_outsideRun

/-! ## The drain, STARTING and HOLDING (R167, R168, R175) -/

theorem State.completeDrain_steers (i : Issuer) : s.Steers (s.completeDrain i) :=
  ((s.withExecutor_steers _ (by rfl)).trans (State.enterLoop_steers _ rfl)).trans (State.writeOutcome_steers _ _ _ _ _)

theorem State.drainTest_steers : s.Steers s.drainTest := by
  unfold State.drainTest
  repeat' split
  · exact s.completeDrain_steers _
  all_goals exact .refl s

theorem State.reacting_steers {f : State → State} (h : ∀ t : State, t.Steers (f t)) : s.Steers (s.reacting f) :=
  State.reacting_keeps (P := s.Steers) (fun t k => k.trans t.draw_steers) (fun t k => k.trans t.drainTest_steers)
    (fun t k => k.trans (h t)) (.refl s)

/-- RUN is entered where the drive is sound and ESTOP released (R167), and the permit is worked out at the entry (R90). -/
theorem State.enterRun_steers {s : State} {i : Issuer} (outside : s.inRun = false) (may : s.startingCondition = true) :
    s.Steers (s.enterRun i) := by
  have noted := (s.withExecutor_controlled { s.executor with loop := .run, heatTimer := none }).trans
    (State.writeOutcome_controlled _ .run .done i none)
  have entered : s.Steers
      ((s.withExecutor { s.executor with loop := .run, heatTimer := none }).writeOutcome .run .done i).refreshPermit := by
    refine ⟨fun r => State.contained.refreshed ⟨fun run => ?_, fun runs => ?_⟩,
      fun _ => (noted.trans (State.refreshPermit_controlled _)).safe fun _ => State.driveSound_of_starting may⟩
    · simp [State.inRun, LoopState.isRun] at run
    · have still : s.tunnel.stall = none := (r.1 outside).2.1
      rw [State.writeOutcome_tunnel] at runs
      exact absurd runs (by simp [State.withExecutor, still])
  exact entered.trans (State.reacting_steers _ State.decideAll_steers)

theorem State.startingTest_steers : s.Steers s.startingTest := by
  unfold State.startingTest
  split
  · rename_i loop
    split
    · exact State.enterRun_steers (by simp [State.inRun, loop, LoopState.isRun]) ‹_›
    · exact .refl s
  all_goals exact .refl s

theorem State.endHolding_steers {s : State} (i : Issuer) (outside : s.inRun = false) : s.Steers (s.endHolding i) :=
  ((s.relooped_steers outside rfl).trans (State.writeOutcome_steers _ _ _ _ _)).trans (State.drainTest_steers _)

theorem State.holdingTest_steers : s.Steers s.holdingTest := by
  unfold State.holdingTest
  split
  · rename_i loop
    split
    · exact .refl s
    · exact State.endHolding_steers _ (by simp [State.inRun, loop, LoopState.isRun])
  all_goals exact .refl s

/-! ## The commands as they are taken (R163, R165) -/

theorem State.takeClear_steers (i : Issuer) : s.Steers (s.takeClear i) := by
  unfold State.takeClear
  split
  · rename_i loop
    split
    · exact (s.relooped_steers (by simp [State.inRun, loop, LoopState.isRun]) rfl).trans
        (State.writeOutcome_steers _ _ _ _ _)
    · exact s.writeOutcome_steers _ _ _ _
  all_goals first
    | exact s.writeOutcome_steers _ _ _ _
    | exact .refl s

theorem State.clearDrain_steers : s.Steers s.clearDrain := by
  unfold State.clearDrain
  dsimp only
  split
  · exact (s.withExecutor_steers _ (by rfl)).trans (State.writeOutcome_steers _ _ _ _ _)
  · exact s.withExecutor_steers _ (by rfl)

theorem State.takeSetup_steers (i : Issuer) : s.Steers (s.takeSetup i) := by
  unfold State.takeSetup
  split
  · rename_i loop
    have outside : s.clearDrain.inRun = false := by
      rw [State.inRun, State.clearDrain_executor, loop]
      rfl
    have idle : s.clearDrain.Steers { s.clearDrain with
        executor := { s.clearDrain.executor with loop := .idle }
        dispatch := { s.clearDrain.dispatch with deferred := PerStation.const false } } :=
      State.steers_outside rfl fun h => h.resolve_left (by simp [outside])
    exact (s.clearDrain_steers.trans idle).trans (State.writeOutcome_steers _ _ _ _ _)
  all_goals first
    | exact s.writeOutcome_steers _ _ _ _
    | exact .refl s

/-- A COMMIT that applies the settings ends in READY, with the permit off (R174). -/
theorem State.takeCommit_steers (i : Issuer) : s.Steers (s.takeCommit i) := by
  unfold State.takeCommit
  split
  · rename_i loop
    split
    · exact s.writeOutcome_steers _ _ _ _
    · have outside : s.applySettings.inRun = false := by simp [State.inRun, State.applySettings, loop, LoopState.isRun]
      have ready : (s.applySettings.enterLoop .ready).refreshPermit.inRun = false := by simp [State.inRun, LoopState.isRun]
      refine State.Steers.trans (State.steers_outside ready fun h => ?_) (State.writeOutcome_steers _ _ _ _ _)
      have withdrawn : s.applySettings.permissionsWithdrawn := h.resolve_left (by simp [State.inRun, loop, LoopState.isRun])
      have entered := s.applySettings.enterLoop_steers (l := .ready) rfl
      exact (State.contained.refreshed (entered.regulated
        (State.regulated_of_withdrawn outside withdrawn)).contained).1 ready
  all_goals first
    | exact s.writeOutcome_steers _ _ _ _
    | exact .refl s

theorem State.takeHold_steers (i : Issuer) : s.Steers (s.takeHold i) := by
  unfold State.takeHold
  cases loop : s.executor.loop with
  | starting o j =>
    exact (((s.relooped_steers (by simp [State.inRun, loop, LoopState.isRun]) rfl).trans
      (State.writeOutcome_steers _ _ _ _ _)).trans (State.writeOutcome_steers _ _ _ _ _)).trans (State.drainTest_steers _)
  | run =>
    exact (((s.enterLoop_steers rfl).trans (State.withExecutor_steers _ _ (by rfl))).trans
      (State.writeOutcome_steers _ _ _ _ _)).trans (State.holdingTest_steers _)
  | _ => exact s.writeOutcome_steers _ _ _ _

theorem State.takeDrain_steers (i : Issuer) : s.Steers (s.takeDrain i) := by
  unfold State.takeDrain
  repeat' split
  all_goals first
    | exact .refl s
    | exact s.completeDrain_steers _
    | exact s.writeOutcome_steers _ _ _ _
    | exact (s.withExecutor_steers _ (by rfl)).trans (State.writeOutcome_steers _ _ _ _ _)

theorem State.takeRun_steers (i : Issuer) : s.Steers (s.takeRun i) := by
  have begin_ (o : Origin) (outside : s.inRun = false) : s.Steers (s.beginStarting o i) :=
    ((s.relooped_steers outside rfl).trans (State.writeOutcome_steers _ _ _ _ _)).trans (State.startingTest_steers _)
  unfold State.takeRun
  cases loop : s.executor.loop with
  | ready =>
    dsimp only
    split
    · exact s.writeOutcome_steers _ _ _ _
    · exact begin_ _ (by simp [State.inRun, loop, LoopState.isRun])
  | hold =>
    dsimp only
    split
    · exact s.writeOutcome_steers _ _ _ _
    · exact begin_ _ (by simp [State.inRun, loop, LoopState.isRun])
  | starting o j => exact .refl s
  | holding j => exact .refl s
  | _ => exact s.writeOutcome_steers _ _ _ _

theorem State.applyCommand_steers (c : LineCommand) (i : Issuer) : s.Steers (s.applyCommand c i) := by
  cases c with
  | stop =>
    obtain ⟨outside, withdrawn⟩ := State.takeStop_withdrawn (s := s) (i := i)
    exact State.steers_outside outside withdrawn
  | clear => exact s.takeClear_steers i
  | setup => exact s.takeSetup_steers i
  | commit => exact s.takeCommit_steers i
  | hold => exact s.takeHold_steers i
  | drain => exact s.takeDrain_steers i
  | run => exact s.takeRun_steers i

theorem State.setBit_steers (c : LineCommand) (i : Issuer) : s.Steers (s.setBit c i) := by
  unfold State.setBit
  split
  · exact .refl s
  · exact s.withExecutor_steers _ (by rfl)

theorem State.cancelBit_steers (c : LineCommand) : s.Steers (s.cancelBit c) := by
  unfold State.cancelBit
  split
  · exact (s.withExecutor_steers _ (by rfl)).trans (State.writeOutcome_steers _ _ _ _ _)
  · exact .refl s

/-- What every one of a list of events keeps, all of them keep. -/
theorem State.foldl_steers {α : Type} {f : State → α → State} (h : ∀ (t : State) (a : α), t.Steers (f t a)) (as : List α) :
    s.Steers (as.foldl f s) := by
  induction as generalizing s with
  | nil => exact .refl s
  | cons a as ih => exact (h s a).trans (ih _)

theorem State.take_steers (c : LineCommand) (i : Issuer) : s.Steers (s.take c i) :=
  ((s.withExecutor_steers _ (by rfl)).trans (State.foldl_steers _ State.cancelBit_steers _)).trans
    (State.applyCommand_steers _ c i)

theorem State.takeUpTo_steers (k : Nat) : s.Steers (State.takeUpTo k s) := by
  induction k generalizing s with
  | zero => exact .refl s
  | succ k ih =>
    unfold State.takeUpTo
    repeat' split
    · exact (s.take_steers _ _).trans (ih _)
    all_goals exact .refl s

theorem State.takeCommands_steers : s.Steers s.takeCommands := s.takeUpTo_steers 7

theorem State.raiseHold_steers (c : HoldCause) : s.Steers (s.raiseHold c) :=
  (((s.withExecutor_steers _ (by rfl)).trans (State.raiseMark_steers _ _)).trans (State.setBit_steers _ _ _)).trans
    (State.takeCommands_steers _)

theorem State.raiseStop_steers (c : StopCause) : s.Steers (s.raiseStop c) :=
  (((s.withExecutor_steers _ (by rfl)).trans (State.raiseMark_steers _ _)).trans (State.setBit_steers _ _ _)).trans
    (State.takeCommands_steers _)

theorem State.raise_steers (c : Option Cause) : s.Steers (s.raise c) := by
  unfold State.raise
  split
  · exact s.raiseHold_steers _
  · exact s.raiseStop_steers _
  · exact .refl s

/-- A pending STOP is taken first, and in every loop state: RUN is left, and entered again only through STARTING. -/
theorem State.takeCommands_stop {s : State} {i : Issuer} (h : s.executor.vector.get .stop = some i) :
    s.takeCommands.runIsSafe := by
  have next : s.nextCommand = some .stop := by simp [State.nextCommand, LineCommand.all, h]
  have stopped : (s.take .stop i).inRun = false := State.takeStop_withdrawn.1
  have form : s.takeCommands = State.takeUpTo 6 (s.take .stop i) := by
    rw [State.takeCommands, State.takeUpTo, next]
    dsimp only
    rw [h]
  rw [form]
  exact (State.takeUpTo_steers _ 6).safe fun run => by simp [stopped] at run

/-- A stop cause leaves RUN safe, whatever the drive and ESTOP are (R162, R170). -/
theorem State.raiseStop_safe (c : StopCause) : (s.raiseStop c).runIsSafe := by
  unfold State.raiseStop
  generalize (s.withExecutor { s.executor with stopCauses := s.executor.stopCauses.add c }).raiseMark .panel = t
  have pending : ∃ i, (t.setBit .stop .internal).executor.vector.get .stop = some i := by
    unfold State.setBit
    split
    · exact Option.isSome_iff_exists.1 ‹_›
    · exact ⟨.internal, by simp⟩
  obtain ⟨i, h⟩ := pending
  exact State.takeCommands_stop h

/-! ## The executor's own events (R167, R168) -/

theorem State.heatTimerExpiry_steers : s.Steers s.heatTimerExpiry := by
  unfold State.heatTimerExpiry
  split
  · rename_i i _ loop _
    have outside : s.inRun = false := by simp [State.inRun, loop, LoopState.isRun]
    split
    · exact ((s.relooped_steers outside rfl).trans (State.writeOutcome_steers _ _ _ _ _)).trans
        (State.takeCommands_steers _)
    · exact (((s.relooped_steers outside rfl).trans (State.writeOutcome_steers _ _ _ _ _)).trans
        (State.drainTest_steers _)).trans (State.takeCommands_steers _)
  · exact .refl s

theorem State.settleTimerExpiry_steers : s.Steers s.settleTimerExpiry := by
  unfold State.settleTimerExpiry
  split
  · rename_i loop _
    exact (State.endHolding_steers _ (by simp [State.inRun, loop, LoopState.isRun])).trans (State.takeCommands_steers _)
  · exact .refl s

end

end Sys2Proof.Machine
end
section
/-! What every command keeps of the permissions and of RUN: a movement of the racks opens no permission, and the permit is
worked out again where every block sees it (R14, R44, R90); a change of the drive's code or presence, or of ESTOP, that
ends the safety of RUN gives a STOP with it (R170). -/

namespace Sys2Proof.Machine

/-! ## An event that every block sees (R14, R44) -/

section
variable {s t u : State}

/-- What keeps RUN and the permit: the loop state, the drive, the ESTOP level, the permit and its stall timer. -/
def State.watched (s : State) : LoopState × Bool × DriveCode × Bool × Bool × Option Nat :=
  (s.executor.loop, s.present .drive, s.line.driveCode, s.estop.active, s.tunnel.permit, s.tunnel.stall)

/-- The release and the two grants open no more in `t` than in `s`. -/
def State.staysClosed (s t : State) : Prop :=
  (s.unload.release = none → t.unload.release = none) ∧ (s.merge = none → t.merge = none)
    ∧ (s.dispatch.grant = none → t.dispatch.grant = none)

/-- What is written beside them, with no permission opened. -/
theorem State.Eases.of_rest (watched : t.watched = s.watched) (closed : s.staysClosed t) : s.Eases t := by
  simp only [State.watched, Prod.mk.injEq] at watched
  obtain ⟨loop, present, code, estop, permit, stall⟩ := watched
  obtain ⟨release, merge, grant⟩ := closed
  exact ⟨loop, present, code, estop, fun a => permit ▸ a, fun a b => by
    rw [stall] at b
    rw [permit]
    exact a b, release, merge, grant⟩

/-- The same with the back-pressure as it is. -/
theorem State.steers_of_rest (watched : t.watched = s.watched) (pressure : t.backPressure = s.backPressure)
    (closed : s.staysClosed t) : s.Steers t := by
  have permit := watched
  simp only [State.watched, Prod.mk.injEq] at permit
  obtain ⟨_, _, _, _, permit, _⟩ := permit
  exact (State.Eases.of_rest watched closed).steers permit pressure

theorem State.takeNewHead_eases (before : State) : s.Eases (s.takeNewHead before) :=
  .of_kept (s.takeNewHead_kept before) (by simp) (by simp) (by simp)
    (by rw [State.takeNewHead_release]; exact id) (by simp) (by simp)

/-- Whatever moves with no permission opened, the permit follows its condition once every block has seen it. -/
theorem State.Eases.observe (h : s.Eases u) (before : State) (cause : Option Cause) :
    s.Steers (u.observe before cause) := by
  have seen := h.trans (u.takeNewHead_eases before)
  have permit : s.Steers (u.takeNewHead before).refreshPermit :=
    ⟨fun r => (seen.contained r.contained).refreshed, fun k => seen.safe k⟩
  exact permit.trans (State.reacting_steers _ fun t => (t.decideAfter_steers before).trans (State.raise_steers _ cause))

theorem State.updateRecord_eases (s : State) (n : RecNo) (f : Record → Record) : s.Eases (s.updateRecord n f) :=
  .of_kept (s.updateRecord_kept n f) (by simp) (by simp) (by simp) (by simp) (by simp) (by simp)

theorem State.recordAnomaly_eases (s : State) (e : Eye) (k : AnomalyKind) (r : Option RecNo) :
    s.Eases (s.recordAnomaly e k r) :=
  .of_kept (s.recordAnomaly_kept e k r) (by simp) (by simp) (by simp) (by simp) (by simp) (by simp)

theorem State.updateRecord_steers (s : State) (n : RecNo) (f : Record → Record) : s.Steers (s.updateRecord n f) :=
  (s.updateRecord_eases n f).steers (by simp) (by simp [State.backPressure])

theorem State.recordAnomaly_steers (s : State) (e : Eye) (k : AnomalyKind) (r : Option RecNo) :
    s.Steers (s.recordAnomaly e k r) :=
  (s.recordAnomaly_eases e k r).steers (by simp) (by simp [State.backPressure])

end

/-! ## Passages and the trackpoints (R36 to R44, R53 to R63) -/

section
variable (s : State) (e : Eye)

/-- A passage ends permissions and opens none (R36). -/
theorem State.noted_eases : s.Eases (s.noted e) := by
  obtain ⟨_, _, _, moved⟩ := s.reconcile_form e
  have tunnel : (s.noted e).tunnel = (s.endPermission e).tunnel := by
    rw [State.noted, State.recordAnomalies_tunnel, moved]
  have ended : (s.endPermission e).tunnel.permit = s.tunnel.permit ∧ (s.endPermission e).tunnel.stall = s.tunnel.stall := by
    obtain ⟨_, _, _, _, form⟩ := s.endPermission_form e
    rw [form]
    exact ⟨rfl, rfl⟩
  have closed : (s.unload.release = none → (s.endPermission e).unload.release = none)
      ∧ (s.merge = none → (s.endPermission e).merge = none)
      ∧ (s.dispatch.grant = none → (s.endPermission e).dispatch.grant = none) := by
    unfold State.endPermission
    repeat' split
    all_goals simp +contextual
  obtain ⟨release, merge, grant⟩ := closed
  exact .of_kept (s.noted_kept e) (by simp) (by rw [tunnel, ended.1]) (by rw [tunnel, ended.2])
    (by rw [State.noted_release]; exact release) (by rw [State.noted_merge]; exact merge)
    (by rw [State.noted_dispatch]; exact grant)

theorem State.passage_steers : s.Steers (s.passage e) := (s.noted_eases e).observe s _

theorem State.mapHeadWindow_steers (f : Window → Window) : s.Steers (s.withLanes (s.lanes.mapHeadWindow f)) := by
  refine State.Eases.steers (.of_rest rfl ⟨id, id, id⟩) rfl ?_
  obtain ⟨form, racks⟩ := s.lanes.mapHeadWindow_racks f
  have length := congrArg List.length racks
  rw [List.length_map, List.length_map] at length
  rw [form]
  simp only [State.backPressure, State.withLanes, Lanes.lastCell, length]

theorem State.mergeBlocked_steers : s.Steers (s.mergeBlocked e) := by
  have withdrawn : s.Steers { s with merge := none } := State.steers_of_rest rfl rfl ⟨id, fun _ => rfl, id⟩
  rcases s.mergeBlocked_cases e with ⟨_, k⟩ | ⟨g, _, _, _, k⟩ | ⟨g, grant, _, _, k⟩ <;> rw [k]
  · exact .refl s
  · exact withdrawn.trans (State.decideMerge_steers _)
  · exact State.steers_of_rest rfl rfl ⟨id, fun none => by simp [grant] at none, id⟩

theorem State.dispatchBlocked_steers : s.Steers s.dispatchBlocked := by
  rcases s.dispatchBlocked_cases with ⟨_, k⟩ | ⟨g, _, _, _, k⟩ | ⟨g, grant, _, k⟩ <;> rw [k]
  · exact .refl s
  · exact State.steers_of_rest rfl rfl ⟨id, id, fun _ => rfl⟩
  · exact State.steers_of_rest rfl rfl ⟨id, id, fun none => by simp [grant] at none⟩

theorem State.handBlocked_steers : s.Steers (s.handBlocked e) := by
  cases e with
  | outfeed x => exact s.mergeBlocked_steers (.outfeed x)
  | sp => exact s.mergeBlocked_steers .sp
  | en => exact .refl s
  | ex => exact s.mapHeadWindow_steers _
  | ul => exact .refl s
  | ds => exact s.dispatchBlocked_steers

theorem State.mapMergeWindow_steers (f : Window → Window) : s.Steers (s.mapMergeWindow e f) := by
  unfold State.mapMergeWindow
  split
  · rename_i grant
    split
    · exact State.steers_of_rest rfl rfl ⟨id, fun none => by simp [grant] at none, id⟩
    · exact .refl s
  · exact .refl s

theorem State.handDebris_steers : s.Steers (s.handDebris e) := by
  cases e with
  | outfeed x => exact s.mapMergeWindow_steers (.outfeed x) (·.onDebris s.working.mergeWindow)
  | sp => exact s.mapMergeWindow_steers .sp (·.onDebris s.working.mergeWindow)
  | en => exact .refl s
  | ex => exact s.mapHeadWindow_steers _
  | ul => exact .refl s
  | ds => exact State.steers_of_rest rfl rfl ⟨id, id, fun h => by simp [State.handDebris, State.mapDispatchWindow, h]⟩

theorem State.setEye_steers (t : Trackpoint) : s.Steers (s.setEye e t) := State.steers_of_rest rfl rfl ⟨id, id, id⟩

theorem State.blockedEdge_steers : s.Steers (s.blockedEdge e) := (s.setEye_steers e _).trans (State.handBlocked_steers _ e)

theorem State.handOn_steers (c : Classification) : s.Steers (s.handOn e c) := by
  cases c with
  | one => exact s.passage_steers e
  | debris => exact (s.recordAnomaly_steers e .debris none).trans (State.handDebris_steers _ e)
  | double =>
    exact ((s.recordAnomaly_steers e .double none).trans (State.passage_steers _ e)).trans (State.passage_steers _ e)

theorem State.endBlockage_steers : s.Steers (s.endBlockage e) := by
  have ended := s.setEye_steers e { s.eyes.get e with blockage := none }
  cases e with
  | outfeed x => exact ended.trans (State.decideMerge_steers _)
  | sp => exact ended.trans (State.decideMerge_steers _)
  | ul => exact ended.trans (State.decideRelease_steers _)
  | ds => exact ended.trans (State.decideDispatch_steers _)
  | en => exact ended
  | ex => exact ended

theorem State.clearEdge_steers : s.Steers (s.clearEdge e) := by
  unfold State.clearEdge
  dsimp only
  split
  · exact ((s.setEye_steers e _).trans (State.handOn_steers _ e _)).trans (State.endBlockage_steers _ e)
  · exact s.setEye_steers e _

theorem State.declareJam_steers : s.Steers (s.declareJam e) := by
  unfold State.declareJam
  dsimp only
  split
  · exact ((s.setEye_steers e _).trans (State.recordAnomaly_steers _ _ _ _)).trans (State.raiseHold_steers _ _)
  · exact .refl s

theorem State.sampleEye_steers (raw : Bool) : s.Steers (s.sampleEye e raw) := by
  unfold State.sampleEye
  dsimp only
  repeat' split
  · exact s.setEye_steers e _
  · exact s.setEye_steers e _
  · exact s.blockedEdge_steers e
  · exact s.clearEdge_steers e

/-! ## The ESTOP input (R70 to R72) -/

/-- What ends the safety of RUN is no matter where a STOP comes with it: the permissions do not read it. -/
theorem State.steers_raiseStop {s t : State} (regulated : s.regulated → t.regulated) (c : StopCause) :
    s.Steers (t.raiseStop c) :=
  ⟨fun r => (t.raiseStop_steers c).regulated (regulated r), fun _ => t.raiseStop_safe c⟩

theorem State.estopOn_steers : s.Steers s.estopOn :=
  State.steers_raiseStop (s := s) (t := { s with estop := ⟨true, 0⟩ }) id .estop

theorem State.estopOff_steers : s.Steers s.estopOff := by
  have released : s.Steers { s with estop := ⟨false, 0⟩ } := by
    refine ⟨fun r => r, fun safe run => ?_⟩
    obtain ⟨present, code, _⟩ := safe run
    exact ⟨present, code, rfl⟩
  exact (released.trans (State.startingTest_steers _)).trans (State.takeCommands_steers _)

theorem State.sampleEstop_steers (low : Bool) : s.Steers (s.sampleEstop low) := by
  unfold State.sampleEstop
  repeat' split
  · exact State.steers_of_rest rfl rfl ⟨id, id, id⟩
  · exact State.steers_of_rest rfl rfl ⟨id, id, id⟩
  · exact s.estopOn_steers
  · exact s.estopOff_steers

theorem State.settleGrants_steers : s.Steers s.settleGrants :=
  State.steers_of_rest rfl rfl ⟨id, fun h => by simp [h], fun h => by simp [h]⟩

theorem State.sampleAll_steers (blocked : List Eye) (low : Bool) (order : List SampleInput) :
    s.Steers (s.sampleAll blocked low order) := by
  refine State.Steers.trans (s.foldl_steers (fun t i => ?_) (inOrder order sampleInputs)) (State.settleGrants_steers _)
  cases i with
  | eye e => exact t.sampleEye_steers e _
  | estop => exact t.sampleEstop_steers low

end

/-! ## The tunnel, the zones and the timers (chapters 4, 5 and 7) -/

section
variable (s : State)

theorem State.leaveTunnel_eases : s.Eases s.leaveTunnel.1 := by
  unfold State.leaveTunnel
  split
  · rename_i n _
    have judged := s.updateRecord_eases n (·.judged s.working)
    have joined (l : Lanes) : s.Eases ((s.updateRecord n (·.judged s.working)).withLanes l) :=
      judged.trans (.of_rest rfl ⟨id, id, id⟩)
    dsimp only
    repeat' split
    · exact (joined _).trans (State.recordAnomaly_eases _ _ _ _)
    · exact joined _
    · exact joined _
  · exact .of_rest rfl ⟨id, id, id⟩

/-- A step starts the stall timer again under the permit alone (R92). -/
theorem State.stepTunnel_steers : s.Steers s.stepTunnel := by
  refine State.Eases.observe (u := { s.leaveTunnel.1.withLanes s.leaveTunnel.1.lanes.shifted with
    tunnel := { s.leaveTunnel.1.tunnel with
      admissionUsed := false
      stall := if s.leaveTunnel.1.tunnel.permit then some s.leaveTunnel.1.working.stallLimit else s.leaveTunnel.1.tunnel.stall
      pitch := s.leaveTunnel.1.working.pitchCounts } }) (s.leaveTunnel_eases.trans ?_) s _
  refine ⟨rfl, rfl, rfl, rfl, id, fun under runs => ?_, id, id, id⟩
  show s.leaveTunnel.1.tunnel.permit = true
  by_contra off
  exact off (under (by simpa [off] using runs))

theorem State.countEncoder_steers : s.Steers s.countEncoder := by
  unfold State.countEncoder
  split
  · exact s.stepTunnel_steers
  · exact State.steers_of_rest rfl rfl ⟨id, id, id⟩

theorem State.exitMissing_steers (n : RecNo) : s.Steers (s.exitMissing n) := by
  unfold State.exitMissing
  split
  · have moved (l : Lanes) : s.Eases (s.withLanes l) := .of_rest rfl ⟨id, id, id⟩
    exact ((moved _).trans (State.recordAnomaly_eases _ _ _ _)).observe s _
  · exact .refl s

theorem State.tunnelStall_steers : s.Steers s.tunnelStall := by
  unfold State.tunnelStall
  split
  · have stopped : s.Eases { s with tunnel := { s.tunnel with stall := none } } :=
      ⟨rfl, rfl, rfl, rfl, id, fun _ runs => by simp at runs, id, id, id⟩
    exact (stopped.steers rfl rfl).trans (State.raiseHold_steers _ _)
  · exact .refl s

theorem State.creditSample_steers : s.Steers s.creditSample :=
  have sampled (h : Heat) : s.Steers { s with heat := h } := State.steers_of_rest rfl rfl ⟨id, id, id⟩
  (sampled _).trans (State.foldl_steers _ (fun t p => t.updateRecord_steers p.1 _) s.rackZones)

theorem State.mergeTimeout_steers : s.Steers s.mergeTimeout := by
  unfold State.mergeTimeout
  repeat' split
  · have withdrawn : s.Steers { s with merge := none } := State.steers_of_rest rfl rfl ⟨id, fun _ => rfl, id⟩
    have marked (t : State) (src : MergeSource) : t.Steers (t.markMerge src) :=
      State.steers_of_rest rfl rfl ⟨id, fun h => by simp [h], id⟩
    exact ((withdrawn.trans (State.recordAnomaly_steers _ _ _ _)).trans (State.decideMerge_steers _)).trans (marked _ _)
  all_goals exact .refl s

theorem State.dispatchTimeout_steers : s.Steers s.dispatchTimeout := by
  unfold State.dispatchTimeout
  repeat' split
  · have withdrawn : s.Steers { s with dispatch := { s.dispatch with grant := none } } :=
      State.steers_of_rest rfl rfl ⟨id, id, fun _ => rfl⟩
    have marked (t : State) (r : DispatchRound) : t.Steers (t.markDispatch r) :=
      State.steers_of_rest rfl rfl ⟨id, id, fun h => by simp [h]⟩
    exact ((withdrawn.trans (State.recordAnomaly_steers _ _ _ _)).trans (State.decideDispatch_steers _)).trans (marked _ _)
  all_goals exact .refl s

theorem State.countTimers_steers : s.Steers s.countTimers := by
  have eased : s.Eases s.countTimers :=
    ⟨rfl, rfl, rfl, rfl, id, fun under runs => under (by simpa [State.countTimers, countDown] using runs), id,
      fun none => by simp [State.countTimers, none], fun none => by simp [State.countTimers, none]⟩
  refine eased.steers rfl ?_
  unfold State.backPressure State.countTimers
  dsimp only
  split <;> simp [Lanes.lastCell]

theorem State.when_steers (due : Bool) {f : State → State} (h : ∀ t : State, t.Steers (f t)) : s.Steers (s.when due f) := by
  unfold State.when
  split
  · exact h s
  · exact .refl s

theorem State.beforeExits_steers : s.Steers s.beforeExits :=
  (s.countTimers_steers.trans (State.foldl_steers _ (fun t e => t.when_steers _ fun u => u.declareJam_steers e) Eye.all)).trans
    (State.when_steers _ _ State.creditSample_steers)

theorem State.afterExits_steers : s.Steers s.afterExits :=
  ((((s.when_steers _ State.tunnelStall_steers).trans (State.when_steers _ _ State.mergeTimeout_steers)).trans
    (State.when_steers _ _ State.dispatchTimeout_steers)).trans (State.when_steers _ _ State.heatTimerExpiry_steers)).trans
    (State.when_steers _ _ State.settleTimerExpiry_steers)

/-- A millisecond on an empty queue (notes/assumptions/5.md). -/
theorem State.tick_steers : s.Steers s.tick := by
  rw [State.tick_eq]
  exact (s.beforeExits_steers.trans (State.foldl_steers _ State.exitMissing_steers _)).trans (State.afterExits_steers _)

end

end Sys2Proof.Machine
end
section
/-! Permissions and RUN through every request, every frame end and every step (R90, R92, R166, R170). -/

namespace Sys2Proof.Machine

/-! ## The requests (R193 to R201) -/

section
variable (s : State)

theorem State.setNode_steers (n : Node) (v : NodeLine) (h : n ≠ .drive ∨ v.present = s.present n) :
    s.Steers (s.setNode n v) := by
  have present : (s.setNode n v).present .drive = s.present .drive := by
    rw [State.setNode_present]
    split
    · rename_i drive
      rw [h.resolve_left (by simp [← drive]), ← drive]
    · rfl
  refine State.steers_of_rest ?_ rfl ⟨id, id, id⟩
  rw [State.watched, present]
  rfl

theorem State.serveStatus_steers (n : Node) : s.Steers (s.serveStatus n).state := by
  have marks (eyes : PerEye Trackpoint) : s.Steers { s with eyes := eyes } := State.steers_of_rest rfl rfl ⟨id, id, id⟩
  simp only [State.serveStatus]
  split
  · exact (marks _).trans (State.setNode_steers _ n _ (.inr (by rfl)))
  · exact s.setNode_steers n _ (.inr (by rfl))

theorem State.serveReadRack_steers (r : Octet) : s.Steers (s.serveReadRack r).state := by
  simp only [State.serveReadRack]
  repeat' split
  all_goals exact .refl s

theorem State.serveReadLane_steers (p i : Octet) : s.Steers (s.serveReadLane p i).state := by
  simp only [State.serveReadLane]
  split <;> exact .refl s

theorem State.serveGet_steers (n : Node) (p i : Octet) : s.Steers (s.serveGet n p i).state := by
  simp only [State.serveGet]
  repeat' split
  all_goals exact .refl s

theorem State.store_steers (p : Param) (v : Nat) : s.Steers (s.store p v) := by
  cases p <;> exact State.steers_of_rest rfl rfl ⟨id, id, id⟩

theorem State.serveSet_steers (n : Node) (p i : Octet) (v : BitVec 16) : s.Steers (s.serveSet n p i v).state := by
  simp only [State.serveSet]
  repeat' split
  all_goals first
    | exact .refl s
    | exact s.store_steers _ _

theorem State.withLanes_eases (l : Lanes) : s.Eases (s.withLanes l) := .of_rest rfl ⟨id, id, id⟩

theorem State.setSlot_eases (n : RecNo) (r : Option Record) : s.Eases (s.setSlot n r) := .of_rest rfl ⟨id, id, id⟩

theorem State.serveRegister_steers (n : Node) (o : Octet) : s.Steers (s.serveRegister n o).state := by
  unfold State.serveRegister
  repeat' split
  all_goals first
    | exact .refl s
    | exact ((s.setSlot_eases _ _).trans (State.withLanes_eases _ _)).observe s none

theorem State.applyLoad_steers (m : RecNo) (replace finish : Bool) (es : List LoadEntry) :
    s.Steers (s.applyLoad m replace finish es) := by
  have loaded := s.updateRecord_eases m fun r => r.loaded replace es (s.lanes.stationOf m).isSome
  unfold State.applyLoad
  dsimp only
  refine State.Eases.observe ?_ s none
  split
  · exact loaded.trans ((State.updateRecord_eases _ _ _).trans (State.withLanes_eases _ _))
  · exact loaded

theorem State.serveLoad_steers (n : Node) (r : Octet) (replace finish : Bool) (es : List LoadEntry) :
    s.Steers (s.serveLoad n r replace finish es).state := by
  unfold State.serveLoad
  repeat' split
  all_goals first
    | exact .refl s
    | exact s.applyLoad_steers _ _ _ _

theorem State.withdrawFor_eases (m : RecNo) : s.Eases (s.withdrawFor m) := by
  refine .of_rest rfl ⟨fun h => ?_, fun h => ?_, fun h => ?_⟩
  · simp [State.withdrawFor, h]
  · simp [State.withdrawFor, h]
  · simp only [State.withdrawFor]
    split
    · rfl
    · exact h

theorem State.serveRetire_steers (n : Node) (r : Octet) : s.Steers (s.serveRetire n r).state := by
  unfold State.serveRetire
  repeat' split
  all_goals first
    | exact .refl s
    | exact (((s.withdrawFor_eases _).trans (State.withLanes_eases _ _)).trans (State.setSlot_eases _ _ _)).observe s none

theorem State.servePlace_steers (n : Node) (r o : Octet) : s.Steers (s.servePlace n r o).state := by
  unfold State.servePlace
  repeat' split
  all_goals first
    | exact .refl s
    | exact ((s.updateRecord_eases _ _).trans (State.withLanes_eases _ _)).observe s none

theorem State.servePurge_steers (n : Node) : s.Steers (s.servePurge n).state := by
  have purged : s.Eases ({ s with slots := Vector.replicate 64 none, lanes := s.lanes.purged } : State).withdrawPermissions :=
    ⟨rfl, rfl, rfl, rfl, fun on => by simp at on, fun _ runs => by simp at runs, fun _ => rfl, fun _ => rfl, fun _ => rfl⟩
  unfold State.servePurge
  repeat' split
  · exact .refl s
  · exact .refl s
  · exact purged.observe _ none

theorem State.treatHead_steers (m : RecNo) (f : Record → Record) : s.Steers (s.treatHead m f) := by
  have closed : s.Eases { s with unload := { s.unload with release := none } } := .of_rest rfl ⟨fun _ => rfl, id, id⟩
  have diverted (t : State) : t.Eases t.setDiverter := by
    obtain ⟨d, form⟩ := t.setDiverter_form
    rw [form]
    exact .of_rest rfl ⟨id, id, id⟩
  exact ((closed.trans (State.updateRecord_eases _ m f)).trans (diverted _)).observe s none

theorem State.serveUnloaded_steers (n : Node) (r : Octet) : s.Steers (s.serveUnloaded n r).state := by
  simp only [State.serveUnloaded]
  repeat' split
  all_goals first
    | exact .refl s
    | exact s.treatHead_steers _ _

theorem State.serveRewash_steers (n : Node) (r : Octet) : s.Steers (s.serveRewash n r).state := by
  simp only [State.serveRewash]
  repeat' split
  all_goals first
    | exact .refl s
    | exact s.treatHead_steers _ _

theorem State.serveCommand_steers (n : Node) (c : LineCommand) : s.Steers (s.serveCommand n c).state := by
  unfold State.serveCommand
  repeat' split
  · exact .refl s
  · exact .refl s
  · exact (s.setBit_steers c _).trans (State.takeCommands_steers _)

theorem State.serve_steers (n : Node) (q : Request) : s.Steers (s.serve n q).state := by
  cases q with
  | status => exact s.serveStatus_steers n
  | readRack r => exact s.serveReadRack_steers r
  | readLane p i => exact s.serveReadLane_steers p i
  | register p => exact s.serveRegister_steers n p
  | load r replace finish es => exact s.serveLoad_steers n r replace finish es
  | unloaded r => exact s.serveUnloaded_steers n r
  | rewash r => exact s.serveRewash_steers n r
  | retire r => exact s.serveRetire_steers n r
  | place r p => exact s.servePlace_steers n r p
  | purge => exact s.servePurge_steers n
  | command c =>
    simp only [State.serve]
    split
    · exact s.serveCommand_steers n _
    · exact .refl s
  | set p i v => exact s.serveSet_steers n p i v
  | get p i => exact s.serveGet_steers n p i

theorem State.serveMessage_steers (n : Node) (message : List Octet) : s.Steers (s.serveMessage n message).state := by
  unfold State.serveMessage
  split
  · exact s.serve_steers n _
  · unfold State.refuseMessage
    repeat' split
    all_goals exact .refl s

theorem Served.answering_steers {v : Served} (n : Node) (h : s.Steers v.state) : s.Steers (v.answering n) :=
  have answered : v.state.Steers (v.answering n) := State.steers_of_rest rfl rfl ⟨id, id, id⟩
  h.trans answered

/-! ## Codes and presence (R167 to R170, R181 to R183) -/

theorem State.tunnelChanged_steers : s.Steers s.tunnelChanged := by
  have tests (t : State) : t.Steers t.startingTest.takeCommands := t.startingTest_steers.trans (State.takeCommands_steers _)
  unfold State.tunnelChanged
  dsimp only
  split
  · exact (s.raiseHold_steers _).trans (tests _)
  · exact tests s

/-- The drive's code as it changes: FAULT and ESTOP give a STOP with it, the other codes leave RUN safe (R169, R170). -/
theorem State.driveChanged_steers {s t : State} (regulated : s.regulated → t.regulated)
    (safe : t.line.driveCode.isFault = false → s.runIsSafe → t.runIsSafe) : s.Steers t.driveChanged := by
  have tests (u : State) : u.Steers u.startingTest.holdingTest.takeCommands :=
    (u.startingTest_steers.trans (State.holdingTest_steers _)).trans (State.takeCommands_steers _)
  unfold State.driveChanged
  dsimp only
  split
  · exact (State.steers_raiseStop regulated _).trans (tests _)
  · rename_i sound
    have wrote : s.Steers t := ⟨regulated, safe (Bool.eq_false_iff.2 sound)⟩
    split
    · exact (wrote.trans (State.raiseHold_steers _ _)).trans (tests _)
    · exact wrote.trans (tests _)

theorem State.stationChanged_steers (before : State) (x : Station) : s.Steers (s.stationChanged before x) := by
  unfold State.stationChanged
  split
  · exact s.decideDispatch_steers
  · exact .refl s

theorem State.handAccepted_steers : s.Steers s.handAccepted := by
  have temperature (t : State) (z : Zone) (v : Octet) : t.Steers (t.handTemperature z v) :=
    State.steers_of_rest rfl rfl ⟨id, id, id⟩
  have pumps (t : State) (v : Octet) : t.Steers (t.handPumps v) := State.steers_of_rest rfl rfl ⟨id, id, id⟩
  have handed := s.foldl_steers (f := fun u z => match s.line.acceptedTemperature.get z with
      | some v => u.handTemperature z v
      | none => u)
    (fun t z => by
      split
      · exact temperature t z _
      · exact .refl t) Zone.all
  unfold State.handAccepted
  dsimp only
  split
  · exact handed.trans (pumps _ _)
  · exact handed

theorem State.setTunnelCode_steers (c : TunnelCode) : s.Steers (s.setTunnelCode c) :=
  State.steers_of_rest rfl rfl ⟨id, id, id⟩

theorem State.setStationCode_steers (x : Station) (c : StationCode) : s.Steers (s.setStationCode x c) :=
  State.steers_of_rest rfl rfl ⟨id, id, id⟩

theorem State.acceptCode_steers (n : Node) (v : Octet) : s.Steers (s.acceptCode n v) := by
  unfold State.acceptCode
  cases n with
  | panel => exact .refl s
  | unload => exact .refl s
  | tunnel =>
    dsimp only
    repeat' split
    · exact .refl s
    · exact (s.setTunnelCode_steers _).trans (State.tunnelChanged_steers _)
    · exact .refl s
  | drive =>
    dsimp only
    repeat' split
    · exact .refl s
    · exact State.driveChanged_steers (fun r => r) fun sound safe run => ⟨(safe run).1, sound, (safe run).2.2⟩
    · exact .refl s
  | station x =>
    dsimp only
    split
    · exact (s.setStationCode_steers x _).trans (State.stationChanged_steers _ _ _)
    · exact .refl s

theorem State.presentWith_steers (n : Node) (v : Octet) : s.Steers (s.presentWith n v) := by
  have here (other : n ≠ .drive) := s.setNode_steers n { s.line.nodes.get n with present := true } (.inl other)
  unfold State.presentWith
  cases n with
  | panel => exact here (by decide)
  | unload => exact here (by decide)
  | tunnel =>
    exact (((here (by decide)).trans (State.setTunnelCode_steers _ _)).trans (State.tunnelChanged_steers _)).trans
      (State.handAccepted_steers _)
  | drive =>
    refine State.driveChanged_steers (fun r => r) fun sound safe run => ⟨?_, sound, (safe run).2.2⟩
    exact (s.setNode_present .drive .drive _).trans (if_pos rfl)
  | station x =>
    exact ((here (by simp)).trans (State.setStationCode_steers _ x _)).trans (State.stationChanged_steers _ _ _)

theorem State.absenceHandedOn_steers (n : Node) : s.Steers (s.absenceHandedOn n) := by
  cases n with
  | tunnel =>
    have absent (heat : Heat) : s.Steers { s with heat := heat } := State.steers_of_rest rfl rfl ⟨id, id, id⟩
    unfold State.absenceHandedOn
    dsimp only
    split
    · exact (absent _).trans (State.raiseHold_steers _ _)
    · exact (absent _).trans (State.raiseHold_steers _ _)
    all_goals exact absent _
  | drive => exact s.raiseStop_steers _
  | _ => exact .refl s

/-- The absence of the drive node, which ends the safety of RUN, gives a STOP with it (R170). -/
theorem State.becomeAbsent_steers (n : Node) : s.Steers (s.becomeAbsent n) := by
  have gone (v : NodeLine) (other : n ≠ .drive) := s.setNode_steers n v (.inl other)
  have handed (t : State) := State.absenceHandedOn_steers t n
  have driveGone (t : State) (regulated : s.regulated → t.regulated) : s.Steers (t.absenceHandedOn .drive) :=
    State.steers_raiseStop regulated .driveAbsent
  unfold State.becomeAbsent
  cases n with
  | panel => exact gone _ (by decide)
  | unload => exact gone _ (by decide)
  | tunnel => exact ((gone _ (by decide)).trans (State.setTunnelCode_steers _ .off)).trans (handed _)
  | drive => exact driveGone _ fun r => r
  | station x => exact (gone _ (by simp)).trans (State.setStationCode_steers _ x .idle)

/-! ## The message channels and the frame end (R178 to R187) -/

theorem State.setChannel_steers (n : Node) (c : Channel) : s.Steers (s.setChannel n c) := s.setNode_steers n _ (.inr (by rfl))

theorem State.takeOctet_steers (n : Node) (o w : Octet) : s.Steers (s.takeOctet n o w) := by
  unfold State.takeOctet
  dsimp only
  split
  · exact ((s.setChannel_steers n _).trans (Served.answering_steers _ n (State.serveMessage_steers _ n _))).trans
      (State.setChannel_steers _ n _)
  · exact s.setChannel_steers n _

theorem State.acceptPair_steers (n : Node) (p : Octet × Octet) : s.Steers (s.acceptPair n p) := by
  unfold State.acceptPair
  dsimp only
  repeat' split
  all_goals first
    | exact .refl s
    | exact s.takeOctet_steers n _ _
    | exact s.setChannel_steers n _

theorem State.becomePresent_steers (n : Node) (v : Octet) : s.Steers (s.becomePresent n v) := by
  unfold State.becomePresent
  dsimp only
  split
  · exact (s.presentWith_steers n v).trans (State.acceptPair_steers _ n _)
  · exact s.presentWith_steers n v

theorem State.frameEvent_steers (before : Option (List Octet)) (now : List Octet) (e : FrameEvent) :
    s.Steers (s.frameEvent before now e) := by
  cases e with
  | code n =>
    simp only [State.frameEvent]
    repeat' split
    · exact (s.setNode_steers n _ (.inr (by rfl))).trans (State.acceptCode_steers _ n _)
    · exact s.setNode_steers n _ (.inr (by rfl))
    · exact (s.setNode_steers n _ (.inr (by rfl))).trans (State.becomePresent_steers _ n _)
    · exact .refl s
  | absent n =>
    simp only [State.frameEvent]
    split
    · exact s.becomeAbsent_steers n
    · exact .refl s
  | message n =>
    simp only [State.frameEvent]
    repeat' split
    · exact (s.setNode_steers n _ (.inr (by rfl))).trans (State.acceptPair_steers _ n _)
    · exact s.setNode_steers n _ (.inr (by rfl))
    · exact .refl s
  | temperature z =>
    simp only [State.frameEvent]
    repeat' split
    all_goals exact State.steers_of_rest rfl rfl ⟨id, id, id⟩
  | pumpMap =>
    simp only [State.frameEvent]
    repeat' split
    all_goals exact State.steers_of_rest rfl rfl ⟨id, id, id⟩
  | count n => exact s.setChannel_steers n _

theorem State.frameEnd_steers (slots : List Octet) (order : List FrameEvent) : s.Steers (s.frameEnd slots order) := by
  have counted : s.Steers (s.countIdleFrames (frameSlots slots)) := State.steers_of_rest rfl rfl ⟨id, id, id⟩
  have begun (t : State) : t.Steers (t.beginFrame (frameSlots slots)) := State.steers_of_rest rfl rfl ⟨id, id, id⟩
  exact (counted.trans (State.foldl_steers _ (fun t e => t.frameEvent_steers _ _ e) (inOrder order frameEvents))).trans
    (begun _)

end

/-! ## Every step -/

theorem State.ifSo_steers {s t : State} (b : Bool) (h : s.Steers t) : s.Steers (if b then t else s) := by
  split
  · exact h
  · exact .refl s

theorem State.ifNot_steers {s t : State} (b : Bool) (h : s.Steers t) : s.Steers (if b then s else t) := by
  split
  · exact .refl s
  · exact h

/-- Every command but the hardware reset. -/
theorem exec_steers {c : Instr} {s t : State} (hc : c ≠ .hardwareReset) (e : exec c s = .next t) : s.Steers t := by
  have next {u : State} (k : s.Steers u) (f : (Host.Outcome.next u : Host.Outcome State Fault Refusal) = .next t) :
      s.Steers t := Host.Outcome.next.inj f ▸ k
  cases c with
  | status n => exact next (Served.answering_steers s n (s.serveStatus_steers n)) e
  | readRack n r => exact next (Served.answering_steers s n (s.serveReadRack_steers r)) e
  | readLane n p i => exact next (Served.answering_steers s n (s.serveReadLane_steers p i)) e
  | register n p => exact next (Served.answering_steers s n (s.serveRegister_steers n p)) e
  | load n r replace finish es => exact next (Served.answering_steers s n (s.serveLoad_steers n r replace finish es)) e
  | unloaded n r => exact next (Served.answering_steers s n (s.serveUnloaded_steers n r)) e
  | rewash n r => exact next (Served.answering_steers s n (s.serveRewash_steers n r)) e
  | retire n r => exact next (Served.answering_steers s n (s.serveRetire_steers n r)) e
  | place n r p => exact next (Served.answering_steers s n (s.servePlace_steers n r p)) e
  | purge n => exact next (Served.answering_steers s n (s.servePurge_steers n)) e
  | set n p i v => exact next (Served.answering_steers s n (s.serveSet_steers n p i v)) e
  | get n p i => exact next (Served.answering_steers s n (s.serveGet_steers n p i)) e
  | stop n => exact next (Served.answering_steers s n (s.serveCommand_steers n .stop)) e
  | clear n => exact next (Served.answering_steers s n (s.serveCommand_steers n .clear)) e
  | setup n => exact next (Served.answering_steers s n (s.serveCommand_steers n .setup)) e
  | commit n => exact next (Served.answering_steers s n (s.serveCommand_steers n .commit)) e
  | hold n => exact next (Served.answering_steers s n (s.serveCommand_steers n .hold)) e
  | drain n => exact next (Served.answering_steers s n (s.serveCommand_steers n .drain)) e
  | run n => exact next (Served.answering_steers s n (s.serveCommand_steers n .run)) e
  | startingComplete => exact next (s.startingTest_steers.trans (State.takeCommands_steers _)) e
  | holdingEnd => exact next (s.holdingTest_steers.trans (State.takeCommands_steers _)) e
  | heatTimerExpiry => exact next s.heatTimerExpiry_steers e
  | settleTimerExpiry => exact next s.settleTimerExpiry_steers e
  | drainComplete => exact next s.drainTest_steers e
  | blockedEdge x => exact next (State.ifNot_steers _ (s.blockedEdge_steers x)) e
  | clearEdge x => exact next (State.ifSo_steers _ (s.clearEdge_steers x)) e
  | unloadReleaseOpen => exact next s.decideRelease_steers e
  | mergeGrantOpen => exact next s.decideMerge_steers e
  | dispatchGrantOpen => exact next s.decideDispatch_steers e
  | mergeTimeout => exact next s.mergeTimeout_steers e
  | dispatchTimeout => exact next s.dispatchTimeout_steers e
  | jam x => exact next (s.declareJam_steers x) e
  | estopActive => exact next (State.ifNot_steers _ s.estopOn_steers) e
  | estopReleased => exact next (State.ifSo_steers _ s.estopOff_steers) e
  | encoderCount => exact next s.countEncoder_steers e
  | step => exact next s.stepTunnel_steers e
  | exitMissing r => exact next (s.exitMissing_steers r) e
  | tunnelStall => exact next s.tunnelStall_steers e
  | creditSample => exact next s.creditSample_steers e
  | frameEnd slots order => exact next (s.frameEnd_steers slots order) e
  | requestTimeout n => exact next (s.setChannel_steers n _) e
  | responseDrop n => exact next (s.setChannel_steers n _) e
  | nodeAbsent n => exact next (State.ifSo_steers _ (s.becomeAbsent_steers n)) e
  | hardwareReset => exact absurd rfl hc
  | eyeSample blocked low order => exact next (s.sampleAll_steers blocked low order) e

/-- Every step, the hardware reset among them, which leaves the loop in IDLE with no permission (R177). -/
theorem step_steers {s t : State} (e : step s = .next t) : s.Steers t := by
  unfold step at e
  split at e
  · exact Host.Outcome.next.inj e ▸ s.tick_steers
  · rename_i c rest _
    by_cases reset : c = .hardwareReset
    · subst reset
      obtain rfl := Host.Outcome.next.inj e
      exact State.steers_outside rfl fun _ => ⟨rfl, rfl, rfl, rfl, rfl⟩
    · have taken : s.Steers { s with pending := rest } := State.steers_of_rest rfl rfl ⟨id, id, id⟩
      exact taken.trans (exec_steers reset e)

/-- Settles O57: every event opens permissions in RUN alone and works the permit out again, and RUN is entered only with the
drive sound and ESTOP released, and left with the STOP that either gives. -/
theorem permissionsAndRunStaySafeAtEveryStep : Obligations.PermissionsAndRunStaySafeAtEveryStep :=
  ⟨fun _ _ permissions permit e => (step_steers e).regulated ⟨permissions, permit⟩,
    fun _ _ safe e => (step_steers e).safe safe⟩

end Sys2Proof.Machine
end

section
/-! The speed code and the zone occupancy map read off the cells (R79, R80, R94). -/

namespace Sys2Proof.Machine

/-- Record `n` stands in a cell of zone `z` (R79). -/
def State.standsIn (s : State) (n : RecNo) (z : Zone) : Prop :=
  ∃ k < s.lanes.cells.length, s.lanes.cells[k]? = some (some n) ∧ zoneOfCell s.working.zoneLen k = some z

/-- The speeds of the records in zones 0 to 3 (R94). -/
def State.speeds (s : State) : List Nat := (s.rackZones.filter fun p => p.2 ≠ .dryer).map fun p => s.speedOf p.1

theorem rackZonesFrom_cons (len : PerZone Nat) (i : Nat) (c : Option RecNo) (rest : List (Option RecNo)) (p : RecNo × Zone) :
    p ∈ rackZonesFrom len i (c :: rest)
      ↔ (c = some p.1 ∧ zoneOfCell len i = some p.2) ∨ p ∈ rackZonesFrom len (i + 1) rest := by
  obtain ⟨n, z⟩ := p
  cases c with
  | none => simp [rackZonesFrom]
  | some m =>
    simp only [rackZonesFrom]
    split
    · rename_i w zone
      simp [zone, eq_comm]
    · rename_i zone
      simp [zone]

theorem mem_rackZonesFrom {len : PerZone Nat} {p : RecNo × Zone} {i : Nat} {cells : List (Option RecNo)} :
    p ∈ rackZonesFrom len i cells ↔ ∃ k, cells[k]? = some (some p.1) ∧ zoneOfCell len (i + k) = some p.2 := by
  induction cells generalizing i with
  | nil => simp [rackZonesFrom]
  | cons c rest ih =>
    rw [rackZonesFrom_cons, ih,
      ← Nat.or_exists_add_one (p := fun k => (c :: rest)[k]? = some (some p.1) ∧ zoneOfCell len (i + k) = some p.2)]
    simp [Nat.add_assoc, Nat.add_comm 1]

section
variable {s : State} {n : RecNo} {z : Zone}

theorem State.mem_rackZones : (n, z) ∈ s.rackZones ↔ s.standsIn n z := by
  rw [State.rackZones, mem_rackZonesFrom]
  refine exists_congr fun k => ⟨fun ⟨cell, zone⟩ => ?_, fun ⟨_, cell, zone⟩ => ⟨cell, by simpa using zone⟩⟩
  exact ⟨(List.getElem?_eq_some_iff.1 cell).1, cell, by simpa using zone⟩

theorem State.mem_speeds {v : Nat} : v ∈ s.speeds ↔ ∃ n z, z ≠ .dryer ∧ s.standsIn n z ∧ s.speedOf n = v := by
  simp only [State.speeds, List.mem_map, List.mem_filter, Prod.exists, State.mem_rackZones, decide_eq_true_eq]
  exact exists_congr fun n => exists_congr fun z => by tauto

/-- The speed code is the least of the speeds, and IDLE_SPEED where there is none (R94). -/
theorem State.speedCode_eq (s : State) : s.speedCode = s.speeds.min?.getD s.working.idleSpeed := by
  unfold State.speedCode State.speeds
  split
  · rename_i none
    rw [none]
    rfl
  · rename_i v rest some
    rw [some, List.min?_cons']
    rfl

theorem State.speedCode_least {v : Nat} (h : v ∈ s.speeds) : s.speedCode ∈ s.speeds ∧ s.speedCode ≤ v := by
  obtain ⟨least, found⟩ := Option.isSome_iff_exists.1 (List.isSome_min?_of_mem h)
  obtain ⟨mem, le⟩ := List.min?_eq_some_iff.1 found
  rw [State.speedCode_eq, found]
  exact ⟨mem, le v h⟩

theorem State.zoneMark_iff : s.zoneMark z = true ↔ (∃ n, s.standsIn n z) ∨ (z = .preWash ∧ s.lanes.acc ≠ []) := by
  simp [State.zoneMark, State.mem_rackZones]

theorem State.speedOf_eq (s : State) (n : RecNo) : s.speedOf n = s.working.classSpeed.get (match s.record n with
    | some v => v.ceiling
    | none => 0) := by
  unfold State.speedOf
  cases s.record n <;> rfl

end

/-- Settles O41: the list the model folds over holds exactly the records of the cells, each with its zone. -/
theorem speedCodeAndZoneMarks : Obligations.SpeedCodeAndZoneMarks := by
  unfold Obligations.SpeedCodeAndZoneMarks
  intro s
  refine ⟨fun n ⟨z, _, zone, stands⟩ => ?_, fun ⟨n, z, _, zone, stands⟩ => ?_, fun nowhere => ?_,
    fun z _ => State.zoneMark_iff⟩
  · exact (State.speedCode_least (State.mem_speeds.2 ⟨n, z, zone, stands, rfl⟩)).2.trans_eq (s.speedOf_eq n)
  · have attained := (State.speedCode_least (State.mem_speeds.2 ⟨n, z, zone, stands, rfl⟩)).1
    obtain ⟨m, w, other, here, speed⟩ := State.mem_speeds.1 attained
    exact ⟨m, ⟨w, Zone.mem_all w, other, here⟩, speed.symm.trans (s.speedOf_eq m)⟩
  · have none : s.speeds = [] := List.eq_nil_iff_forall_not_mem.2 fun v h => by
      obtain ⟨n, z, zone, stands, _⟩ := State.mem_speeds.1 h
      exact nowhere n z (Zone.mem_all z) zone stands
    rw [State.speedCode_eq, none]
    rfl

end Sys2Proof.Machine
end

section
/-! Encoder counts and the step they reach (R74, R75, R90, R92, R115). -/

namespace Sys2Proof.Machine

section
variable {s : State}

/-- The record of the last cell as it joins XT, with a full exit window (R76, R85). -/
def State.leaving (s : State) : List XtEntry := s.lanes.lastCell.toList.map fun n => ⟨n, .timing s.working.exitWindow⟩

/-- The state a step has made before the other blocks see it (R75), with `slots` for the records. -/
def State.moved (s : State) (slots : Vector (Option Record) 64) : State :=
  { s with
    slots := slots
    lanes := { s.lanes with cells := none :: s.lanes.cells.dropLast, xt := s.lanes.xt ++ s.leaving }
    tunnel := { s.tunnel with
      admissionUsed := false
      stall := if s.tunnel.permit then some s.working.stallLimit else s.tunnel.stall
      pitch := s.working.pitchCounts } }

/-- With room in XT the record of the last cell joins it, and nothing is lost (R76). -/
theorem State.leaveTunnel_room (room : s.lanes.lastCell = none ∨ s.lanes.xt.length < 2) : ∃ slots,
    s.leaveTunnel = ({ s with slots := slots, lanes := { s.lanes with xt := s.lanes.xt ++ s.leaving } }, none) := by
  unfold State.leaveTunnel State.leaving
  cases last : s.lanes.lastCell with
  | none => exact ⟨s.slots, by simp⟩
  | some n =>
    have short : s.lanes.xt.length < 2 := room.resolve_left (by simp [last])
    obtain ⟨slots, form⟩ := s.updateRecord_form n (·.judged s.working)
    refine ⟨slots, ?_⟩
    dsimp only
    rw [form]
    cases stands : s.lanes.xt with
    | nil => rfl
    | cons x rest =>
      have fits : ¬2 ≤ (x :: rest).length := by
        rw [← stands]
        omega
      dsimp only
      rw [if_neg fits]
      rfl

theorem State.stepTunnel_room (room : s.lanes.lastCell = none ∨ s.lanes.xt.length < 2) : ∃ slots,
    s.stepTunnel = (s.moved slots).observe s
      ∧ ∀ k, (s.moved slots).record k =
        if s.lanes.lastCell = some k then (s.record k).map (·.judged s.working) else s.record k := by
  obtain ⟨slots, left⟩ := State.leaveTunnel_room room
  refine ⟨slots, ?_, fun k => ?_⟩
  · unfold State.stepTunnel
    rw [left]
    rfl
  · have judged := s.record_leaveTunnel k
    rw [left] at judged
    exact judged

/-- A step loads the pitch counter (R74). -/
theorem State.stepTunnel_pitch : s.stepTunnel.tunnel.pitch = s.working.pitchCounts := by
  obtain ⟨_, _, working⟩ := s.leaveTunnel_settings
  unfold State.stepTunnel
  rw [(State.observe_kept _ _ _).pitch, ← working]
  rfl

/-- With no drain set, an event with no cause leaves the tunnel as the permit worked out again makes it (R90, R92). -/
theorem State.observe_tunnel {before : State} (quiet : s.executor.drain = none) :
    (s.observe before).tunnel = (s.seen before).tunnel := by
  rw [State.observe_quiet none quiet]
  obtain ⟨_, _, _, h⟩ := (s.seen before).decideAfter_form before
  show ((s.seen before).decideAfter before).tunnel = _
  rw [h]

/-- The stall timer runs from its limit under the permit, and not otherwise (R92). -/
theorem State.moved_stall {slots : Vector (Option Record) 64} (same : (s.moved slots).takeNewHead s = s.moved slots) :
    ((s.moved slots).seen s).tunnel.stall
      = if ((s.moved slots).seen s).tunnel.permit then some s.working.stallLimit else none := by
  rw [State.seen, same]
  show (if !(s.moved slots).permitCondition then none
    else if s.tunnel.permit then (s.moved slots).tunnel.stall else some s.working.stallLimit)
      = if (s.moved slots).permitCondition then some s.working.stallLimit else none
  cases (s.moved slots).permitCondition with
  | false => rfl
  | true => by_cases on : s.tunnel.permit = true <;> simp [State.moved, on]

end

/-- Settles O38: a step with room in XT is the shift, seen by every block with no new head of UNL. -/
theorem countsAndStepsMoveTheTunnel : Obligations.CountsAndStepsMoveTheTunnel := by
  unfold Obligations.CountsAndStepsMoveTheTunnel
  refine ⟨fun s => ⟨fun two => ?_, fun one => ⟨s.stepTunnel, ?_, rfl, ?_⟩⟩, fun s _ room => ?_⟩
  · show Host.Outcome.next s.countEncoder = _
    rw [State.countEncoder, if_neg (by omega)]
  · show Host.Outcome.next s.countEncoder = _
    rw [State.countEncoder, if_pos (by omega)]
  · exact State.stepTunnel_pitch
  · obtain ⟨slots, form, record⟩ := State.stepTunnel_room room
    have head : (s.moved slots).lanes.unl.head? = s.lanes.unl.head? := rfl
    have control := State.observe_sameHead head
    refine ⟨_, congrArg Host.Outcome.next form, control.lanes, fun k other => ?_, fun n last v stands => ?_,
      control.admission, control.pitch, control.estop, control.heat, control.eyes,
      ⟨control.stored, control.working, control.single⟩, State.OnlyMarks.lineKept ⟨control.marks.line, control.marks.node,
        control.marks.absent, control.marks.raised⟩, fun quiet => ?_⟩
    · rw [control.record, record, if_neg other]
    · rw [control.record, record, if_pos (Option.mem_def.1 last), Option.mem_def.1 stands]
      exact congrArg some (v.judged_eq s.working)
    · have still : (s.moved slots).executor.drain = none := quiet
      obtain ⟨executor, draws⟩ := State.observe_executorKept (before := s) still
      refine ⟨⟨executor, draws⟩, ?_, ?_⟩
      · rw [State.observe_permit still, State.permitCondition_iff, control.lanes, ← s.inRun_iff]
        rfl
      · rw [State.observe_tunnel still]
        exact State.moved_stall (State.takeNewHead_same head)

end Sys2Proof.Machine
end

section
/-! A millisecond in which no timer runs out but the credit timer (R85, R101; notes/assumptions/5.md, 27.md). -/

namespace Sys2Proof.Machine

/-! ## No timer stands at 0 -/

/-- No timer but the credit timer stands at 0. -/
structure State.NoneDue (s : State) : Prop where
  jam : ∀ e, (s.eyes.get e).jamTimer ≠ some 0
  exit : ∀ x ∈ s.lanes.xt, x.window ≠ .timing 0
  stall : s.tunnel.stall ≠ some 0
  merge : ∀ g ∈ s.merge, g.window ≠ .timing 0
  dispatch : ∀ g ∈ s.dispatch.grant, g.window ≠ .timing 0
  heat : s.executor.heatTimer ≠ some 0
  settle : s.executor.settleTimer ≠ some 0

section
variable {s : State}

theorem State.when_notDue {p : Prop} [Decidable p] {f : State → State} (h : ¬p) : s.when (decide p) f = s := by
  rw [State.when, decide_eq_false h]
  rfl

theorem State.when_noneTiming {α : Type} {g : Option α} {w : α → Window} {f : State → State}
    (h : ∀ a ∈ g, w a ≠ .timing 0) : s.when (g.any fun a => w a = .timing 0) f = s := by
  cases g with
  | none => rfl
  | some a => exact State.when_notDue (h a rfl)

theorem State.NoneDue.jamsExpire (h : s.NoneDue) : s.jamsExpire = s := by
  unfold State.jamsExpire
  induction Eye.all with
  | nil => rfl
  | cons e es ih => rw [List.foldl_cons, State.when_notDue (h.jam e), ih]

theorem State.NoneDue.runOut (h : s.NoneDue) : s.lanes.runOut = [] := by
  rw [Lanes.runOut, List.filter_eq_nil_iff.2 fun x hx => by simp [h.exit x hx]]
  rfl

theorem State.NoneDue.afterExits (h : s.NoneDue) : s.afterExits = s := by
  unfold State.afterExits
  simp only [State.when_notDue h.stall, State.when_noneTiming h.merge, State.when_noneTiming h.dispatch,
    State.when_notDue h.heat, State.when_notDue h.settle]

end

/-! ## The credit sample -/

section
variable {α : Type} (who : α → RecNo) (f : α → Record → Record)

/-- Records updated one after the other: nothing but the slots is written, and nothing but the slots is read. -/
theorem State.foldl_updateRecord (ps : List α) (s : State) : ∃ slots,
    ps.foldl (fun t p => t.updateRecord (who p) (f p)) s = { s with slots := slots }
      ∧ ∀ t : State, t.slots = s.slots → (ps.foldl (fun t p => t.updateRecord (who p) (f p)) t).slots = slots := by
  induction ps generalizing s with
  | nil => exact ⟨s.slots, rfl, fun _ same => same⟩
  | cons p ps ih =>
    have alike (t : State) (same : t.slots = s.slots) :
        (t.updateRecord (who p) (f p)).slots = (s.updateRecord (who p) (f p)).slots := by
      simp only [State.updateRecord, State.record, same]
      split <;> simp [State.setSlot, same]
    obtain ⟨one, first⟩ := s.updateRecord_form (who p) (f p)
    obtain ⟨slots, form, rest⟩ := ih (s.updateRecord (who p) (f p))
    refine ⟨slots, ?_, fun t same => rest _ (alike t same)⟩
    rw [List.foldl_cons, form, first]

end

section
variable {s : State}

/-- A credit sample writes the slots and the zones' inputs, and loads its timer (R101, R102). -/
theorem State.creditSample_form (s : State) : ∃ slots,
    s.creditSample = { s with slots := slots, heat := ⟨s.heat.zones.map ZoneInput.sampled, s.working.creditPeriod⟩ } := by
  obtain ⟨slots, form, _⟩ := State.foldl_updateRecord (·.1)
    (fun p r => r.credited s.working p.2 ((s.heat.zones.map ZoneInput.sampled).get p.2)) s.rackZones
    { s with heat := ⟨s.heat.zones.map ZoneInput.sampled, s.working.creditPeriod⟩ }
  exact ⟨slots, form⟩

/-- It reads no timer. -/
theorem State.creditSample_countTimers (s : State) :
    s.countTimers.creditSample.heat = s.creditSample.heat ∧ s.countTimers.creditSample.slots = s.creditSample.slots := by
  have zones : s.countTimers.rackZones = s.rackZones := by
    unfold State.rackZones State.countTimers
    dsimp only
    split <;> rfl
  refine ⟨?_, ?_⟩
  · obtain ⟨_, form⟩ := s.creditSample_form
    obtain ⟨_, form'⟩ := s.countTimers.creditSample_form
    rw [form, form']
    rfl
  · obtain ⟨slots, form, alike⟩ := State.foldl_updateRecord (·.1)
      (fun p r => r.credited s.working p.2 ((s.heat.zones.map ZoneInput.sampled).get p.2)) s.rackZones
      { s with heat := ⟨s.heat.zones.map ZoneInput.sampled, s.working.creditPeriod⟩ }
    have here : s.creditSample.slots = slots := congrArg State.slots form
    rw [here, State.creditSample, zones]
    exact alike _ rfl

/-! ## The millisecond -/

theorem Window.countDown_eq : Window.countDown = Window.passMs := by
  funext w
  cases w <;> rfl

theorem Window.outlasts.countDown {w : Window} (h : w.outlasts) : w.countDown ≠ .timing 0 := by
  cases w with
  | arriving => simp [Window.countDown]
  | timing k =>
    have two : ¬k ≤ 1 := fun le => h k le rfl
    simp only [Window.countDown, ne_eq, Window.timing.injEq]
    omega

theorem countDown_ne_zero {t : Option Nat} (h : ∀ k ∈ t, 2 ≤ k) : countDown t ≠ some 0 := by
  cases t with
  | none => simp [countDown]
  | some k =>
    have two := h k rfl
    simp only [countDown, Option.map_some, ne_eq, Option.some.injEq]
    omega

theorem State.countTimers_xt (s : State) : s.countTimers.lanes
    = { s.lanes with xt := if s.tunnel.permit then s.lanes.xt.map XtEntry.passMs else s.lanes.xt } := by
  simp only [State.countTimers, Window.countDown_eq]
  split <;> rfl

/-- With no timer about to run out but the credit timer, none of them is due once they have counted. -/
theorem State.countTimers_noneDue (jam : ∀ e ∈ Eye.all, ∀ k ∈ (s.eyes.get e).jamTimer, 2 ≤ k)
    (stall : ∀ k ∈ s.tunnel.stall, 2 ≤ k) (exit : ∀ x ∈ s.lanes.xt, x.window.outlasts)
    (merge : ∀ g ∈ s.merge, g.window.outlasts) (dispatch : ∀ g ∈ s.dispatch.grant, g.window.outlasts)
    (heat : ∀ k ∈ s.executor.heatTimer, 2 ≤ k) (settle : ∀ k ∈ s.executor.settleTimer, 2 ≤ k) :
    s.countTimers.NoneDue where
  jam e := by
    simp only [State.countTimers, PerEye.get_map]
    exact countDown_ne_zero (jam e (Eye.mem_all e))
  exit x hx := by
    rw [State.countTimers_xt] at hx
    dsimp only at hx
    split at hx
    · obtain ⟨y, hy, rfl⟩ := List.mem_map.1 hx
      rw [XtEntry.passMs, ← Window.countDown_eq]
      exact (exit y hy).countDown
    · exact exit x hx 0 (by omega)
  stall := countDown_ne_zero stall
  merge g hg := by
    obtain ⟨h, stands, rfl⟩ := Option.map_eq_some_iff.1 hg
    exact (merge h stands).countDown
  dispatch g hg := by
    obtain ⟨h, stands, rfl⟩ := Option.map_eq_some_iff.1 hg
    exact (dispatch h stands).countDown
  heat := countDown_ne_zero heat
  settle := countDown_ne_zero settle

/-- A millisecond with no timer due is the count, and the credit sample where its timer has run out. -/
theorem State.tick_noneDue (h : s.countTimers.NoneDue) :
    s.tick = s.countTimers.when (s.countTimers.heat.sampleTimer = 0) State.creditSample := by
  have sampled : (s.countTimers.when (s.countTimers.heat.sampleTimer = 0) State.creditSample).NoneDue := by
    unfold State.when
    split
    · obtain ⟨_, form⟩ := s.countTimers.creditSample_form
      rw [form]
      exact ⟨h.jam, h.exit, h.stall, h.merge, h.dispatch, h.heat, h.settle⟩
    · exact h
  rw [State.tick_eq, State.beforeExits, h.jamsExpire, sampled.runOut]
  exact sampled.afterExits

/-- What the millisecond leaves, but for the slots and the zones' inputs, is the count of the timers. -/
theorem State.tick_counted (h : s.countTimers.NoneDue) :
    (∃ slots heat, s.tick = { s.countTimers with slots := slots, heat := heat })
      ∧ (2 ≤ s.heat.sampleTimer →
        s.tick.heat = { s.heat with sampleTimer := s.heat.sampleTimer - 1 } ∧ s.tick.slots = s.slots)
      ∧ (s.heat.sampleTimer ≤ 1 → s.tick.heat = s.creditSample.heat ∧ s.tick.slots = s.creditSample.slots) := by
  have timer : s.countTimers.heat.sampleTimer = s.heat.sampleTimer - 1 := rfl
  rw [State.tick_noneDue h, State.when, timer]
  by_cases due : s.heat.sampleTimer ≤ 1
  · obtain ⟨slots, form⟩ := s.countTimers.creditSample_form
    rw [if_pos (by simp; omega)]
    exact ⟨⟨slots, _, form⟩, fun two => by omega, fun _ => s.creditSample_countTimers⟩
  · rw [if_neg (by simp; omega)]
    exact ⟨⟨s.slots, s.countTimers.heat, rfl⟩, fun _ => ⟨rfl, rfl⟩, fun low => absurd low due⟩

end

/-- Settles O3: with nothing due after the count, every expiry is passed over but the credit sample. -/
theorem idleStepIsOneMillisecond : Obligations.IdleStepIsOneMillisecond := by
  unfold Obligations.IdleStepIsOneMillisecond
  intro s idle jam stall exit merge dispatch heat settle
  have taken : step s = .next s.tick := by
    unfold step
    rw [idle]
  obtain ⟨⟨slots, zones, form⟩, counted, sampled⟩ :=
    State.tick_counted (State.countTimers_noneDue jam stall exit merge dispatch heat settle)
  refine ⟨s.tick, taken, ?_⟩
  have period : s.creditSample.heat.sampleTimer = s.working.creditPeriod := by
    obtain ⟨_, sample⟩ := s.creditSample_form
    rw [sample]
  have last : s.heat.sampleTimer ≤ 1 → s.tick.heat.sampleTimer = s.working.creditPeriod
      ∧ ∃ u, exec .creditSample s = .next u ∧ s.tick.heat = u.heat ∧ s.tick.slots = u.slots := fun low => by
    obtain ⟨inputs, records⟩ := sampled low
    exact ⟨inputs ▸ period, s.creditSample, rfl, inputs, records⟩
  have lanes := s.countTimers_xt
  refine ⟨?_, ?_, ?_, ?_, ?_, ?_, ?_, ?_, ?_, ?_, ?_, ?_, ?_, counted, last⟩
  all_goals rw [form]
  · exact idle
  · rfl
  · rfl
  · rfl
  · rfl
  · exact ⟨rfl, rfl, rfl⟩
  · rfl
  · exact fun e _ => PerEye.get_map _ _ e
  · rfl
  · exact lanes
  · simp only [State.countTimers, Window.countDown_eq]
  · simp only [State.countTimers, Window.countDown_eq]
  · rfl

end Sys2Proof.Machine
end

section
/-! COMMIT (R96, R173, R174): the five checks in their order, what a COMMIT that passes applies, and what one that does not
leaves. -/

namespace Sys2Proof.Machine

/-! ## The checks, in the order of R173 -/

theorem Settings.zoneLayoutOk_iff (t : Settings) : t.zoneLayoutOk = true
    ↔ t.zoneLen.z0 + t.zoneLen.z1 + t.zoneLen.z2 + t.zoneLen.z3 + t.zoneLen.z4 = t.tunnelCells ∧ t.zoneLen.z3 ≠ 0 := by
  simp [Settings.zoneLayoutOk]

theorem Settings.eyeOrderOk_iff (t : Settings) (e : Eye) :
    t.eyeOrderOk e = true ↔ t.rackMin.get e < t.rackMax.get e ∧ t.rackMax.get e < t.jamLimit.get e := by
  simp [Settings.eyeOrderOk]

/-- The trackpoint of an index, in the order of the list (R48). -/
theorem Eye.getElem_all (e : Eye) : Eye.all[e.index]? = some e := by
  cases e with
  | outfeed x => cases x <;> rfl
  | _ => rfl

theorem Eye.index_getElem (j : Nat) (h : j < Eye.all.length) : (Eye.all[j]'h).index = j := by
  have all : ∀ k : Fin 9, (Eye.all[k.val]'k.isLt).index = k.val := by decide
  exact all ⟨j, h⟩

theorem Eye.find?_first {p : Eye → Bool} {e : Eye} (here : p e = true)
    (first : ∀ d ∈ Eye.all, d.index < e.index → p d = false) : Eye.all.find? p = some e := by
  obtain ⟨lt, stands⟩ := List.getElem?_eq_some_iff.1 (Eye.getElem_all e)
  refine List.find?_eq_some_iff_getElem.2 ⟨here, e.index, lt, stands, fun j hj => ?_⟩
  have before := first Eye.all[j] (List.getElem_mem _) (by rw [Eye.index_getElem]; exact hj)
  rw [before]
  rfl

section
variable {s : State}

theorem State.commitFailure_layout (layout : s.stored.zoneLayoutOk = false) :
    s.commitFailure = some ⟨.zoneLayout, 0⟩ := by
  simp [State.commitFailure, layout]

theorem State.commitFailure_eye {e : Eye} (layout : s.stored.zoneLayoutOk = true)
    (eye : Eye.all.find? (fun e => !s.stored.eyeOrderOk e) = some e) : s.commitFailure = some ⟨.eyeOrder, e.index⟩ := by
  simp [State.commitFailure, layout, eye]

theorem State.commitFailure_lane {k : Nat} (layout : s.stored.zoneLayoutOk = true)
    (eyes : Eye.all.find? (fun e => !s.stored.eyeOrderOk e) = none)
    (lane : s.laneFills.findIdx? (fun p => p.2 < p.1) = some k) : s.commitFailure = some ⟨.laneFill, k⟩ := by
  simp only [State.commitFailure, layout, eyes, lane]
  rfl

theorem State.commitFailure_cell {i : Nat} (layout : s.stored.zoneLayoutOk = true)
    (eyes : Eye.all.find? (fun e => !s.stored.eyeOrderOk e) = none)
    (lanes : s.laneFills.findIdx? (fun p => p.2 < p.1) = none)
    (cell : s.lanes.cellBeyond s.stored.tunnelCells = some i) : s.commitFailure = some ⟨.cellRange, i⟩ := by
  simp only [State.commitFailure, layout, eyes, lanes, cell]
  rfl

theorem State.commitFailure_count (layout : s.stored.zoneLayoutOk = true)
    (eyes : Eye.all.find? (fun e => !s.stored.eyeOrderOk e) = none)
    (lanes : s.laneFills.findIdx? (fun p => p.2 < p.1) = none)
    (cells : s.lanes.cellBeyond s.stored.tunnelCells = none) :
    s.commitFailure = if s.single.rackLimit < s.allocationCount then some ⟨.rackCount, 0⟩ else none := by
  simp only [State.commitFailure, layout, eyes, lanes, cells]
  rfl

theorem State.eyes_ordered (h : ∀ e ∈ Eye.all, s.stored.rackMin.get e < s.stored.rackMax.get e
    ∧ s.stored.rackMax.get e < s.stored.jamLimit.get e) :
    Eye.all.find? (fun e => !s.stored.eyeOrderOk e) = none :=
  List.find?_eq_none.2 fun e he => by simp [(s.stored.eyeOrderOk_iff e).2 (h e he)]

theorem State.laneFills_fit (h : ∀ p ∈ s.laneFills, p.1 ≤ p.2) : s.laneFills.findIdx? (fun p => p.2 < p.1) = none :=
  List.findIdx?_eq_none_iff.2 fun p hp => decide_eq_false (Nat.not_lt.2 (h p hp))

theorem State.laneFills_first {k : Nat} (exceeds : ∃ p ∈ s.laneFills[k]?, p.2 < p.1)
    (before : ∀ p ∈ s.laneFills.take k, p.1 ≤ p.2) : s.laneFills.findIdx? (fun p => p.2 < p.1) = some k := by
  obtain ⟨p, there, exceeds⟩ := exceeds
  obtain ⟨lt, rfl⟩ := List.getElem?_eq_some_iff.1 there
  refine List.findIdx?_eq_some_iff_getElem.2 ⟨lt, decide_eq_true exceeds, fun j hj => ?_⟩
  have fits := before s.laneFills[j] (List.mem_take_iff_getElem.2 ⟨j, by omega, rfl⟩)
  simpa using fits

theorem Lanes.cellBeyond_none {l : Lanes} {n : Nat} (h : ∀ i < l.cells.length, ¬(n ≤ i ∧ l.cells[i]?.join ≠ none)) :
    l.cellBeyond n = none :=
  List.find?_eq_none.2 fun i hi => by
    have free := h i (List.mem_range.1 hi)
    simpa [← Option.ne_none_iff_isSome] using free

theorem Lanes.cellBeyond_first {l : Lanes} {n i : Nat} (lt : i < l.cells.length) (here : n ≤ i ∧ l.cells[i]?.join ≠ none)
    (first : ∀ j < i, ¬(n ≤ j ∧ l.cells[j]?.join ≠ none)) : l.cellBeyond n = some i := by
  refine List.find?_range_eq_some.2 ⟨?_, List.mem_range.2 lt, fun j hj => ?_⟩
  · simpa [← Option.ne_none_iff_isSome] using here
  · have free := first j hj
    simpa [← Option.ne_none_iff_isSome, or_iff_not_imp_left] using free

/-- A COMMIT that the five checks let pass (R173). -/
theorem State.commitPasses.failure (h : s.commitPasses) : s.commitFailure = none := by
  obtain ⟨layout, eyes, ⟨outfeed, spur, acc, unl, ret⟩, cells, count⟩ := h
  have fits : ∀ p ∈ s.laneFills, p.1 ≤ p.2 := by
    simp only [State.laneFills, List.mem_cons, forall_eq_or_imp, List.not_mem_nil, false_imp_iff, implies_true, and_true]
    exact ⟨outfeed .a (by decide), outfeed .b (by decide), outfeed .c (by decide), outfeed .d (by decide), spur, acc, unl,
      ret⟩
  rw [State.commitFailure_count ((Settings.zoneLayoutOk_iff _).2 layout) (State.eyes_ordered eyes)
    (State.laneFills_fit fits) (Lanes.cellBeyond_none fun i hi ⟨beyond, held⟩ => held (cells i hi beyond)),
    if_neg (Nat.not_lt.2 count)]

/-! ## COMMIT as it is taken -/

/-- COMMIT from the panel node, none pending and the loop at rest (R163, R165). -/
theorem State.exec_commit (idle : s.nonePending) (rest : s.executor.loop.isBusy = false) : exec (.commit .panel) s
    = .next { s.takeCommit (.node .panel) with answer := some ⟨.panel, response 0x0B .pending⟩ } := by
  have free : (s.executor.vector.get .commit).isSome = false := by rw [idle]; rfl
  have taken := State.setBit_takeCommands .commit (.node .panel) idle (.inl rest)
  show Host.Outcome.next ((s.serveCommand .panel .commit).answering .panel) = _
  unfold State.serveCommand
  rw [if_neg (by simp [mayCommand]), if_neg (by simp [free]), taken]
  rfl

theorem State.takeCommit_failing {i : Issuer} {f : CommitFailure} (loop : s.executor.loop = .idle)
    (fails : s.commitFailure = some f) : s.takeCommit i = s.writeOutcome .commit .invalidConfig i (some f) := by
  simp only [State.takeCommit, loop, fails]

theorem State.takeCommit_illegal {i : Issuer} (loop : s.executor.loop = .ready ∨ s.executor.loop = .run
    ∨ s.executor.loop = .hold ∨ s.executor.loop = .stopped) : s.takeCommit i = s.writeOutcome .commit .illegal i := by
  rcases loop with loop | loop | loop | loop <;> simp only [State.takeCommit, loop]

/-- What a COMMIT that passes makes of the loop (R174), its outcome apart. -/
def State.committed (s : State) : State :=
  { s with
    working := s.stored
    lanes := { s.lanes with cells := resizeCells s.lanes.cells s.stored.tunnelCells }
    executor := { s.executor with loop := .ready }
    tunnel := { s.tunnel with permit := false, stall := none } }

theorem State.takeCommit_passing {i : Issuer} (loop : s.executor.loop = .idle) (passes : s.commitFailure = none) :
    s.takeCommit i = s.committed.writeOutcome .commit .done i := by
  have outside : s.applySettings.inRun = false := State.inRun_of_idle loop
  have entered : s.applySettings.enterLoop .ready
      = s.applySettings.withExecutor { s.executor with loop := .ready } := by
    unfold State.enterLoop
    rw [outside]
    rfl
  have off : (s.applySettings.withExecutor { s.executor with loop := .ready }).permitCondition = false :=
    State.permitCondition_outside rfl
  simp only [State.takeCommit, loop, passes, entered, State.refreshPermit, off]
  rfl

/-- A COMMIT that is not applied writes its outcome and nothing else. -/
theorem State.writeOutcome_alone (c : LineCommand) (k : OutcomeKind) (i : Issuer) (f : Option CommitFailure) :
    (s.writeOutcome c k i f).executor = { s.executor with outcomes := s.executor.outcomes.set c ⟨k, some i, f⟩ }
      ∧ s.racksKept (s.writeOutcome c k i f) ∧ s.surroundingsKept (s.writeOutcome c k i f)
      ∧ s.permissionsKept (s.writeOutcome c k i f) ∧ (s.writeOutcome c k i f).draws = s.draws := by
  have line := (s.writeOutcome_controlled c k i f).marks.lineKept
  exact ⟨by simp, ⟨by simp, by simp⟩, ⟨by simp [State.inputsKept], by simp [State.settingsKept], line⟩,
    by simp [State.permissionsKept], by simp⟩

/-- With none beyond them, the records stand in the cells they stood in (R96). -/
theorem resizeCells_join {cells : List (Option RecNo)} {n : Nat}
    (free : ∀ i < cells.length, n ≤ i → cells[i]?.join = none) (i : Nat) :
    (resizeCells cells n)[i]?.join = cells[i]?.join := by
  rw [resizeCells, List.getElem?_take]
  split
  · rw [List.getElem?_append]
    split
    · rfl
    · rename_i _ past
      rw [List.getElem?_eq_none (Nat.not_lt.1 past), List.getElem?_replicate]
      split <;> rfl
  · rename_i beyond
    by_cases lt : i < cells.length
    · exact (free i lt (Nat.not_lt.1 beyond)).symm
    · rw [List.getElem?_eq_none (Nat.not_lt.1 lt)]

/-- The outcome and the answer of a COMMIT that fails a check (R173). -/
theorem State.commit_fails {f : CommitFailure} (idle : s.nonePending) (loop : s.executor.loop = .idle)
    (fails : s.commitFailure = some f) : ∃ t, exec (.commit .panel) s = .next t
      ∧ t.executor = { s.executor with
          outcomes := s.executor.outcomes.set .commit ⟨.invalidConfig, some (.node .panel), some f⟩ }
      ∧ s.racksKept t ∧ s.surroundingsKept t ∧ s.permissionsKept t := by
  obtain ⟨executor, racks, around, permissions, _⟩ :=
    State.writeOutcome_alone (s := s) .commit .invalidConfig (.node .panel) (some f)
  refine ⟨_, State.exec_commit idle (by rw [loop]; rfl), ?_⟩
  rw [State.takeCommit_failing loop fails]
  exact ⟨executor, racks, around, permissions⟩

/-- In another resting state COMMIT is not obeyed (R165). -/
theorem State.commit_illegal (idle : s.nonePending) (loop : s.executor.loop = .ready ∨ s.executor.loop = .run
    ∨ s.executor.loop = .hold ∨ s.executor.loop = .stopped) : ∃ t, exec (.commit .panel) s = .next t
      ∧ t.executor = { s.executor with
          outcomes := s.executor.outcomes.set .commit ⟨.illegal, some (.node .panel), none⟩ }
      ∧ s.racksKept t ∧ s.surroundingsKept t ∧ s.permissionsKept t ∧ t.draws = s.draws := by
  have rest : s.executor.loop.isBusy = false := by rcases loop with loop | loop | loop | loop <;> rw [loop] <;> rfl
  obtain ⟨executor, racks, around, permissions, draws⟩ :=
    State.writeOutcome_alone (s := s) .commit .illegal (.node .panel) none
  refine ⟨_, State.exec_commit idle rest, ?_⟩
  rw [State.takeCommit_illegal loop]
  exact ⟨executor, racks, around, permissions, draws⟩

/-- A COMMIT that passes: every stored value at work, the records where they stood, READY with no permit (R96, R174). -/
theorem State.commit_applies (idle : s.nonePending) (loop : s.executor.loop = .idle) (passes : s.commitPasses) :
    ∃ t, exec (.commit .panel) s = .next t
      ∧ t.answer = some ⟨.panel, [0x0B, 0x01]⟩
      ∧ t.working = s.stored ∧ t.stored = s.stored ∧ t.single = s.single
      ∧ t.lanes = { s.lanes with cells := t.lanes.cells } ∧ t.lanes.cells.length = s.stored.tunnelCells
      ∧ (∀ i < 256, t.lanes.cells[i]?.join = s.lanes.cells[i]?.join) ∧ t.slots = s.slots
      ∧ t.executor = { s.executor with
          loop := .ready
          outcomes := s.executor.outcomes.set .commit ⟨.done, some (.node .panel), none⟩ }
      ∧ t.tunnel = { s.tunnel with permit := false, stall := none }
      ∧ t.unload = s.unload ∧ t.merge = s.merge ∧ t.dispatch = s.dispatch
      ∧ s.inputsKept t ∧ s.lineKept t ∧ t.draws = s.draws
      ∧ (s.present .panel = true → t.attention .panel = true) := by
  obtain ⟨executor, ⟨slots, lanes⟩, ⟨inputs, ⟨stored, working, single⟩, line⟩, ⟨_, _, unload, merge, dispatch⟩, draws⟩ :=
    State.writeOutcome_alone (s := s.committed) .commit .done (.node .panel) none
  obtain ⟨_, _, _, cells, _⟩ := id passes
  refine ⟨_, State.exec_commit idle (by rw [loop]; rfl), ?_⟩
  rw [State.takeCommit_passing loop passes.failure]
  refine ⟨rfl, working, stored, single, ?_, ?_, fun i _ => ?_, slots, executor, State.writeOutcome_tunnel _ _ _ _ _, unload,
    merge, dispatch, inputs, line, draws, fun present => ?_⟩
  · dsimp only
    rw [lanes]
    rfl
  · dsimp only
    rw [lanes]
    exact resizeCells_length _ _
  · dsimp only
    rw [lanes]
    exact resizeCells_join cells i
  · have there : s.committed.present .panel = true := present
    show (s.committed.writeOutcome .commit .done (.node .panel)).attention .panel = true
    rw [State.writeOutcome, State.attention_raiseMark]
    exact Bool.or_eq_true_iff.2 (.inr (Bool.and_eq_true_iff.2 ⟨rfl, there⟩))

end

/-- Settles O21: the checks are taken one by one, and a failing one writes its outcome alone. -/
theorem commitChecksAndApplies : Obligations.CommitChecksAndApplies := by
  unfold Obligations.CommitChecksAndApplies
  refine ⟨fun s idle => ⟨State.commit_applies idle, State.commit_illegal idle⟩, fun s idle loop => ?_⟩
  have fails {f : CommitFailure} := State.commit_fails (s := s) (f := f) idle loop
  refine ⟨fun bad => fails (State.commitFailure_layout ?_), fun good => ?_⟩
  · exact Bool.eq_false_iff.2 fun ok => bad ((Settings.zoneLayoutOk_iff _).1 ok)
  · have layout := (Settings.zoneLayoutOk_iff _).2 good
    refine ⟨fun e _ bad first => ?_, fun ordered => ?_⟩
    · refine fails (State.commitFailure_eye layout (Eye.find?_first ?_ fun d hd lt => ?_))
      · simpa [← Settings.eyeOrderOk_iff] using bad
      · simp [(Settings.eyeOrderOk_iff _ _).2 (first d hd lt)]
    · have eyes := State.eyes_ordered ordered
      refine ⟨fun k _ exceeds before => ?_, fun fit => ⟨fun i lt here first => ?_, fun free exceeds => ?_⟩⟩
      · exact fails (State.commitFailure_lane layout eyes (State.laneFills_first exceeds before))
      · exact fails (State.commitFailure_cell layout eyes (State.laneFills_fit fit) (Lanes.cellBeyond_first lt here first))
      · refine fails ?_
        rw [State.commitFailure_count layout eyes (State.laneFills_fit fit) (Lanes.cellBeyond_none free), if_pos exceeds]

end Sys2Proof.Machine
end

section
/-! Filters and effective temperatures stay in range, and what a credit sample makes of a zone (R97, R104 to R108). -/

namespace Sys2Proof.Machine

/-! ## One zone at a credit sample -/

section
variable {z : ZoneInput}

/-- With a temperature code, the filter is seeded or moved toward sixteen times it (R104, R105). -/
theorem ZoneInput.sampled_filter_code {v : Octet} (raw : z.raw = some v) (code : v ≠ 0xFF) :
    z.sampled.filter = if z.reseed then 16 * v.toNat else filterStep z.filter (16 * v.toNat) := by
  simp only [ZoneInput.sampled, raw, if_neg code]

/-- With no temperature code the filter is held (R106). -/
theorem ZoneInput.sampled_filter_held (none : z.raw = none ∨ z.raw = some 0xFF) : z.sampled.filter = z.filter := by
  rcases none with raw | raw <;> simp [ZoneInput.sampled, raw]

theorem ZoneInput.sampled_effective (z : ZoneInput) : z.sampled.effective = (z.sampled.filter + 8) / 16 := rfl

/-- A filter moved toward a goal does not pass it (R105). -/
theorem filterStep_between (old goal : Nat) : min old goal ≤ filterStep old goal ∧ filterStep old goal ≤ max old goal := by
  unfold filterStep
  split <;> omega

end

/-- The zones after a credit sample (R102). -/
theorem State.creditSample_zone (s : State) (z : Zone) :
    s.creditSample.heat.zones.get z = (s.heat.zones.get z).sampled := by
  obtain ⟨_, form⟩ := s.creditSample_form
  rw [form, PerZone.get_map]

/-! ## The range through every step -/

section
variable {s t : State}

theorem State.heatInRange_congr (h : s.heatInRange) (k : t.heat = s.heat) : t.heatInRange := fun z hz => k ▸ h z hz

theorem State.heatInRange_creditSample (h : s.heatInRange) : s.creditSample.heatInRange := fun z hz => by
  rw [State.creditSample_zone]
  exact ZoneInput.sampled_inRange (h z hz)

/-- What the line brings of a zone is its raw temperature, its pump and its reseed mark, no filter (R98 to R100). -/
theorem State.heatInRange_frame : FrameClosed (keeping State.heatInRange) where
  refl _ h := h
  trans h k p := k (h p)
  aside k h := State.heatInRange_congr h k.controlled.heat
  take s c i _ h := s.heatInRange_congr h (State.Kept.of_settled (s.take_settled c i)).heat
  line s l zones same h z hz := by
    obtain ⟨filter, effective⟩ := same z
    exact ⟨filter ▸ (h z hz).1, effective ▸ (h z hz).2⟩
  serve s n q h := s.heatInRange_congr h (s.serve_same [] n q .heat (by simp))
  answer _ _ h := h

theorem State.when_heat (s : State) (due : Bool) {f : State → State} (h : ∀ t : State, (f t).heat = t.heat) :
    (s.when due f).heat = s.heat := by
  unfold State.when
  split
  · exact h s
  · rfl

/-- After the credit sample no event of a millisecond writes the zones. -/
theorem State.afterExits_heat (s : State) : s.afterExits.heat = s.heat := by
  have control := State.same_closed []
  have stays {f : State → State} (h : ∀ t : State, t.SameBut [] (f t)) (t : State) : (f t).heat = t.heat :=
    h t .heat (by simp)
  unfold State.afterExits
  dsimp only
  rw [State.when_heat _ _ (stays control.settleTimerExpiry), State.when_heat _ _ (stays control.heatTimerExpiry),
    State.when_heat _ _ (stays (State.dispatchTimeout_same [])), State.when_heat _ _ (stays (State.mergeTimeout_same [])),
    State.when_heat _ _ (stays control.tunnelStall)]

theorem State.heatInRange_tick (h : s.heatInRange) : s.tick.heatInRange := by
  have before : s.beforeExits.heatInRange := by
    have counted : s.countTimers.jamsExpire.heatInRange := by
      unfold State.heatInRange
      rw [State.jamsExpire_heat]
      exact h
    unfold State.beforeExits State.when
    split
    · exact State.heatInRange_creditSample counted
    · exact counted
  have exits : (s.beforeExits.lanes.runOut.foldl State.exitMissing s.beforeExits).heat = s.beforeExits.heat :=
    (State.same_closed []).foldl _ (State.exitMissing_same []) _ .heat (by simp)
  rw [State.tick_eq]
  exact State.heatInRange_congr before ((State.afterExits_heat _).trans exits)

theorem State.heatInRange_reset : State.reset.heatInRange := by decide

theorem exec_heatInRange {c : Instr} (h : s.heatInRange) (e : exec c s = .next t) : t.heatInRange := by
  have next {u : State} (k : u.heatInRange) (f : (Host.Outcome.next u : Host.Outcome State Fault Refusal) = .next t) :
      t.heatInRange := Host.Outcome.next.inj f ▸ k
  have other (unwritten : .heat ∉ writes c) : t.heatInRange := s.heatInRange_congr h (exec_sameBut e .heat unwritten)
  cases c with
  | creditSample => exact next (State.heatInRange_creditSample h) e
  | frameEnd slots order => exact next (State.heatInRange_frame.frameEnd s slots order h) e
  | nodeAbsent n =>
    refine next ?_ e
    split
    · exact State.heatInRange_frame.becomeAbsent s n h
    · exact h
  | hardwareReset =>
    obtain rfl := Host.Outcome.next.inj e
    exact State.heatInRange_reset
  | _ => exact other (by simp [writes])

end

/-- Settles O55: only a credit sample writes a filter, and it moves it toward sixteen times a temperature code. -/
theorem heatStaysInRangeAtEveryStep : Obligations.HeatStaysInRangeAtEveryStep := by
  refine ⟨by decide, fun s t h e => ?_, fun s => ⟨s.creditSample, rfl, fun z _ => ?_⟩⟩
  · unfold step at e
    split at e
    · exact Host.Outcome.next.inj e ▸ State.heatInRange_tick h
    · rename_i rest _
      exact exec_heatInRange (s := { s with pending := rest }) h e
  · dsimp only
    rw [State.creditSample_zone]
    refine ⟨fun v raw code => ?_, ZoneInput.sampled_filter_held, ZoneInput.sampled_effective _⟩
    rw [ZoneInput.sampled_filter_code raw code]
    refine ⟨fun seed => if_pos seed, fun moved => ?_⟩
    rw [moved]
    exact filterStep_between _ _

end Sys2Proof.Machine
end

section
/-! A record becomes CLEAN only by the verdict at the end of the tunnel (R115, R116). -/

namespace Sys2Proof.Machine

/-! ## The changes of a record -/

section
variable {r : Record}

theorem Record.rejectedAt_clean {limit : Nat} (h : (r.rejectedAt limit).state = .clean) : r.rejectedAt limit = r := by
  unfold Record.rejectedAt at h ⊢
  split at h
  · cases h
  · rename_i stays
    rw [if_neg stays]

theorem stateByList_ne_clean (es : List LoadEntry) : stateByList es ≠ .clean := by
  unfold stateByList
  split <;> simp

theorem Record.passed_clean {e : Eye} {fix : FixPoint} {d : Diverter} (h : (r.passed e fix d).state = .clean) :
    r.state = .clean := by
  cases e with
  | en => cases h
  | ul => cases d <;> cases h
  | _ => exact h

theorem phantomRecord_ne_clean (e : Eye) (single : SingleSettings) (d : Diverter) :
    (phantomRecord e single d).state ≠ .clean := by
  cases e with
  | ul => cases d <;> simp [phantomRecord, Record.registered]
  | _ => simp [phantomRecord, Record.registered]

theorem Record.placed_clean {p : Place} (h : (r.placed p).state = .clean) : r.state = .clean := by
  cases p with
  | lp x => exact absurd h (stateByList_ne_clean _)
  | spur => cases h
  | ret => cases h
  | _ => exact h

theorem Record.loaded_clean {replace atLoading : Bool} {es : List LoadEntry}
    (h : (r.loaded replace es atLoading).state = .clean) : r.state = .clean := by
  cases atLoading with
  | true => exact absurd h (stateByList_ne_clean _)
  | false => cases replace <;> exact h

theorem Record.credited_state (r : Record) (t : Settings) (z : Zone) (i : ZoneInput) :
    (r.credited t z i).state = r.state := by
  unfold Record.credited
  repeat' split
  all_goals rfl

/-- The verdict CLEAN is that of no reason (R115): credit, rinse and sensor are as R116 has them. -/
theorem Record.judged_clean {t : Settings} (h : (r.judged t).state = .clean) :
    t.classTarget.get r.ceiling ≤ r.credit ∧ r.rinseSamples ≠ 0 ∧ (∀ k ∈ r.rinseMin, t.rinseFloor ≤ k)
      ∧ r.sensorFault = false := by
  have none : r.verdictReasons t = Reasons.none := by
    by_contra some
    simp [Record.judged, some] at h
  simp only [Record.verdictReasons, Reasons.none, Reasons.mk.injEq, decide_eq_false_iff_not] at none
  obtain ⟨credit, rinsed, warm, sensor, _⟩ := none
  refine ⟨by omega, rinsed, fun k hk => ?_, sensor⟩
  simpa [rinsed, Option.mem_def.1 hk] using warm

end

/-! ## No record becomes CLEAN -/

/-- Every record that is CLEAN in `t` is CLEAN in `s`. -/
def State.NoneCleaned (s t : State) : Prop :=
  ∀ n, (∃ w ∈ t.record n, w.state = .clean) → ∃ v ∈ s.record n, v.state = .clean

namespace State.NoneCleaned

variable {s t u : State}

theorem refl (s : State) : s.NoneCleaned s := fun _ h => h

theorem trans (h : s.NoneCleaned t) (k : t.NoneCleaned u) : s.NoneCleaned u := fun n clean => h n (k n clean)

theorem of_records (h : ∀ n, t.record n = s.record n) : s.NoneCleaned t := fun n clean => h n ▸ clean

theorem of_slots (h : t.slots = s.slots) : s.NoneCleaned t := of_records (State.record_congr h)

theorem of_controlled (h : s.Controlled t) : s.NoneCleaned t := of_slots h.slots

theorem of_settled (h : s.Settled t) : s.NoneCleaned t := by
  rcases h with h | ⟨_, h⟩ <;> exact of_slots h.slots

/-- One record changed, to one that is not CLEAN unless it was. -/
theorem of_update {m : RecNo} {f : Record → Record} (hf : ∀ r, (f r).state = .clean → r.state = .clean)
    (h : ∀ n, t.record n = if n = m then (s.record m).map f else s.record n) : s.NoneCleaned t := by
  rintro n ⟨w, hw, clean⟩
  rw [h] at hw
  split at hw
  · rename_i same
    obtain ⟨v, hv, rfl⟩ := Option.map_eq_some_iff.1 hw
    exact ⟨v, same ▸ hv, hf v clean⟩
  · exact ⟨w, hw, clean⟩

theorem updateRecord (s : State) (m : RecNo) {f : Record → Record} (hf : ∀ r, (f r).state = .clean → r.state = .clean) :
    s.NoneCleaned (s.updateRecord m f) := of_update hf fun n => s.record_updateRecord m n f

/-- One slot written, with no CLEAN record. -/
theorem of_slot {m : RecNo} {r : Option Record} (hr : ∀ v ∈ r, v.state ≠ .clean)
    (h : ∀ n, t.record n = if n = m then r else s.record n) : s.NoneCleaned t := by
  rintro n ⟨w, hw, clean⟩
  rw [h] at hw
  split at hw
  · exact absurd clean (hr w hw)
  · exact ⟨w, hw, clean⟩

end State.NoneCleaned

/-- A CLEAN record after an event has been seen is the record of the event itself: a new head of UNL is rejected or left
(R124, R125). -/
theorem State.observe_clean {s before : State} {cause : Option Cause} {n : RecNo} {w : Record}
    (h : (s.observe before cause).record n = some w) (clean : w.state = .clean) : s.record n = some w := by
  have slots : (s.observe before cause).slots = (s.takeNewHead before).slots := by
    rcases s.observe_settled before cause with k | ⟨_, k⟩ <;> exact k.slots
  rw [State.record_congr slots, State.record_takeNewHead] at h
  split at h
  · obtain ⟨v, hv, rfl⟩ := Option.map_eq_some_iff.1 h
    rw [Record.rejectedAt_clean clean]
    exact hv
  · exact h

theorem State.observe_noneCleaned (s before : State) (cause : Option Cause) : s.NoneCleaned (s.observe before cause) :=
  fun _ ⟨w, hw, clean⟩ => ⟨w, State.observe_clean hw clean, clean⟩

/-- What moves no rack makes no record CLEAN. -/
theorem State.noneCleaned_closed : BesideClosed State.NoneCleaned where
  refl := .refl
  trans := .trans
  beside h := .of_slots h.slots
  take s c i _ := .of_settled (s.take_settled c i)

/-! ## The trackpoints -/

section
variable (s : State) (e : Eye)

theorem State.reconcile_noneCleaned : s.NoneCleaned (s.reconcile e).state := by
  cases head : s.lanes.sourceHead e with
  | some n => exact .of_update (fun _ => Record.passed_clean) (State.record_ordinary head)
  | none =>
    have ended : s.NoneCleaned (s.endPermission e) := .of_slots (s.endPermission_slots e)
    by_cases ds : e = .ds
    · subst ds
      rw [State.phantom_ds head]
      exact ended
    · cases free : s.lowestFree with
      | none =>
        rw [State.phantom_tableFull head ds free]
        exact ended
      | some n =>
        exact .of_slot (r := some (phantomRecord e s.single s.unload.diverter))
          (fun v hv => Option.some.inj hv ▸ phantomRecord_ne_clean _ _ _) (State.record_phantom head ds free)

theorem State.passage_noneCleaned : s.NoneCleaned (s.passage e) :=
  ((s.reconcile_noneCleaned e).trans (.of_records fun _ => by simp)).trans (State.observe_noneCleaned _ _ _)

theorem State.handBlocked_noneCleaned : s.NoneCleaned (s.handBlocked e) := by
  have merge : s.NoneCleaned (s.mergeBlocked e) := by
    rcases s.mergeBlocked_cases e with ⟨_, h⟩ | ⟨_, _, _, _, h⟩ | ⟨_, _, _, _, h⟩ <;> rw [h]
    · exact .refl s
    · exact .of_slots (State.decideMerge_controlled _).slots
    · exact .of_slots rfl
  cases e with
  | outfeed x => exact merge
  | sp => exact merge
  | ds => rcases s.dispatchBlocked_cases with ⟨_, h⟩ | ⟨_, _, _, _, h⟩ | ⟨_, _, _, h⟩ <;>
      exact .of_slots (by rw [State.handBlocked, h])
  | _ => exact .of_slots rfl

theorem State.handDebris_noneCleaned : s.NoneCleaned (s.handDebris e) := by
  have merge (f : Window → Window) : s.NoneCleaned (s.mapMergeWindow e f) := by
    unfold State.mapMergeWindow
    repeat' split
    all_goals exact .of_slots rfl
  cases e with
  | outfeed x => exact merge (·.onDebris s.working.mergeWindow)
  | sp => exact merge (·.onDebris s.working.mergeWindow)
  | _ => exact .of_slots rfl

theorem State.handOn_noneCleaned (c : Classification) : s.NoneCleaned (s.handOn e c) := by
  have noted (k : AnomalyKind) : s.NoneCleaned (s.recordAnomaly e k none) := .of_records fun _ => by simp
  cases c with
  | one => exact s.passage_noneCleaned e
  | debris => exact (noted _).trans (State.handDebris_noneCleaned _ e)
  | double => exact ((noted _).trans (State.passage_noneCleaned _ e)).trans (State.passage_noneCleaned _ e)

theorem State.blockedEdge_noneCleaned : s.NoneCleaned (s.blockedEdge e) :=
  (State.NoneCleaned.of_slots (t := s.setEye e _) rfl).trans (State.handBlocked_noneCleaned _ e)

theorem State.clearEdge_noneCleaned : s.NoneCleaned (s.clearEdge e) := by
  unfold State.clearEdge
  dsimp only
  split
  · exact ((State.NoneCleaned.of_slots (t := s.setEye e _) rfl).trans (State.handOn_noneCleaned _ e _)).trans
      (.of_records (State.endBlockage_record _ e))
  · exact .of_slots rfl

end

/-- The samples of one millisecond make no record CLEAN (R53, R70). -/
theorem State.sampleAll_noneCleaned (s : State) (blocked : List Eye) (low : Bool) (order : List SampleInput) :
    s.NoneCleaned (s.sampleAll blocked low order) := by
  refine (State.noneCleaned_closed.foldl s (fun t i => ?_) (inOrder order sampleInputs)).trans (.of_slots rfl)
  cases i with
  | eye e =>
    show t.NoneCleaned (t.sampleEye e _)
    unfold State.sampleEye
    dsimp only
    repeat' split
    · exact .of_slots rfl
    · exact .of_slots rfl
    · exact t.blockedEdge_noneCleaned e
    · exact t.clearEdge_noneCleaned e
  | estop => exact State.noneCleaned_closed.sampleEstop t low

/-! ## The zones and the millisecond -/

section
variable (s : State)

theorem State.creditSample_noneCleaned : s.NoneCleaned s.creditSample :=
  (State.NoneCleaned.of_slots (t := { s with heat := ⟨s.heat.zones.map ZoneInput.sampled, s.working.creditPeriod⟩ })
    rfl).trans (State.noneCleaned_closed.foldl _
      (fun t _ => .updateRecord t _ fun r clean => (r.credited_state _ _ _).symm.trans clean) s.rackZones)

theorem State.exitMissing_noneCleaned (n : RecNo) : s.NoneCleaned (s.exitMissing n) := by
  unfold State.exitMissing
  split
  · exact (State.NoneCleaned.of_records fun _ => by simp).trans (State.observe_noneCleaned _ _ _)
  · exact .refl s

theorem State.when_noneCleaned (due : Bool) {f : State → State} (h : ∀ t : State, t.NoneCleaned (f t)) :
    s.NoneCleaned (s.when due f) := by
  unfold State.when
  split
  · exact h s
  · exact .refl s

theorem State.tick_noneCleaned : s.NoneCleaned s.tick := by
  have closed := State.noneCleaned_closed
  have jams : s.NoneCleaned s.countTimers.jamsExpire := (State.NoneCleaned.of_slots rfl).trans
    (closed.foldl s.countTimers (fun t _ => t.when_noneCleaned _ fun u => closed.declareJam u _) Eye.all)
  have exits : s.NoneCleaned (s.beforeExits.lanes.runOut.foldl State.exitMissing s.beforeExits) :=
    (jams.trans (State.when_noneCleaned _ _ State.creditSample_noneCleaned)).trans
      (closed.foldl _ State.exitMissing_noneCleaned _)
  rw [State.tick_eq]
  exact ((((exits.trans (State.when_noneCleaned _ _ closed.tunnelStall)).trans
    (State.when_noneCleaned _ _ closed.mergeTimeout)).trans (State.when_noneCleaned _ _ closed.dispatchTimeout)).trans
    (State.when_noneCleaned _ _ closed.heatTimerExpiry)).trans (State.when_noneCleaned _ _ closed.settleTimerExpiry)

end

/-! ## The requests and the line -/

section
variable (s : State)

theorem State.applyLoad_noneCleaned (m : RecNo) (replace finish : Bool) (es : List LoadEntry) :
    s.NoneCleaned (s.applyLoad m replace finish es) := by
  have loaded := State.NoneCleaned.updateRecord s m
    (f := fun r => r.loaded replace es (s.lanes.stationOf m).isSome) fun _ => Record.loaded_clean
  unfold State.applyLoad
  dsimp only
  refine (loaded.trans ?_).trans (State.observe_noneCleaned _ _ _)
  split
  · exact (State.NoneCleaned.updateRecord _ _ fun _ clean => by cases clean).trans (.of_slots rfl)
  · exact .refl _

theorem State.treatHead_noneCleaned (m : RecNo) {f : Record → Record} (hf : ∀ r, (f r).state ≠ .clean) :
    s.NoneCleaned (s.treatHead m f) :=
  (((State.NoneCleaned.of_slots (t := { s with unload := { s.unload with release := none } }) rfl).trans
    (.updateRecord _ m fun r clean => absurd clean (hf r))).trans (.of_slots (State.setDiverter_slots _))).trans
    (State.observe_noneCleaned _ _ _)

theorem State.anyCommand_noneCleaned (n : Node) (c : LineCommand) : s.NoneCleaned (s.serveCommand n c).state := by
  unfold State.serveCommand
  repeat' split
  · exact .refl s
  · exact .refl s
  · exact (State.NoneCleaned.of_controlled (s.setBit_controlled _ _)).trans (.of_settled (State.takeCommands_settled _))

/-- No request makes a record CLEAN (R193). -/
theorem State.serve_noneCleaned (n : Node) (q : Request) : s.NoneCleaned (s.serve n q).state := by
  have closed := State.noneCleaned_closed
  have observed {t : State} (h : s.NoneCleaned t) : s.NoneCleaned (t.observe s) := h.trans (t.observe_noneCleaned s none)
  cases q with
  | status => exact closed.serveStatus s n
  | readRack r => exact closed.serveReadRack s r
  | readLane p i => exact closed.serveReadLane s p i
  | register p =>
    have allocated (m : RecNo) (q : Place) :
        s.NoneCleaned ((s.setSlot m (some Record.registered)).withLanes (s.lanes.join q m)) :=
      .of_slot (m := m) (r := some Record.registered) (fun v hv => by rw [← Option.some.inj hv]; decide) fun k => by simp
    simp only [State.serve, State.serveRegister]
    repeat' split
    all_goals first
      | exact .refl s
      | exact observed (allocated _ _)
  | load r replace finish es =>
    simp only [State.serve, State.serveLoad]
    repeat' split
    all_goals first
      | exact .refl s
      | exact s.applyLoad_noneCleaned _ replace finish es
  | unloaded r =>
    simp only [State.serve, State.serveUnloaded]
    repeat' split
    all_goals first
      | exact .refl s
      | exact s.treatHead_noneCleaned _ fun _ => by simp [Record.emptied, Record.registered]
  | rewash r =>
    simp only [State.serve, State.serveRewash]
    repeat' split
    all_goals first
      | exact .refl s
      | exact s.treatHead_noneCleaned _ fun _ => by simp [Record.rewashed]
  | retire r =>
    have freed (m : RecNo) : s.NoneCleaned (((s.withdrawFor m).withLanes (s.lanes.remove m)).setSlot m none) :=
      .of_slot (m := m) (r := none) (by simp) fun k => by rw [State.record_setSlot]; rfl
    simp only [State.serve, State.serveRetire]
    repeat' split
    all_goals first
      | exact .refl s
      | exact observed (freed _)
  | place r p =>
    have placed (m : RecNo) (q : Place) (l : Lanes) :
        s.NoneCleaned ((s.updateRecord m (·.placed q)).withLanes l) :=
      (State.NoneCleaned.updateRecord s m fun _ => Record.placed_clean).trans (.of_slots rfl)
    simp only [State.serve, State.servePlace]
    repeat' split
    all_goals first
      | exact .refl s
      | exact observed (placed _ _ _)
  | purge =>
    have none (t : State) (h : t.slots = Vector.replicate 64 none) : s.NoneCleaned t := fun k ⟨w, hw, _⟩ => by
      rw [record_freed h] at hw
      cases hw
    simp only [State.serve, State.servePurge]
    repeat' split
    all_goals first
      | exact .refl s
      | exact observed (none _ rfl)
  | command c =>
    simp only [State.serve]
    split
    · exact s.anyCommand_noneCleaned n _
    · exact .refl s
  | set p i v =>
    obtain ⟨_, _, form⟩ := s.serveSet_form n p i v
    exact .of_slots (by rw [State.serve, form])
  | get p i => exact closed.serveGet s n p i

theorem State.noneCleaned_frame : FrameClosed State.NoneCleaned where
  toLineClosed := State.noneCleaned_closed.toLineClosed
  serve := State.serve_noneCleaned
  answer _ _ := .of_slots rfl

end

/-! ## Every command but the step -/

/-- No command but a step, and the encoder count that may be one, makes a record CLEAN (R116). -/
theorem exec_noneCleaned {c : Instr} {s t : State} (step : c ≠ .step) (count : c ≠ .encoderCount)
    (e : exec c s = .next t) : s.NoneCleaned t := by
  have next {u : State} (k : s.NoneCleaned u) (f : (Host.Outcome.next u : Host.Outcome State Fault Refusal) = .next t) :
      s.NoneCleaned t := Host.Outcome.next.inj f ▸ k
  have closed := State.noneCleaned_closed
  have request (n : Node) (q : Request) : s.NoneCleaned ((s.serve n q).answering n) :=
    (s.serve_noneCleaned n q).trans (.of_slots rfl)
  cases c with
  | register n p => exact next (request n (.register p)) e
  | load n r replace finish es => exact next (request n (.load r replace finish es)) e
  | unloaded n r => exact next (request n (.unloaded r)) e
  | rewash n r => exact next (request n (.rewash r)) e
  | retire n r => exact next (request n (.retire r)) e
  | place n r p => exact next (request n (.place r p)) e
  | purge n => exact next (request n .purge) e
  | set n p i v => exact next (request n (.set p i v)) e
  | commit n => exact next (closed.answering s _ n (s.anyCommand_noneCleaned n .commit)) e
  | blockedEdge x => exact next (closed.ifNot s _ (s.blockedEdge_noneCleaned x)) e
  | clearEdge x => exact next (closed.ifSo s _ (s.clearEdge_noneCleaned x)) e
  | encoderCount => exact absurd rfl count
  | step => exact absurd rfl step
  | exitMissing r => exact next (s.exitMissing_noneCleaned r) e
  | creditSample => exact next s.creditSample_noneCleaned e
  | frameEnd slots order => exact next (State.noneCleaned_frame.frameEnd s slots order) e
  | hardwareReset =>
    obtain rfl := Host.Outcome.next.inj e
    exact fun n ⟨w, hw, _⟩ => by simp [State.record, State.reset, Vector.get_eq_getElem] at hw
  | eyeSample blocked low order => exact next (s.sampleAll_noneCleaned blocked low order) e
  | _ => exact closed.exec rfl e

/-! ## The step -/

/-- A step makes only the record of the last cell CLEAN, by the verdict (R76, R115). -/
theorem State.stepTunnel_clean {s : State} {n : RecNo} {w : Record} (h : s.stepTunnel.record n = some w)
    (clean : w.state = .clean) (was : ∀ v ∈ s.record n, v.state ≠ .clean) :
    s.lanes.lastCell = some n ∧ ∃ v, s.record n = some v ∧ w = v.judged s.working := by
  have left : s.leaveTunnel.1.record n = some w := by
    unfold State.stepTunnel at h
    exact (State.observe_clean h clean :)
  rw [State.record_leaveTunnel] at left
  split at left
  · rename_i last
    obtain ⟨v, hv, judged⟩ := Option.map_eq_some_iff.1 left
    exact ⟨last, v, hv, judged.symm⟩
  · exact absurd clean (was w left)

/-- Settles O60: a step judges the record of the last cell, and nothing else makes a record CLEAN. -/
theorem cleanOnlyByTheVerdict : Obligations.CleanOnlyByTheVerdict := by
  intro s t n w e record clean was
  have unclean {u : State} (k : u.NoneCleaned t) (same : u.slots = s.slots) : False := by
    obtain ⟨v, hv, clean⟩ := k n ⟨w, record, clean⟩
    exact was v (State.record_congr same n ▸ hv) clean
  have stepped {rest : List Instr} (t_eq : t = ({ s with pending := rest } : State).stepTunnel) :
      s.lanes.lastCell = some n ∧ ∃ v, s.record n = some v ∧ w = v.judged s.working :=
    State.stepTunnel_clean (s := { s with pending := rest }) (t_eq ▸ record) clean was
  have judged : (s.pending.head? = some .step ∨ s.pending.head? = some .encoderCount)
      ∧ s.lanes.lastCell = some n ∧ ∃ v, s.record n = some v ∧ w = v.judged s.working := by
    unfold step at e
    split at e
    · exact (unclean (u := s) (Host.Outcome.next.inj e ▸ s.tick_noneCleaned) rfl).elim
    · rename_i c rest queue
      rw [queue]
      by_cases row : c = .step
      · subst row
        exact ⟨.inl rfl, stepped (Host.Outcome.next.inj e).symm⟩
      by_cases count : c = .encoderCount
      · subst count
        refine ⟨.inr rfl, ?_⟩
        have counted : t = ({ s with pending := rest } : State).countEncoder := (Host.Outcome.next.inj e).symm
        unfold State.countEncoder at counted
        split at counted
        · exact stepped counted
        · exact (unclean (u := t) (.refl t) (by rw [counted])).elim
      · exact (unclean (exec_noneCleaned row count e) rfl).elim
  obtain ⟨row, last, v, hv, rfl⟩ := judged
  obtain ⟨credit, rinsed, warm, sensor⟩ := Record.judged_clean clean
  refine ⟨row, last, credit, rinsed, warm, sensor, fun sound => ?_⟩
  obtain ⟨_, _, _, _, _, _, some⟩ := sound n v hv
  obtain ⟨k, hk⟩ := Option.ne_none_iff_exists'.1 (some rinsed)
  exact ⟨k, hk, warm k hk⟩

end Sys2Proof.Machine
end

section
/-! The credit sample, record by record (R102, R109 to R113). -/

namespace Sys2Proof.Machine

/-! ## One record -/

/-- Records updated one after the other: what becomes of one of them is what its own updates make of it. -/
theorem State.record_foldl_updateRecord {α : Type} (who : α → RecNo) (f : α → Record → Record) (ps : List α) (s : State)
    (n : RecNo) : (ps.foldl (fun t p => t.updateRecord (who p) (f p)) s).record n =
      (ps.filter fun p => who p = n).foldl (fun r p => r.map (f p)) (s.record n) := by
  induction ps generalizing s with
  | nil => rfl
  | cons p ps ih =>
    rw [List.foldl_cons, ih, State.record_updateRecord]
    by_cases own : who p = n
    · simp [own]
    · simp [own, Ne.symm own]

/-- A record after a credit sample: credited once for each of the cells it stands in (R111 to R113). -/
theorem State.record_creditSample (s : State) (n : RecNo) : s.creditSample.record n =
    (s.rackZones.filter fun p => p.1 = n).foldl
      (fun r p => r.map fun v => v.credited s.working p.2 (s.heat.zones.get p.2).sampled) (s.record n) := by
  have folded := State.record_foldl_updateRecord (·.1)
    (fun p r => r.credited s.working p.2 ((s.heat.zones.map ZoneInput.sampled).get p.2)) s.rackZones
    { s with heat := ⟨s.heat.zones.map ZoneInput.sampled, s.working.creditPeriod⟩ } n
  unfold State.creditSample
  simp only [PerZone.get_map] at folded ⊢
  exact folded

/-! ## The cells -/

section
variable {len : PerZone Nat} {n : RecNo}

theorem rackZonesFrom_absent {cells : List (Option RecNo)} (h : some n ∉ cells) (i : Nat) :
    (rackZonesFrom len i cells).filter (fun p => p.1 = n) = [] := by
  refine List.filter_eq_nil_iff.2 fun p hp => ?_
  obtain ⟨k, cell, _⟩ := mem_rackZonesFrom.1 hp
  have there := List.mem_of_getElem? cell
  simp only [decide_eq_true_eq]
  exact fun same => h (same ▸ there)

/-- A record that stands in one cell alone is listed once, with the zone of its cell (R79). -/
theorem rackZonesFrom_once {cells : List (Option RecNo)} {i k : Nat} {z : Zone} (once : cells.count (some n) = 1)
    (cell : cells[k]? = some (some n)) (zone : zoneOfCell len (i + k) = some z) :
    (rackZonesFrom len i cells).filter (fun p => p.1 = n) = [(n, z)] := by
  induction cells generalizing i k with
  | nil => simp at cell
  | cons c rest ih =>
    by_cases here : c = some n
    · subst here
      have gone : some n ∉ rest := List.count_eq_zero.1 (by simpa using once)
      obtain rfl : k = 0 := by
        by_contra later
        obtain ⟨j, rfl⟩ := Nat.exists_eq_succ_of_ne_zero later
        exact gone (List.mem_of_getElem? cell)
      rw [Nat.add_zero] at zone
      simp [rackZonesFrom, zone, rackZonesFrom_absent gone]
    · have later : k ≠ 0 := by
        rintro rfl
        exact here (Option.some.inj cell)
      obtain ⟨j, rfl⟩ := Nat.exists_eq_succ_of_ne_zero later
      have rest_once := ih (i := i + 1) (k := j) (by simpa [List.count_cons, here] using once) cell
        (by rw [← zone]; congr 1; omega)
      rw [← rest_once]
      cases c with
      | none => rfl
      | some m =>
        have other : m ≠ n := fun same => here (congrArg some same)
        simp only [rackZonesFrom]
        split
        · simp [other]
        · rfl

end

/-! ## The credit of a record in a cell (R109 to R113) -/

theorem ZoneInput.isValid_iff (i : ZoneInput) : i.isValid = true ↔ ∃ r ∈ i.raw, r ≠ 0xFF := by
  cases raw : i.raw <;> simp [ZoneInput.isValid, raw]

/-- The weight of a zone, read at its band (R109, R110). -/
theorem Settings.weight_eq (t : Settings) (z : Zone) (e : Nat) : t.weight z e =
    if e < t.zoneBase.get z then 0
    else (t.zoneWeight.get z).toList.getD (min 15 ((e - t.zoneBase.get z) / t.zoneStep.get z)) 0 := by
  unfold Settings.weight bandOf
  split_ifs with below
  · rfl
  · have band : min 15 ((e - t.zoneBase.get z) / t.zoneStep.get z) < 16 := by omega
    simp [Vector.get_eq_getElem, List.getD_eq_getElem?_getD, band]

/-- The filter after a step of R105, as an integer: a quarter of the difference, halves away from zero. -/
theorem filterStep_eq (old goal : Nat) : (filterStep old goal : Int) =
    old + if 0 ≤ (goal : Int) - old then (2 * ((goal : Int) - old) + 4) / 8 else -((-2 * ((goal : Int) - old) + 4) / 8) := by
  unfold filterStep
  split <;> split <;> omega

section
variable (i : ZoneInput)

theorem ZoneInput.sampled_raw : i.sampled.raw = i.raw := rfl

theorem ZoneInput.sampled_pump : i.sampled.pump = i.pump := rfl

/-- A credit sample ends the wait for a seed exactly where it finds a temperature code (R104). -/
theorem ZoneInput.sampled_reseed : i.sampled.reseed = (i.reseed && !i.isValid) := rfl

end

/-- A record credited in zone `z` (R111 to R113): by weight and rinse where the zone is VALID with its pump on. -/
theorem Record.credited_eq (v : Record) (t : Settings) (z : Zone) (i : ZoneInput) : v.credited t z i =
    if i.pump = false then v
    else if ∃ r ∈ i.raw, r ≠ 0xFF then
      if z = .finalRinse then
        { v with
          credit := min 65535 (v.credit + t.weight z i.effective)
          rinseMin := some (v.rinseMin.elim i.effective fun m => min m i.effective)
          rinseSamples := min 255 (v.rinseSamples + 1) }
      else { v with credit := min 65535 (v.credit + t.weight z i.effective) }
    else if z = .finalRinse then { v with sensorFault := true }
    else v := by
  have coldest : v.rinseMin.elim i.effective (min i.effective) = v.rinseMin.elim i.effective fun m => min m i.effective := by
    cases v.rinseMin with
    | none => rfl
    | some m => exact Nat.min_comm _ _
  simp only [Record.credited, ← ZoneInput.isValid_iff, coldest, Bool.not_eq_true']

/-- Settles O40: the zones are sampled one by one, and a record in one cell is credited once, by the zone of its cell. -/
theorem creditSampleFiltersAndCredits : Obligations.CreditSampleFiltersAndCredits := by
  intro s
  obtain ⟨slots, form⟩ := s.creditSample_form
  refine ⟨s.creditSample, rfl, by rw [form], by rw [form], fun z _ => ?_, fun n away => ?_, ?_⟩
  · dsimp only
    rw [State.creditSample_zone]
    refine ⟨rfl, rfl, rfl, fun v raw code => ?_, fun none => ⟨ZoneInput.sampled_filter_held none, ?_⟩⟩
    · rw [ZoneInput.sampled_filter_code raw code, ZoneInput.sampled_reseed, (ZoneInput.isValid_iff _).2 ⟨v, raw, code⟩]
      refine ⟨Bool.and_false _, fun seed => if_pos seed, fun moved => ?_⟩
      rw [moved, if_neg Bool.false_ne_true, filterStep_eq]
      norm_cast
    · have invalid : (s.heat.zones.get z).isValid = false := by
        rcases none with raw | raw <;> simp [ZoneInput.isValid, raw]
      rw [ZoneInput.sampled_reseed, invalid, Bool.not_false, Bool.and_true]
  · rw [State.record_creditSample, State.rackZones, rackZonesFrom_absent away]
    rfl
  · intro k _ n cell once z zone v hv
    dsimp only
    have listed : (s.rackZones.filter fun p => p.1 = n) = [(n, z)] :=
      rackZonesFrom_once once cell (by simpa using zone)
    rw [State.record_creditSample, listed, Option.mem_def.1 hv, State.creditSample_zone, ← Settings.weight_eq,
      ← Record.credited_eq]
    rfl

end Sys2Proof.Machine
end

section
/-! The absence of a node, and the channels that time out (R100, R169, R170, R181 to R187). -/

namespace Sys2Proof.Machine

/-! ## The line of an absent node (R181) -/

/-- The line of a node that has become absent: no code, no message and no mark. -/
def NodeLine.silent (v : NodeLine) : NodeLine :=
  { v with present := false, idleFrames := 8, acceptedCode := some 0xFF, channel := Channel.reset, attention := false }

/-- The node is silent and its code the first; the absence is still to be handed on. -/
def State.silenced (s : State) (n : Node) : State := (s.setNode n (s.line.nodes.get n).silent).firstCode n

theorem State.becomeAbsent_eq (s : State) (n : Node) : s.becomeAbsent n = (s.silenced n).absenceHandedOn n := rfl

theorem State.silenced_form (s : State) (n : Node) : s.silenced n = { s with line := (s.silenced n).line } := by
  cases n <;> rfl

theorem State.silenced_node (s : State) (n m : Node) : (s.silenced n).line.nodes.get m =
    if m = n then (s.line.nodes.get n).silent else s.line.nodes.get m := by
  rw [← State.setNode_node]
  cases n <;> rfl

theorem State.silenced_atFirstCode (s : State) (n : Node) : (s.silenced n).line.atFirstCode n = true := by
  cases n with
  | station x => simp [State.silenced, State.firstCode, State.setStationCode, Line.atFirstCode]
  | _ => rfl

/-- What the absence of node `n` leaves in every state: the line of `n` silent, the other lines but for their marks, the
racks and the inputs. -/
structure State.Silenced (s : State) (n : Node) (t : State) : Prop where
  node : t.line.nodes.get n = (s.line.nodes.get n).silent
  others : ∀ m, m ≠ n → t.line.nodes.get m = { s.line.nodes.get m with attention := t.attention m }
  first : t.line.atFirstCode n = true
  tunnelCode : n ≠ .tunnel → t.line.tunnelCode = s.line.tunnelCode
  driveCode : n ≠ .drive → t.line.driveCode = s.line.driveCode
  racks : s.racksKept t
  eyes : t.eyes = s.eyes
  estop : t.estop = s.estop
  settings : s.settingsKept t
  pitch : t.tunnel.pitch = s.tunnel.pitch
  admission : t.tunnel.admissionUsed = s.tunnel.admissionUsed

theorem State.silenced_silenced (s : State) (n : Node) (heat : Heat) : s.Silenced n { s.silenced n with heat := heat } where
  node := (s.silenced_node n n).trans (if_pos rfl)
  others m other := by
    have line : (s.silenced n).line.nodes.get m = s.line.nodes.get m := (s.silenced_node n m).trans (if_neg other)
    simp only [State.attention, line]
  first := s.silenced_atFirstCode n
  tunnelCode other := by
    cases n with
    | tunnel => exact absurd rfl other
    | _ => rfl
  driveCode other := by
    cases n with
    | drive => exact absurd rfl other
    | _ => rfl
  racks := by rw [s.silenced_form]; exact ⟨rfl, rfl⟩
  eyes := by rw [s.silenced_form]
  estop := by rw [s.silenced_form]
  settings := by rw [s.silenced_form]; exact ⟨rfl, rfl, rfl⟩
  pitch := by rw [s.silenced_form]
  admission := by rw [s.silenced_form]

/-- A mark raised is not that of the silent node, which is absent (R189). -/
theorem State.Silenced.controlled {s t u : State} {n : Node} (h : s.Silenced n t) (k : t.Controlled u) : s.Silenced n u where
  node := by
    have absent : t.present n = false := by rw [State.present, h.node]; rfl
    have mark : u.attention n = (t.line.nodes.get n).attention := k.marks.absent n absent
    rw [k.marks.node n, mark, h.node]
  others m other := by rw [k.marks.node m, h.others m other]
  first := by
    have line := h.first
    rw [k.marks.line]
    cases n <;> exact line
  tunnelCode other := by rw [k.marks.line]; exact h.tunnelCode other
  driveCode other := k.marks.driveCode.trans (h.driveCode other)
  racks := ⟨k.slots.trans h.racks.1, k.lanes.trans h.racks.2⟩
  eyes := k.eyes.trans h.eyes
  estop := k.estop.trans h.estop
  settings := by
    obtain ⟨stored, working, single⟩ := h.settings
    exact ⟨k.stored.trans stored, k.working.trans working, k.single.trans single⟩
  pitch := k.pitch.trans h.pitch
  admission := k.admission.trans h.admission

/-! ## The absence handed on (R183) -/

/-- The tunnel node absent, TUNNEL_ABSENT still to be raised (R100). -/
def State.zonesGone (s : State) : State :=
  { s.silenced .tunnel with heat := { s.heat with zones := s.heat.zones.map ZoneInput.absent } }

section
variable {s : State}

/-- TUNNEL_ABSENT is raised in STARTING and in RUN (R169). -/
theorem State.becomeAbsent_tunnel_held (loop : s.executor.loop = .run ∨ ∃ o i, s.executor.loop = .starting o i) :
    s.becomeAbsent .tunnel = s.zonesGone.raiseHold .tunnelAbsent := by
  have same : (s.silenced .tunnel).executor.loop = s.executor.loop := rfl
  rw [State.becomeAbsent_eq, State.absenceHandedOn, same]
  rcases loop with run | ⟨o, i, starting⟩
  · rw [run]
    rfl
  · rw [starting]
    rfl

theorem State.becomeAbsent_tunnel_quiet (run : s.executor.loop ≠ .run) (starting : ∀ o i, s.executor.loop ≠ .starting o i) :
    s.becomeAbsent .tunnel = s.zonesGone := by
  have same : (s.silenced .tunnel).executor.loop = s.executor.loop := rfl
  rw [State.becomeAbsent_eq, State.absenceHandedOn, same]
  cases loop : s.executor.loop with
  | run => exact absurd loop run
  | starting o i => exact absurd loop (starting o i)
  | _ => rfl

theorem State.becomeAbsent_drive : s.becomeAbsent .drive = (s.silenced .drive).raiseStop .driveAbsent := rfl

variable (idle : s.nonePending) (quiet : s.executor.drain = none)
include idle quiet

/-- The absence writes the executor and the permissions by the cause it raises alone. -/
theorem State.becomeAbsent_silenced (n : Node) : s.Silenced n (s.becomeAbsent n)
    ∧ (s.becomeAbsent n).heat = if n = .tunnel then s.zonesGone.heat else s.heat := by
  cases n with
  | tunnel =>
    have gone := s.silenced_silenced .tunnel s.zonesGone.heat
    by_cases loop : s.executor.loop = .run ∨ ∃ o i, s.executor.loop = .starting o i
    · obtain ⟨_, _, _, control⟩ := State.raiseHold_held (s := s.zonesGone) .tunnelAbsent quiet idle
      rw [State.becomeAbsent_tunnel_held loop]
      exact ⟨gone.controlled control, control.heat⟩
    · obtain ⟨run, starting⟩ := not_or.1 loop
      rw [State.becomeAbsent_tunnel_quiet run fun o i h => starting ⟨o, i, h⟩]
      exact ⟨gone, rfl⟩
  | drive =>
    have gone := s.silenced_silenced .drive s.heat
    obtain ⟨_, _, _, control⟩ := State.raiseStop_stopped (s := s.silenced .drive) .driveAbsent idle
    exact ⟨gone.controlled control, control.heat⟩
  | _ => exact ⟨s.silenced_silenced _ s.heat, rfl⟩

theorem State.becomeAbsent_tunnel_heldBy (loop : s.executor.loop = .run ∨ ∃ o i, s.executor.loop = .starting o i) :
    s.heldBy (s.becomeAbsent .tunnel) .tunnelAbsent ∧ s.permissionsLeft (s.becomeAbsent .tunnel) := by
  obtain ⟨held, _⟩ := State.raiseHold_held (s := s.zonesGone) .tunnelAbsent quiet idle
  rw [State.becomeAbsent_tunnel_held loop]
  exact ⟨State.heldBy_congr rfl rfl rfl held, State.permissionsLeft_after (t := s.zonesGone) ⟨rfl, rfl, rfl, rfl, rfl⟩ rfl
    (State.raiseHold_permissions .tunnelAbsent quiet idle)⟩

omit quiet in
theorem State.becomeAbsent_drive_stopped : s.stopTaken (s.becomeAbsent .drive) .internal
    ∧ s.permissionsLeft (s.becomeAbsent .drive)
    ∧ (s.becomeAbsent .drive).executor.stopCauses = { s.executor.stopCauses with driveAbsent := true } := by
  obtain ⟨⟨taken, causes⟩, _⟩ := State.raiseStop_stopped (s := s.silenced .drive) .driveAbsent idle
  exact ⟨State.stopTaken_congr (u := s.silenced .drive) rfl taken,
    State.permissionsLeft_after (t := s.silenced .drive) ⟨rfl, rfl, rfl, rfl, rfl⟩ rfl
      (State.raiseStop_permissions .driveAbsent idle), causes⟩

end

/-! ## The channels (R185, R186) -/

theorem State.setChannel_self (s : State) (n : Node) : s.setChannel n (s.channel n) = s := by
  have nodes : s.line.nodes.set n (s.line.nodes.get n) = s.line.nodes := PerNode.ext_get fun m => by
    rw [PerNode.get_set]
    split
    · rename_i same
      rw [same]
    · rfl
  show { s with line := { s.line with nodes := s.line.nodes.set n (s.line.nodes.get n) } } = s
  rw [nodes]

theorem Channel.timeOut_receiving {c : Channel} (h : c.state = .receiving) :
    c.timeOut = { c with state := .discarding, request := [], frames := 64 } := by
  rw [Channel.timeOut, h]

theorem Channel.timeOut_other {c : Channel} (h : c.state ≠ .receiving) : c.timeOut = c := by
  unfold Channel.timeOut
  split
  · exact absurd ‹_› h
  all_goals rfl

theorem Channel.drop_sending {c : Channel} (h : c.state = .sending) :
    c.drop = { c with state := .idle, response := [], index := 0, frames := 64 } := by
  rw [Channel.drop, h]

theorem Channel.drop_other {c : Channel} (h : c.state ≠ .sending) : c.drop = c := by
  unfold Channel.drop
  split
  · exact absurd ‹_› h
  all_goals rfl

/-- Settles O47: the absent node falls silent, and the cause its absence raises does the rest; a channel's timeout writes
the channel alone. -/
theorem nodeAbsenceIsHandedOn : Obligations.NodeAbsenceIsHandedOn := by
  refine ⟨fun s n idle quiet => ⟨fun absent => ?_, fun present => ?_⟩, fun s n => ⟨?_, ?_, ?_, ?_⟩⟩
  · exact congrArg Host.Outcome.next (if_neg (by simp [absent]))
  · obtain ⟨gone, heat⟩ := State.becomeAbsent_silenced idle quiet n
    refine ⟨s.becomeAbsent n, congrArg Host.Outcome.next (if_pos present), gone.node, fun m _ => gone.others m, gone.first,
      fun other => ⟨heat.trans (if_neg other), gone.tunnelCode other⟩, gone.driveCode, ?_, ?_, ?_, gone.racks, gone.eyes,
      gone.estop, gone.settings, gone.pitch, gone.admission⟩
    · rintro rfl
      rw [if_pos rfl] at heat
      refine ⟨by rw [heat]; rfl, fun z _ => ?_, fun active => ?_, fun run starting => ?_⟩
      · rw [heat]
        exact PerZone.get_map _ _ z
      · refine State.becomeAbsent_tunnel_heldBy idle quiet (active.imp id ?_)
        rintro ⟨busy, holding⟩
        cases loop : s.executor.loop with
        | starting o i => exact ⟨o, i, rfl⟩
        | holding i => exact absurd loop (holding i)
        | _ => simp [loop, LoopState.isBusy] at busy
      · rw [State.becomeAbsent_tunnel_quiet run starting]
        exact ⟨rfl, rfl, rfl, rfl, rfl, rfl⟩
    · rintro rfl
      exact State.becomeAbsent_drive_stopped idle
    · intro tunnel drive
      cases n with
      | tunnel => exact absurd rfl tunnel
      | drive => exact absurd rfl drive
      | _ => exact ⟨rfl, rfl, rfl, rfl, rfl, rfl⟩
  · intro receiving
    exact congrArg (fun c => Host.Outcome.next (s.setChannel n c)) (Channel.timeOut_receiving receiving)
  · intro other
    exact congrArg Host.Outcome.next ((congrArg (s.setChannel n) (Channel.timeOut_other other)).trans (s.setChannel_self n))
  · intro sending
    exact congrArg (fun c => Host.Outcome.next (s.setChannel n c)) (Channel.drop_sending sending)
  · intro other
    exact congrArg Host.Outcome.next ((congrArg (s.setChannel n) (Channel.drop_other other)).trans (s.setChannel_self n))

end Sys2Proof.Machine
end

section
/-! What the separate events of a frame end write of the line and of the zones, whatever they bring about beside it (R98 to
R100, R180 to R183, R187). -/

namespace Sys2Proof.Machine

/-! ## The held code of a node, whatever its role (R179, R181) -/

/-- The codes of a role; the panel and the unload node have one code only. -/
abbrev HeldCode : Node → Type
  | .panel | .unload => Unit
  | .tunnel => TunnelCode
  | .drive => DriveCode
  | .station _ => StationCode

/-- The code an octet carries to a node, none where it is undefined for the role. -/
def codeFor : (n : Node) → Octet → Option (HeldCode n)
  | .panel | .unload => fun _ => none
  | .tunnel => tunnelCodeOf
  | .drive => driveCodeOf
  | .station _ => stationCodeOfOctet

/-- The first code of a role. -/
def firstFor : (n : Node) → HeldCode n
  | .panel | .unload => ()
  | .tunnel => .off
  | .drive => .off
  | .station _ => .idle

/-- The code held for a node. -/
def Line.held (l : Line) : (n : Node) → HeldCode n
  | .panel | .unload => ()
  | .tunnel => l.tunnelCode
  | .drive => l.driveCode
  | .station x => l.stationCode.get x

/-- The code held for a node is written. -/
def State.hold (s : State) : (n : Node) → HeldCode n → State
  | .panel | .unload => fun _ => s
  | .tunnel => s.setTunnelCode
  | .drive => s.setDriveCode
  | .station x => s.setStationCode x

theorem Line.atFirstCode_iff (l : Line) (n : Node) : l.atFirstCode n = true ↔ l.held n = firstFor n := by
  cases n <;> simp [Line.atFirstCode, Line.held, firstFor]

section
variable (s : State) {n : Node}

theorem State.hold_nodes (c : HeldCode n) : (s.hold n c).line.nodes = s.line.nodes := by
  cases n <;> rfl

theorem State.hold_node (c : HeldCode n) (m : Node) : (s.hold n c).line.nodes.get m = s.line.nodes.get m := by
  rw [State.hold_nodes]

theorem State.hold_form (c : HeldCode n) : s.hold n c = { s with line := (s.hold n c).line } := by
  cases n <;> rfl

theorem State.hold_heat (c : HeldCode n) : (s.hold n c).heat = s.heat := by
  cases n <;> rfl

theorem State.hold_slots (c : HeldCode n) : (s.hold n c).line.acceptedTemperature = s.line.acceptedTemperature
    ∧ (s.hold n c).line.acceptedPump = s.line.acceptedPump := by
  cases n <;> exact ⟨rfl, rfl⟩

@[simp] theorem State.held_hold (c : HeldCode n) : (s.hold n c).line.held n = c := by
  cases n with
  | station x => simp [State.hold, State.setStationCode, Line.held]
  | _ => rfl

theorem State.held_hold_other (c : HeldCode n) {m : Node} (other : m ≠ n) : (s.hold n c).line.held m = s.line.held m := by
  cases n with
  | station x =>
    cases m with
    | station y =>
      have : y ≠ x := fun same => other (congrArg _ same)
      simp [State.hold, State.setStationCode, Line.held, this]
    | _ => rfl
  | _ =>
    cases m <;> first
      | exact absurd rfl other
      | rfl

theorem State.hold_held (n : Node) : s.hold n (s.line.held n) = s := by
  cases n with
  | station x => simp only [State.hold, State.setStationCode, Line.held, PerStation.set_get]
  | _ => rfl

theorem State.held_setNode (m : Node) (v : NodeLine) : (s.setNode m v).line.held n = s.line.held n := by
  cases n <;> rfl

theorem State.firstCode_eq (n : Node) : s.firstCode n = s.hold n (firstFor n) := by
  cases n <;> rfl

end

theorem PerNode.set_set {α : Type} (v : PerNode α) (n : Node) (x y : α) : (v.set n x).set n y = v.set n y :=
  PerNode.ext_get fun m => by
    simp only [PerNode.get_set]
    split <;> rfl

theorem State.setNode_setNode (s : State) (n : Node) (v w : NodeLine) : (s.setNode n v).setNode n w = s.setNode n w := by
  simp [State.setNode, PerNode.set_set]

/-! ## What stands of the line and the zones beside an event -/

/-- The nodes' lines stand but for channels and marks, and those of absent nodes at rest stay at rest; the codes, the
accepted slots and the zones stand. -/
structure State.LineStands (s t : State) : Prop where
  nodes : s.NodesStay t
  line : t.line = { s.line with nodes := t.line.nodes }
  zones : t.heat.zones = s.heat.zones
  quiet : ∀ m, (s.line.nodes.get m).quietIfAbsent → (t.line.nodes.get m).quietIfAbsent

namespace State.LineStands

variable {s t u : State}

theorem refl (s : State) : s.LineStands s := ⟨.refl s, rfl, rfl, fun _ h => h⟩

theorem trans (h : s.LineStands t) (k : t.LineStands u) : s.LineStands u :=
  ⟨h.nodes.trans k.nodes, by rw [k.line, h.line], k.zones.trans h.zones, fun m q => k.quiet m (h.quiet m q)⟩

theorem present (h : s.LineStands t) (m : Node) : t.present m = s.present m := (h.nodes m).1

theorem held (h : s.LineStands t) (n : Node) : t.line.held n = s.line.held n := by
  rw [h.line]
  cases n <;> rfl

/-- Marks raised are not those of absent nodes (R189). -/
theorem of_marks (marks : s.OnlyMarks t) (zones : t.heat.zones = s.heat.zones) : s.LineStands t where
  nodes m := by
    rw [marks.node m]
    exact ⟨rfl, rfl, rfl, rfl⟩
  line := marks.line
  zones := zones
  quiet m h gone := by
    rw [marks.node m] at gone
    obtain ⟨rest, mark⟩ := h gone
    have kept : t.attention m = s.attention m := marks.absent m gone
    rw [marks.node m]
    exact ⟨rest, kept.trans mark⟩

theorem of_kept (h : s.Kept t) : s.LineStands t := of_marks h.marks (by rw [h.heat])

theorem of_line (line : t.line = s.line) (zones : t.heat.zones = s.heat.zones) : s.LineStands t :=
  of_marks ⟨by rw [line], fun n => by simp [State.attention, line], fun n _ => by simp [State.attention, line],
    fun n h => by simpa [State.attention, line] using h⟩ zones

/-- The channel or the mark of one node is written, at rest where the node is absent. -/
theorem of_node {n : Node} {c : Channel} {mark : Bool}
    (rest : (s.line.nodes.get n).quietIfAbsent → s.present n = false → c = Channel.reset ∧ mark = false) :
    s.LineStands (s.setNode n { s.line.nodes.get n with channel := c, attention := mark }) where
  nodes m := by
    rw [State.setNode_node]
    split
    · rename_i same
      rw [same]
      exact ⟨rfl, rfl, rfl, rfl⟩
    · exact ⟨rfl, rfl, rfl, rfl⟩
  line := rfl
  zones := rfl
  quiet m h := by
    rw [State.setNode_node]
    split
    · rename_i same
      subst same
      exact rest h
    · exact h

theorem of_channel {n : Node} (here : s.present n = true) (c : Channel) : s.LineStands (s.setChannel n c) :=
  of_node fun _ gone => absurd here (by simp [gone])

end State.LineStands

/-! ## The message channels (R184 to R187) -/

section
variable (s : State)

/-- A request but STATUS raises marks at most on the line (R193). -/
theorem State.serve_onlyMarks (n : Node) {q : Request} (hq : q ≠ .status) : s.OnlyMarks (s.serve n q).state := by
  cases q with
  | status => exact absurd rfl hq
  | readRack r =>
    simp only [State.serve, State.serveReadRack]
    repeat' split
    all_goals exact .refl s
  | readLane p i =>
    simp only [State.serve, State.serveReadLane]
    split <;> exact .refl s
  | register p =>
    simp only [State.serve, State.serveRegister]
    repeat' split
    all_goals first
      | exact .refl s
      | exact (s.allocate_kept _ _).marks
  | load r replace finish es =>
    simp only [State.serve, State.serveLoad]
    repeat' split
    all_goals first
      | exact .refl s
      | exact (s.applyLoad_kept _ replace finish es).marks
  | unloaded r =>
    simp only [State.serve, State.serveUnloaded]
    repeat' split
    all_goals first
      | exact .refl s
      | exact (s.treatHead_kept _ _).marks
  | rewash r =>
    simp only [State.serve, State.serveRewash]
    repeat' split
    all_goals first
      | exact .refl s
      | exact (s.treatHead_kept _ _).marks
  | retire r =>
    simp only [State.serve, State.serveRetire]
    repeat' split
    all_goals first
      | exact .refl s
      | exact (s.retire_kept _).marks
  | place r p =>
    simp only [State.serve, State.servePlace]
    repeat' split
    all_goals first
      | exact .refl s
      | exact (s.placeRack_kept _ _).marks
  | purge =>
    simp only [State.serve, State.servePurge]
    repeat' split
    all_goals first
      | exact .refl s
      | exact s.purge_kept.marks
  | command c =>
    simp only [State.serve]
    split
    · exact (s.serveCommand_kept n _).marks
    · exact .refl s
  | set p i v =>
    obtain ⟨_, _, form⟩ := s.serveSet_form n p i v
    rw [State.serve, form]
    exact ⟨rfl, fun _ => rfl, fun _ _ => rfl, fun _ h => h⟩
  | get p i =>
    simp only [State.serve, State.serveGet]
    repeat' split
    all_goals exact .refl s

/-- STATUS clears the mark of its sender (R195). -/
theorem State.serveStatus_stands (n : Node) : s.LineStands (s.serveStatus n).state := by
  have cleared (t : State) : t.LineStands (t.clearMark n) := .of_node fun h gone => ⟨(h gone).1, rfl⟩
  unfold State.serveStatus
  dsimp only
  split
  · refine .trans ?_ (cleared _)
    exact .of_line rfl rfl
  · exact cleared s

theorem State.serveMessage_stands (n : Node) (message : List Octet) : s.LineStands (s.serveMessage n message).state := by
  unfold State.serveMessage
  split
  · rename_i q _
    by_cases status : q = .status
    · subst status
      exact s.serveStatus_stands n
    · exact .of_marks (s.serve_onlyMarks n status) (by rw [s.serve_same [] n q .heat (by simp)])
  · unfold State.refuseMessage
    repeat' split
    all_goals exact .refl s

variable {s} {n : Node} (here : s.present n = true)
include here

theorem State.takeOctet_stands (o w : Octet) : s.LineStands (s.takeOctet n o w) := by
  have taken := State.LineStands.of_channel here ((s.channel n).take o w)
  unfold State.takeOctet
  dsimp only
  split
  · have served := (taken.trans (State.serveMessage_stands _ n _)).trans
      (.of_line (t := ((s.setChannel n ((s.channel n).take o w)).serveMessage n
        ((s.channel n).take o w).request).answering n) rfl rfl)
    exact served.trans (.of_channel ((served.present n).trans here) _)
  · exact taken

/-- A present node's message pair is a matter of its channel and of the request it may end (R185, R186). -/
theorem State.acceptPair_stands (p : Octet × Octet) : s.LineStands (s.acceptPair n p) := by
  unfold State.acceptPair
  dsimp only
  repeat' split
  all_goals first
    | exact .refl s
    | exact State.takeOctet_stands here _ _
    | exact .of_channel here _

end

/-! ## Codes, presence and absence -/

section
variable (s : State)

/-- An accepted code is held where it is defined for the role (R182). -/
theorem State.acceptCode_stands (n : Node) (v : Octet) :
    (s.hold n ((codeFor n v).getD (s.line.held n))).LineStands (s.acceptCode n v) := by
  have control := State.kept_closed
  have keeps : (s.hold n (s.line.held n)).LineStands s := by
    rw [s.hold_held]
    exact .refl s
  have changes {c : HeldCode n} {t : State} (code : codeFor n v = some c) (k : (s.hold n c).Kept t) :
      (s.hold n ((codeFor n v).getD (s.line.held n))).LineStands t := by
    rw [code]
    exact .of_kept k
  have undefined (code : codeFor n v = none) : (s.hold n ((codeFor n v).getD (s.line.held n))).LineStands s := by
    rw [code]
    exact keeps
  cases n with
  | panel => exact .refl s
  | unload => exact .refl s
  | tunnel =>
    simp only [State.acceptCode]
    split
    · rename_i c code
      split
      · rename_i same
        subst same
        have none : (codeFor .tunnel v).getD (s.line.held .tunnel) = s.line.held .tunnel := by
          rw [show codeFor .tunnel v = some s.line.tunnelCode from code]
          rfl
        rw [none]
        exact keeps
      · exact changes code (control.tunnelChanged _)
    · exact undefined ‹_›
  | drive =>
    simp only [State.acceptCode]
    split
    · rename_i c code
      split
      · rename_i same
        subst same
        have none : (codeFor .drive v).getD (s.line.held .drive) = s.line.held .drive := by
          rw [show codeFor .drive v = some s.line.driveCode from code]
          rfl
        rw [none]
        exact keeps
      · exact changes code (control.driveChanged _)
    · exact undefined ‹_›
  | station x =>
    simp only [State.acceptCode]
    split
    · exact changes ‹_› (control.stationChanged _ _ _)
    · exact undefined ‹_›

/-- Bit z of a pump map is the flag of zone z (R99). -/
theorem State.handPumps_zone (v : Octet) (z : Zone) :
    (s.handPumps v).heat.zones.get z = { s.heat.zones.get z with pump := v.getLsbD z.number } := by
  cases z <;> rfl

/-- The accepted temperatures handed on zone by zone (R183): `hand` is what is done for one zone. -/
theorem State.handTemperatures_zone {hand : State → Zone → State} {slot : PerZone (Option Octet)} (z : Zone)
    (one : ∀ t y, (hand t y).heat.zones.get z =
      if z = y then { t.heat.zones.get z with raw := (slot.get z).or (t.heat.zones.get z).raw } else t.heat.zones.get z) :
    (Zone.all.foldl hand s).heat.zones.get z =
      { s.heat.zones.get z with raw := (slot.get z).or (s.heat.zones.get z).raw } := by
  simp only [Zone.all, List.foldl_cons, List.foldl_nil, one]
  cases z <;> simp

/-- What a zone holds once the accepted slots are handed to it (R183). -/
theorem State.handAccepted_zone (z : Zone) : s.handAccepted.heat.zones.get z =
    { s.heat.zones.get z with
      raw := (s.line.acceptedTemperature.get z).or (s.heat.zones.get z).raw
      pump := s.line.acceptedPump.elim (s.heat.zones.get z).pump (·.getLsbD z.number) } := by
  have one (t : State) (y : Zone) {u : State} (hand : ∀ v, s.line.acceptedTemperature.get y = some v →
      u = t.handTemperature y v) (none : s.line.acceptedTemperature.get y = none → u = t) :
      u.heat.zones.get z = if z = y then { t.heat.zones.get z with
        raw := (s.line.acceptedTemperature.get z).or (t.heat.zones.get z).raw } else t.heat.zones.get z := by
    by_cases same : z = y
    · subst same
      rw [if_pos rfl]
      cases slot : s.line.acceptedTemperature.get z with
      | none => rw [none slot]; rfl
      | some v => rw [hand v slot, State.handTemperature, PerZone.get_set, if_pos rfl]; rfl
    · rw [if_neg same]
      cases slot : s.line.acceptedTemperature.get y with
      | none => rw [none slot]
      | some v => rw [hand v slot, State.handTemperature, PerZone.get_set, if_neg same]
  unfold State.handAccepted
  dsimp only
  split
  · rename_i v pumps
    rw [State.handPumps_zone, s.handTemperatures_zone (slot := s.line.acceptedTemperature) z, pumps]
    · rfl
    · exact fun t y => one t y (fun v slot => by rw [slot]) fun slot => by rw [slot]
  · rename_i pumps
    rw [s.handTemperatures_zone (slot := s.line.acceptedTemperature) z, pumps]
    · rfl
    · exact fun t y => one t y (fun v slot => by rw [slot]) fun slot => by rw [slot]

end

end Sys2Proof.Machine
end

section
/-! The separate events of a frame end: what each writes of the line and the zones, and what stands beside it (R180 to
R183, R187). -/

namespace Sys2Proof.Machine

/-! ## What an event writes -/

section
variable (s : State) (n : Node)

/-- A code has been accepted, and is still to be treated (R180). -/
abbrev State.heard (code : Octet) : State := s.setNode n { s.line.nodes.get n with acceptedCode := some code }

/-- A present node has accepted a code, defined for its role or not (R182). -/
def State.coded (code : Octet) : State :=
  (s.heard n code).hold n ((codeFor n code).getD (s.line.held n))

/-- A node has become present with a code; the accepted slots are handed on with the tunnel node's (R181, R183). -/
def State.joined (code : Octet) : State :=
  let t := (s.setNode n { s.line.nodes.get n with acceptedCode := some code, present := true }).hold n
    ((codeFor n code).getD (firstFor n))
  if n = .tunnel then t.handAccepted else t

/-- A node has become absent, and with the tunnel node every zone's data (R100, R181). -/
def State.left : State :=
  { s.silenced n with heat :=
      if n = .tunnel then { s.heat with zones := s.heat.zones.map ZoneInput.absent } else s.heat }

/-- What a separate event of a frame end writes of the line and the zones, but for channels and marks. -/
def State.booked (before : Option (List Octet)) (now : List Octet) : FrameEvent → State
  | .code n =>
    if doubleLook (before.map fun b => codeSlot b n) (codeSlot now n) (s.line.nodes.get n).acceptedCode then
      if s.present n then s.coded n (codeSlot now n)
      else if codeSlot now n = 0xFF then s.heard n (codeSlot now n)
      else s.joined n (codeSlot now n)
    else s
  | .absent n => if (s.line.nodes.get n).present && (s.line.nodes.get n).idleFrames = 8 then s.left n else s
  | .message n =>
    if doubleLook (before.map fun b => messageSlots b n) (messageSlots now n) (s.line.nodes.get n).acceptedPair then
      s.setNode n { s.line.nodes.get n with acceptedPair := some (messageSlots now n) }
    else s
  | .temperature z => s.frameEvent before now (.temperature z)
  | .pumpMap => s.frameEvent before now .pumpMap
  | .count _ => s

/-! ## What stands beside it -/

theorem PerZone.ext_get {α : Type} {v w : PerZone α} (h : ∀ z, v.get z = w.get z) : v = w := by
  cases v
  cases w
  have preWash := h .preWash
  have wash := h .wash
  have powerRinse := h .powerRinse
  have finalRinse := h .finalRinse
  have dryer := h .dryer
  simp only [PerZone.get] at preWash wash powerRinse finalRinse dryer
  simp [preWash, wash, powerRinse, finalRinse, dryer]

/-- What is handed to the zones is read from the accepted slots and the zones alone. -/
theorem State.handAccepted_heat {s t : State} (h : s.LineStands t) : s.handAccepted.LineStands t.handAccepted where
  nodes m := by
    rw [State.handAccepted_line, State.handAccepted_line]
    exact h.nodes m
  line := by
    rw [State.handAccepted_line, State.handAccepted_line]
    exact h.line
  zones := PerZone.ext_get fun z => by rw [State.handAccepted_zone, State.handAccepted_zone, h.zones, h.line]
  quiet m := by
    rw [State.handAccepted_line, State.handAccepted_line]
    exact h.quiet m

theorem State.acceptCode_coded (code : Octet) : (s.coded n code).LineStands
    ((s.heard n code).acceptCode n code) := by
  unfold State.coded
  rw [← s.held_setNode n]
  exact State.acceptCode_stands _ n code

theorem State.becomePresent_joined (code : Octet) : (s.joined n code).LineStands
    ((s.heard n code).becomePresent n code) := by
  have control := State.kept_closed
  have written : (s.heard n code).setNode n
      { (s.heard n code).line.nodes.get n with present := true } =
      s.setNode n { s.line.nodes.get n with acceptedCode := some code, present := true } := by
    rw [State.setNode_setNode, State.setNode_node, if_pos rfl]
  have present : (s.joined n code).LineStands
      ((s.heard n code).presentWith n code) := by
    unfold State.joined State.presentWith
    rw [written]
    cases n with
    | panel => exact .refl _
    | unload => exact .refl _
    | tunnel => exact State.handAccepted_heat (.of_kept (control.tunnelChanged _))
    | drive => exact .of_kept (control.driveChanged _)
    | station x => exact .of_kept (control.stationChanged _ _ _)
  have here : (s.joined n code).present n = true := by
    unfold State.joined State.present
    dsimp only
    split
    · rw [State.handAccepted_line, State.hold_node, State.setNode_node, if_pos rfl]
    · rw [State.hold_node, State.setNode_node, if_pos rfl]
  unfold State.becomePresent
  dsimp only
  split
  · exact present.trans (State.acceptPair_stands ((present.present n).trans here) _)
  · exact present

theorem State.becomeAbsent_left : (s.left n).LineStands (s.becomeAbsent n) := by
  rw [State.becomeAbsent_eq]
  cases n with
  | tunnel =>
    unfold State.absenceHandedOn
    dsimp only
    split
    · exact .of_kept (.of_settled (State.raiseHold_settled _ _))
    · exact .of_kept (.of_settled (State.raiseHold_settled _ _))
    all_goals exact .refl _
  | drive => exact .of_kept (.of_settled (State.raiseStop_settled _ _))
  | _ => exact .refl _

/-- Beside what an event writes, the line and the zones stand. -/
theorem State.frameEvent_booked (before : Option (List Octet)) (now : List Octet) (e : FrameEvent) :
    (s.booked before now e).LineStands (s.frameEvent before now e) := by
  cases e with
  | code n =>
    simp only [State.booked, State.frameEvent]
    split
    · by_cases here : s.present n = true
      · rw [if_pos here, if_pos (show (s.line.nodes.get n).present = true from here)]
        exact s.acceptCode_coded n _
      · rw [if_neg here, if_neg (show ¬(s.line.nodes.get n).present = true from here)]
        split
        · exact .refl _
        · exact s.becomePresent_joined n _
    · exact .refl s
  | absent n =>
    simp only [State.booked, State.frameEvent]
    split
    · exact s.becomeAbsent_left n
    · exact .refl s
  | message n =>
    simp only [State.booked, State.frameEvent]
    split
    · split
      · rename_i here
        exact State.acceptPair_stands (by simpa [State.present] using here) _
      · exact .refl _
    · exact .refl s
  | temperature z => exact .refl _
  | pumpMap => exact .refl _
  | count n =>
    refine .of_node (n := n) (mark := (s.line.nodes.get n).attention) fun quiet gone => ?_
    obtain ⟨rest, mark⟩ := quiet gone
    have still : s.channel n = Channel.reset := rest
    exact ⟨by rw [still]; rfl, mark⟩

end

end Sys2Proof.Machine
end

section
/-! Presence and codes at a frame end, node by node (R180 to R182): of the separate events only the node's code and its
absence bear on them, and these two agree in either order. -/

namespace Sys2Proof.Machine

/-! ## A node's view -/

/-- Presence, idle-frame count, accepted code and held code of a node. -/
structure NodeView (n : Node) where
  present : Bool
  idle : Nat
  accepted : Option Octet
  held : HeldCode n

def State.view (s : State) (n : Node) : NodeView n :=
  ⟨s.present n, (s.line.nodes.get n).idleFrames, (s.line.nodes.get n).acceptedCode, s.line.held n⟩

namespace NodeView

variable {n : Node} (v : NodeView n) (old : Option Octet) (code : Octet)

/-- The acceptance of a code (R180 to R182). -/
def acceptance : NodeView n :=
  if doubleLook old code v.accepted then
    if v.present then { v with accepted := some code, held := (codeFor n code).getD v.held }
    else if code = 0xFF then { v with accepted := some code }
    else { v with present := true, accepted := some code, held := (codeFor n code).getD (firstFor n) }
  else v

/-- The absence of a node whose idle-frame count has reached 8 (R181). -/
def absence : NodeView n :=
  if v.present && v.idle = 8 then ⟨false, 8, some 0xFF, firstFor n⟩ else v

/-- What an event makes of one node. -/
def event : FrameEvent → NodeView n
  | .code m => if m = n then v.acceptance old code else v
  | .absent m => if m = n then v.absence else v
  | .message _ | .temperature _ | .pumpMap | .count _ => v

variable {v old code}

theorem acceptance_unseen (look : ¬doubleLook old code v.accepted = true) : v.acceptance old code = v := if_neg look

theorem acceptance_present (look : doubleLook old code v.accepted = true) (here : v.present = true) :
    v.acceptance old code = { v with accepted := some code, held := (codeFor n code).getD v.held } :=
  (if_pos look).trans (if_pos here)

theorem acceptance_absent (look : doubleLook old code v.accepted = true) (gone : ¬v.present = true) (idle : code = 0xFF) :
    v.acceptance old code = { v with accepted := some code } :=
  (if_pos look).trans ((if_neg gone).trans (if_pos idle))

theorem acceptance_joins (look : doubleLook old code v.accepted = true) (gone : ¬v.present = true)
    (sends : ¬code = 0xFF) :
    v.acceptance old code =
      { v with present := true, accepted := some code, held := (codeFor n code).getD (firstFor n) } :=
  (if_pos look).trans ((if_neg gone).trans (if_neg sends))

theorem absence_due (here : v.present = true) (full : v.idle = 8) : v.absence = ⟨false, 8, some 0xFF, firstFor n⟩ :=
  if_pos (by simp [here, full])

theorem absence_of_absent (gone : ¬v.present = true) : v.absence = v := if_neg (by simp [gone])

theorem absence_of_below (below : v.idle ≠ 8) : v.absence = v := if_neg (by simp [below])

variable (v old code)

theorem acceptance_idle : (v.acceptance old code).idle = v.idle := by
  unfold acceptance
  repeat' split
  all_goals rfl

/-- A present node whose count has reached 8 is absent in the end, its code accepted before or not. -/
theorem after_due (here : v.present = true) (full : v.idle = 8) :
    (v.acceptance old code).absence = ⟨false, 8, some 0xFF, firstFor n⟩ := by
  refine absence_due ?_ (by rw [acceptance_idle, full])
  by_cases look : doubleLook old code v.accepted = true
  · rw [acceptance_present look here]
    exact here
  · rw [acceptance_unseen look]
    exact here

/-- Any other node is not: a count that has reached 8 means the idle code, which makes no node present. -/
theorem after_early (idle : v.idle = 8 → code = 0xFF) (early : ¬(v.present = true ∧ v.idle = 8)) :
    (v.acceptance old code).absence = v.acceptance old code := by
  by_cases full : v.idle = 8
  · have gone : ¬v.present = true := fun here => early ⟨here, full⟩
    refine absence_of_absent ?_
    by_cases look : doubleLook old code v.accepted = true
    · rw [acceptance_absent look gone (idle full)]
      exact gone
    · rw [acceptance_unseen look]
      exact gone
  · exact absence_of_below (by rw [acceptance_idle]; exact full)

/-- A code and an absence come to the same in either order. -/
theorem acceptance_absence (idle : v.idle = 8 → code = 0xFF) :
    v.absence.acceptance old code = (v.acceptance old code).absence := by
  by_cases due : v.present = true ∧ v.idle = 8
  · obtain ⟨here, full⟩ := due
    rw [after_due v old code here full, absence_due here full, idle full]
    exact acceptance_unseen (by simp [doubleLook])
  · rw [after_early v old code idle due]
    exact congrArg (acceptance · old code) (if_neg (by simpa using due))

/-- No event but those of its own makes a node's view. -/
theorem event_other {e : FrameEvent} (sent : e ≠ .code n) (gone : e ≠ .absent n) : v.event old code e = v := by
  cases e with
  | code m => exact if_neg fun same => sent (congrArg _ same)
  | absent m => exact if_neg fun same => gone (congrArg _ same)
  | _ => rfl

/-- A present node whose count is below 8 stays present (R181). -/
theorem event_stays (e : FrameEvent) (here : v.present = true) (below : v.idle ≠ 8) :
    (v.event old code e).present = true ∧ (v.event old code e).idle ≠ 8 := by
  have coded : (v.acceptance old code).present = true ∧ (v.acceptance old code).idle ≠ 8 := by
    rw [acceptance_idle]
    refine ⟨?_, below⟩
    by_cases look : doubleLook old code v.accepted = true
    · rw [acceptance_present look here]
      exact here
    · rw [acceptance_unseen look]
      exact here
  cases e with
  | code m =>
    simp only [event]
    split
    · exact coded
    · exact ⟨here, below⟩
  | absent m =>
    simp only [event]
    rw [absence_of_below below, ite_self]
    exact ⟨here, below⟩
  | _ => exact ⟨here, below⟩

end NodeView

/-! ## What an event makes of a node's view -/

section
variable (s : State) {n m : Node}

theorem State.LineStands.view {s t : State} (h : s.LineStands t) (n : Node) : t.view n = s.view n := by
  obtain ⟨present, _, code, idle⟩ := h.nodes n
  simp only [State.view, State.present, present, code, idle, h.held]

theorem State.view_setNode (v : NodeLine) :
    (s.setNode n v).view n = ⟨v.present, v.idleFrames, v.acceptedCode, s.line.held n⟩ := by
  simp [State.view, State.present, State.setNode_node, State.held_setNode]

theorem State.view_setNode_other (v : NodeLine) (other : n ≠ m) : (s.setNode m v).view n = s.view n := by
  simp [State.view, State.present, State.setNode_node, State.held_setNode, other]

theorem State.view_hold (c : HeldCode n) : (s.hold n c).view n = { s.view n with held := c } := by
  simp [State.view, State.present, State.hold_node]

theorem State.view_hold_other (c : HeldCode m) (other : n ≠ m) : (s.hold m c).view n = s.view n := by
  simp [State.view, State.present, State.hold_node, State.held_hold_other s c other]

theorem State.view_of_line {s t : State} (line : t.line = s.line) : t.view n = s.view n := by
  simp [State.view, State.present, line]

theorem State.view_coded (m : Node) (code : Octet) : (s.coded m code).view n =
    if m = n then { s.view n with accepted := some code, held := (codeFor n code).getD (s.line.held n) } else s.view n := by
  unfold State.coded
  split
  · rename_i same
    subst same
    rw [State.view_hold, State.view_setNode]
    rfl
  · rename_i other
    rw [State.view_hold_other _ _ (Ne.symm other), State.view_setNode_other _ _ (Ne.symm other)]

theorem State.view_joined (m : Node) (code : Octet) : (s.joined m code).view n =
    if m = n then { s.view n with present := true, accepted := some code, held := (codeFor n code).getD (firstFor n) }
    else s.view n := by
  have written (t : State) : (if m = .tunnel then t.handAccepted else t).view n = t.view n := by
    split
    · exact State.view_of_line t.handAccepted_line
    · rfl
  unfold State.joined
  rw [written]
  split
  · rename_i same
    subst same
    rw [State.view_hold, State.view_setNode]
    rfl
  · rename_i other
    rw [State.view_hold_other _ _ (Ne.symm other), State.view_setNode_other _ _ (Ne.symm other)]

theorem State.view_left (m : Node) : (s.left m).view n =
    if m = n then ⟨false, 8, some 0xFF, firstFor n⟩ else s.view n := by
  have line : (s.left m).line = ((s.setNode m (s.line.nodes.get m).silent).hold m (firstFor m)).line := by
    rw [← State.firstCode_eq]
    rfl
  rw [State.view_of_line line]
  split
  · rename_i same
    subst same
    rw [State.view_hold, State.view_setNode]
    rfl
  · rename_i other
    rw [State.view_hold_other _ _ (Ne.symm other), State.view_setNode_other _ _ (Ne.symm other)]

theorem State.view_booked (before : Option (List Octet)) (now : List Octet) (e : FrameEvent) :
    (s.booked before now e).view n = (s.view n).event (before.map fun b => codeSlot b n) (codeSlot now n) e := by
  cases e with
  | code m =>
    by_cases same : m = n
    · subst same
      simp only [State.booked, NodeView.event, if_true]
      split
      · rename_i look
        split
        · rename_i here
          rw [State.view_coded, if_pos rfl]
          exact (NodeView.acceptance_present look here).symm
        · rename_i gone
          split
          · rename_i idle
            rw [State.view_setNode]
            exact (NodeView.acceptance_absent (v := s.view m) look gone idle).symm
          · rename_i sends
            rw [State.view_joined, if_pos rfl]
            exact (NodeView.acceptance_joins look gone sends).symm
      · rename_i unseen
        exact (NodeView.acceptance_unseen unseen).symm
    · simp only [State.booked, NodeView.event, if_neg same]
      repeat' split
      all_goals simp [State.view_coded, State.view_joined, State.view_setNode_other, same, Ne.symm same]
  | absent m =>
    by_cases same : m = n
    · subst same
      simp only [State.booked, NodeView.event, if_true]
      split
      · rename_i due
        obtain ⟨here, full⟩ := Bool.and_eq_true_iff.1 due
        rw [State.view_left, if_pos rfl]
        exact (NodeView.absence_due here (of_decide_eq_true full)).symm
      · rename_i early
        exact (if_neg early).symm
    · simp only [State.booked, NodeView.event, if_neg same]
      split <;> simp [State.view_left, same]
  | message m =>
    simp only [State.booked, NodeView.event]
    split
    · by_cases same : n = m
      · subst same
        exact State.view_setNode s _
      · exact State.view_setNode_other s _ same
    · rfl
  | temperature z =>
    simp only [State.booked, State.frameEvent, NodeView.event]
    repeat' split
    all_goals rfl
  | pumpMap =>
    simp only [State.booked, State.frameEvent, NodeView.event]
    repeat' split
    all_goals rfl
  | count _ => rfl

end

end Sys2Proof.Machine
end

section
/-! Double look, presence and codes at a frame end (R98 to R100, R180 to R183, R187): the separate events in any order. -/

namespace Sys2Proof.Machine

/-! ## One event in a list, or two -/

section
variable {α β : Type} {f : β → α → β} {l : List α}

theorem foldl_still (still : ∀ z ∈ l, ∀ b, f b z = b) (b : β) : l.foldl f b = b := by
  induction l with
  | nil => rfl
  | cons z l ih =>
    rw [List.foldl_cons, still z List.mem_cons_self]
    exact ih fun w mem => still w (List.mem_cons_of_mem z mem)

theorem foldl_once {x : α} (once : l.Nodup) (mem : x ∈ l) (still : ∀ z ∈ l, z ≠ x → ∀ b, f b z = b) (b : β) :
    l.foldl f b = f b x := by
  obtain ⟨a, c, rfl⟩ := List.append_of_mem mem
  have apart := (List.nodup_middle.1 once).notMem
  rw [List.foldl_append, List.foldl_cons]
  rw [foldl_still (l := a) fun z here => still z (by simp [here]) fun same => apart (by simp [← same, here])]
  exact foldl_still (fun z here => still z (by simp [here]) fun same => apart (by simp [← same, here])) _

/-- Two events that come to the same in either order from where they start. -/
theorem foldl_twice {x y : α} {b : β} (once : l.Nodup) (memX : x ∈ l) (memY : y ∈ l) (other : x ≠ y)
    (still : ∀ z ∈ l, z ≠ x → z ≠ y → ∀ b, f b z = b) (comm : f (f b y) x = f (f b x) y) :
    l.foldl f b = f (f b x) y := by
  induction l with
  | nil => cases memX
  | cons z l ih =>
    obtain ⟨apart, once⟩ := List.nodup_cons.1 once
    have rest (w : α) (mem : w ∈ l) : w ≠ z := fun same => apart (same ▸ mem)
    rw [List.foldl_cons]
    by_cases isX : z = x
    · subst isX
      refine foldl_once once ((List.mem_cons.1 memY).resolve_left (Ne.symm other)) (fun w mem ne => ?_) _
      exact still w (List.mem_cons_of_mem z mem) (rest w mem) ne
    · by_cases isY : z = y
      · subst isY
        rw [← comm]
        refine foldl_once once ((List.mem_cons.1 memX).resolve_left other) (fun w mem ne => ?_) _
        exact still w (List.mem_cons_of_mem z mem) ne (rest w mem)
      · rw [still z List.mem_cons_self isX isY]
        exact ih once ((List.mem_cons.1 memX).resolve_left (Ne.symm isX)) ((List.mem_cons.1 memY).resolve_left (Ne.symm isY))
          fun w mem => still w (List.mem_cons_of_mem z mem)

end

theorem mem_frameEvents (e : FrameEvent) : e ∈ frameEvents := by
  cases e <;> simp [frameEvents, Node.mem_all, Zone.mem_all]

theorem nodup_frameEvents : frameEvents.Nodup := by decide

/-! ## The slots -/

theorem temperatureSlot_frameSlots (slots : List Octet) (z : Zone) :
    temperatureSlot (frameSlots slots) z = temperatureSlot slots z := by
  cases z <;> exact upSlot_frameSlots slots (by decide)

theorem pumpSlot_frameSlots (slots : List Octet) : pumpSlot (frameSlots slots) = pumpSlot slots :=
  upSlot_frameSlots slots (by decide)

/-! ## The whole frame end -/

section
variable (s : State) (slots : List Octet) (order : List FrameEvent)

/-- The separate events of a frame end done, the next frame still to begin. -/
def State.eventsDone : State :=
  (inOrder order frameEvents).foldl (fun t e => t.frameEvent s.line.previous (frameSlots slots) e)
    (s.countIdleFrames (frameSlots slots))

theorem State.frameEnd_eq : s.frameEnd slots order = (s.eventsDone slots order).beginFrame (frameSlots slots) := rfl

/-- A value that every event changes by itself, whatever else it changes. -/
theorem State.eventsDone_project {β : Type} (π : State → β) {step : β → FrameEvent → β}
    (event : ∀ t e, π (t.frameEvent s.line.previous (frameSlots slots) e) = step (π t) e) :
    π (s.eventsDone slots order) = (inOrder order frameEvents).foldl step (π (s.countIdleFrames (frameSlots slots))) :=
  (List.foldl_hom π fun t e => (event t e).symm).symm

/-- What every event keeps. -/
theorem State.eventsDone_keeps {P : State → Prop} (start : P (s.countIdleFrames (frameSlots slots)))
    (event : ∀ t e, P t → P (t.frameEvent s.line.previous (frameSlots slots) e)) : P (s.eventsDone slots order) :=
  List.foldlRecOn _ _ start fun t h e _ => event t e h

theorem State.counted_node (n : Node) : (s.countIdleFrames (frameSlots slots)).line.nodes.get n =
    (s.line.nodes.get n).countIdle (codeSlot slots n) := by
  rw [← codeSlot_frameSlots]
  rcases n with _ | _ | _ | _ | ⟨⟨⟩⟩ <;> rfl

theorem State.beginFrame_node (t : State) (now : List Octet) (n : Node) : (t.beginFrame now).line.nodes.get n =
    { t.line.nodes.get n with channel := { (t.line.nodes.get n).channel with moved := false } } :=
  PerNode.get_map _ _ n

/-- The idle-frame count of a node as the frame ends (R181). -/
def State.idleAfter (n : Node) : Nat :=
  if codeSlot slots n = 0xFF then min 8 ((s.line.nodes.get n).idleFrames + 1) else 0

theorem State.idleAfter_full {n : Node} (full : s.idleAfter slots n = 8) : codeSlot slots n = 0xFF := by
  by_contra sends
  exact absurd ((if_neg sends).symm.trans full) (by decide)

theorem State.counted_view (n : Node) :
    (s.countIdleFrames (frameSlots slots)).view n = { s.view n with idle := s.idleAfter slots n } := by
  cases n <;> simp only [State.view, State.present, State.counted_node] <;> rfl

/-- Of the separate events a node's code and its absence make its view. -/
theorem State.view_frameEnd (n : Node) : (s.frameEnd slots order).view n =
    (({ s.view n with idle := s.idleAfter slots n } : NodeView n).acceptance
      (s.line.previous.map fun b => codeSlot b n) (codeSlot slots n)).absence := by
  have begun (t : State) : (t.beginFrame (frameSlots slots)).view n = t.view n := by
    cases n <;> simp only [State.view, State.present, State.beginFrame_node] <;> rfl
  rw [State.frameEnd_eq, begun]
  rw [State.eventsDone_project s slots order (·.view n)
    (step := fun v e => v.event (s.line.previous.map fun b => codeSlot b n) (codeSlot slots n) e) fun t e => ?_]
  · rw [State.counted_view, foldl_twice (x := .code n) (y := .absent n) (nodup_inOrder order nodup_frameEvents)
      (mem_inOrder order (mem_frameEvents _)) (mem_inOrder order (mem_frameEvents _)) (by simp)]
    · simp [NodeView.event]
    · exact fun e _ code absent v => v.event_other _ _ code absent
    · simp only [NodeView.event, if_true]
      exact NodeView.acceptance_absence _ _ _ (s.idleAfter_full slots)
  · rw [(t.frameEvent_booked _ _ e).view, State.view_booked, codeSlot_frameSlots]

variable {s slots order} {n : Node}

theorem State.look_iff : doubleLook (s.line.previous.map fun b => codeSlot b n) (codeSlot slots n)
    (s.line.nodes.get n).acceptedCode = true ↔ s.codeAccepted slots n := doubleLook_iff

/-- A present node whose count reaches 8 is absent as the frame ends (R181). -/
theorem State.frameEnd_gone (here : s.present n = true) (full : s.idleAfter slots n = 8) :
    (s.frameEnd slots order).view n = ⟨false, 8, some 0xFF, firstFor n⟩ := by
  rw [State.view_frameEnd]
  exact NodeView.after_due _ _ _ here full

/-- The views a node may have as the frame ends, unless it becomes absent (R180 to R182). -/
theorem State.frameEnd_unaccepted (early : ¬(s.present n = true ∧ s.idleAfter slots n = 8))
    (unseen : ¬s.codeAccepted slots n) :
    (s.frameEnd slots order).view n = { s.view n with idle := s.idleAfter slots n } := by
  rw [State.view_frameEnd, NodeView.after_early _ _ _ (s.idleAfter_full slots) early]
  exact NodeView.acceptance_unseen fun look => unseen (State.look_iff.1 look)

theorem State.frameEnd_coded (accepted : s.codeAccepted slots n) (here : s.present n = true)
    (below : s.idleAfter slots n ≠ 8) : (s.frameEnd slots order).view n =
      ⟨true, s.idleAfter slots n, some (codeSlot slots n), (codeFor n (codeSlot slots n)).getD (s.line.held n)⟩ := by
  rw [State.view_frameEnd, NodeView.after_early _ _ _ (s.idleAfter_full slots) fun due => below due.2]
  rw [NodeView.acceptance_present (State.look_iff.2 accepted) here, ← here]
  rfl

theorem State.frameEnd_still_absent (accepted : s.codeAccepted slots n) (gone : ¬s.present n = true)
    (idle : codeSlot slots n = 0xFF) : (s.frameEnd slots order).view n =
      ⟨s.present n, s.idleAfter slots n, some (codeSlot slots n), s.line.held n⟩ := by
  rw [State.view_frameEnd, NodeView.after_early _ _ _ (s.idleAfter_full slots) fun due => gone due.1]
  exact NodeView.acceptance_absent (State.look_iff.2 accepted) gone idle

theorem State.frameEnd_joined (accepted : s.codeAccepted slots n) (gone : ¬s.present n = true)
    (sends : ¬codeSlot slots n = 0xFF) : (s.frameEnd slots order).view n =
      ⟨true, s.idleAfter slots n, some (codeSlot slots n), (codeFor n (codeSlot slots n)).getD (firstFor n)⟩ := by
  rw [State.view_frameEnd, NodeView.after_early _ _ _ (s.idleAfter_full slots) fun due => gone due.1]
  exact NodeView.acceptance_joins (State.look_iff.2 accepted) gone sends

/-- What a frame end makes of a node (R180 to R182). -/
structure State.NodeFrame (s : State) (slots : List Octet) {n : Node} (v : NodeView n) : Prop where
  idle : v.idle = s.idleAfter slots n
  joins : s.present n = false → (v.present = true ↔ s.codeAccepted slots n ∧ codeSlot slots n ≠ 0xFF)
  leaves : s.present n = true → (v.present = false ↔ v.idle = 8)
  accepted : s.present n = false ∨ v.present = true → v.accepted =
    if ∃ b ∈ s.line.previous, codeSlot b n = codeSlot slots n then some (codeSlot slots n)
    else (s.line.nodes.get n).acceptedCode
  held : v.present = true → v.held =
    if s.codeAccepted slots n then
      (codeFor n (codeSlot slots n)).getD (if s.present n then s.line.held n else firstFor n)
    else s.line.held n
  first : s.present n = true → v.present = false → v.held = firstFor n

theorem State.frameEnd_node : s.NodeFrame slots ((s.frameEnd slots order).view n) := by
  by_cases due : s.present n = true ∧ s.idleAfter slots n = 8
  · obtain ⟨here, full⟩ := due
    rw [State.frameEnd_gone here full]
    constructor <;> simp [here, full]
  by_cases accepted : s.codeAccepted slots n
  · by_cases here : s.present n = true
    · have below : s.idleAfter slots n ≠ 8 := fun full => due ⟨here, full⟩
      rw [State.frameEnd_coded accepted here below]
      exact {
        idle := rfl
        joins := by simp [here]
        leaves := by simp [below]
        accepted := fun _ => (if_pos accepted.1).symm
        held := fun _ => by rw [if_pos accepted, if_pos here]
        first := by simp }
    · by_cases idle : codeSlot slots n = 0xFF
      · rw [State.frameEnd_still_absent accepted here idle]
        exact {
          idle := rfl
          joins := fun _ => ⟨fun present => absurd present here, fun sends => absurd idle sends.2⟩
          leaves := fun present => absurd present here
          accepted := fun _ => (if_pos accepted.1).symm
          held := fun present => absurd present here
          first := fun present => absurd present here }
      · rw [State.frameEnd_joined accepted here idle]
        exact {
          idle := rfl
          joins := fun _ => ⟨fun _ => ⟨accepted, idle⟩, fun _ => rfl⟩
          leaves := fun present => absurd present here
          accepted := fun _ => (if_pos accepted.1).symm
          held := fun _ => by rw [if_pos accepted, if_neg here]
          first := fun present => absurd present here }
  · rw [State.frameEnd_unaccepted due accepted]
    exact {
      idle := rfl
      joins := fun gone => ⟨fun here => absurd (gone.symm.trans here) (by decide), fun sends => absurd sends.1 accepted⟩
      leaves := fun here => ⟨fun gone => absurd (gone.symm.trans here) (by decide), fun full => absurd ⟨here, full⟩ due⟩
      accepted := fun _ => by
        split
        · rename_i seen
          by_contra new
          exact accepted ⟨seen, new⟩
        · rfl
      held := fun _ => (if_neg accepted).symm
      first := fun here gone => absurd (gone.symm.trans here) (by decide) }

end

end Sys2Proof.Machine
end

section
/-! Message pairs, temperatures and pump maps at a frame end, and what of them reaches the zones (R98 to R100, R180, R183). -/

namespace Sys2Proof.Machine

section
variable (s : State) {n m : Node}

/-! ## The node's line after an event -/

theorem State.coded_node (m : Node) (code : Octet) : (s.coded m code).line.nodes.get n =
    if n = m then { s.line.nodes.get m with acceptedCode := some code } else s.line.nodes.get n := by
  rw [State.coded, State.hold_node, State.setNode_node]

theorem State.joined_node (m : Node) (code : Octet) : (s.joined m code).line.nodes.get n =
    if n = m then { s.line.nodes.get m with acceptedCode := some code, present := true } else s.line.nodes.get n := by
  unfold State.joined
  dsimp only
  split
  · rw [State.handAccepted_line, State.hold_node, State.setNode_node]
  · rw [State.hold_node, State.setNode_node]

theorem State.left_node (m : Node) : (s.left m).line.nodes.get n =
    if n = m then (s.line.nodes.get m).silent else s.line.nodes.get n :=
  s.silenced_node m n

variable (before : Option (List Octet)) (now : List Octet) (e : FrameEvent)

/-- What an event other than the acceptance of its message pair may make of a node's line. -/
inductive NodeLine.Books (v : NodeLine) : NodeLine → Prop
  | code (code : Option Octet) : v.Books { v with acceptedCode := code }
  | present (code : Option Octet) : v.Books { v with acceptedCode := code, present := true }
  | silent : v.Books v.silent

theorem State.booked_node (message : e ≠ .message n) :
    (s.line.nodes.get n).Books ((s.booked before now e).line.nodes.get n) := by
  have kept : (s.line.nodes.get n).Books (s.line.nodes.get n) := .code (s.line.nodes.get n).acceptedCode
  have one {m : Node} {v : NodeLine} (wrote : (s.line.nodes.get m).Books v) :
      (s.line.nodes.get n).Books (if n = m then v else s.line.nodes.get n) := by
    split
    · rename_i same
      exact same ▸ wrote
    · exact kept
  cases e with
  | code m =>
    simp only [State.booked]
    repeat' split
    · rw [State.coded_node]
      exact one (.code _)
    · rw [State.setNode_node]
      exact one (.code _)
    · rw [State.joined_node]
      exact one (.present _)
    · exact kept
  | absent m =>
    simp only [State.booked]
    split
    · rw [State.left_node]
      exact one .silent
    · exact kept
  | message m =>
    have other : n ≠ m := fun same => message (congrArg _ same.symm)
    simp only [State.booked]
    split
    · rw [State.setNode_node, if_neg other]
      exact kept
    · exact kept
  | temperature z =>
    simp only [State.booked, State.frameEvent]
    repeat' split
    all_goals exact kept
  | pumpMap =>
    simp only [State.booked, State.frameEvent]
    repeat' split
    all_goals exact kept
  | count _ => exact kept

/-- An absent node at rest stays at rest (R181, R187). -/
theorem State.booked_quiet (h : (s.line.nodes.get n).quietIfAbsent) :
    ((s.booked before now e).line.nodes.get n).quietIfAbsent := by
  by_cases message : e = .message n
  · subst message
    simp only [State.booked]
    split
    · rw [State.setNode_node, if_pos rfl]
      exact h
    · exact h
  · generalize (s.booked before now e).line.nodes.get n = w, s.booked_node before now e message = wrote
    cases wrote with
    | code => exact h
    | present => exact fun gone => absurd gone (by simp)
    | silent => exact fun _ => ⟨rfl, rfl⟩

/-! ## The accepted values -/

/-- An accepted value after a look at its slot (R180). -/
def looked {α : Type} [DecidableEq α] (old : Option α) (raw : α) (accepted : Option α) : Option α :=
  if doubleLook old raw accepted then some raw else accepted

theorem State.booked_pair : ((s.booked before now e).line.nodes.get n).acceptedPair =
    if e = .message n then
      looked (before.map fun b => messageSlots b n) (messageSlots now n) (s.line.nodes.get n).acceptedPair
    else (s.line.nodes.get n).acceptedPair := by
  by_cases message : e = .message n
  · subst message
    rw [if_pos rfl]
    simp only [State.booked, looked]
    split
    · rw [State.setNode_node, if_pos rfl]
    · rfl
  · rw [if_neg message]
    generalize (s.booked before now e).line.nodes.get n = w, s.booked_node before now e message = wrote
    cases wrote <;> rfl

/-- No event but its own changes an accepted temperature or the accepted pump map. -/
theorem State.booked_slots (temperature : ∀ z, e ≠ .temperature z) (pumps : e ≠ .pumpMap) :
    (s.booked before now e).line.acceptedTemperature = s.line.acceptedTemperature
      ∧ (s.booked before now e).line.acceptedPump = s.line.acceptedPump := by
  cases e with
  | code m =>
    simp only [State.booked]
    repeat' split
    · exact State.hold_slots _ _
    · exact ⟨rfl, rfl⟩
    · unfold State.joined
      dsimp only
      split
      · rw [State.handAccepted_line]
        exact State.hold_slots _ _
      · exact State.hold_slots _ _
    · exact ⟨rfl, rfl⟩
  | absent m =>
    simp only [State.booked]
    split
    · cases m <;> exact ⟨rfl, rfl⟩
    · exact ⟨rfl, rfl⟩
  | message m =>
    simp only [State.booked]
    split <;> exact ⟨rfl, rfl⟩
  | temperature z => exact absurd rfl (temperature z)
  | pumpMap => exact absurd rfl pumps
  | count _ => exact ⟨rfl, rfl⟩

theorem State.booked_temperature (z : Zone) : (s.booked before now e).line.acceptedTemperature.get z =
    if e = .temperature z then
      looked (before.map fun b => temperatureSlot b z) (temperatureSlot now z) (s.line.acceptedTemperature.get z)
    else s.line.acceptedTemperature.get z := by
  cases e with
  | temperature y =>
    simp only [State.booked, State.frameEvent]
    by_cases same : y = z
    · subst same
      rw [if_pos rfl]
      unfold looked
      repeat' split
      · exact (PerZone.get_set ..).trans (if_pos rfl)
      · exact (PerZone.get_set ..).trans (if_pos rfl)
      · rfl
    · refine Eq.trans ?_ (if_neg (by simpa using same)).symm
      repeat' split
      · exact (PerZone.get_set ..).trans (if_neg (Ne.symm same))
      · exact (PerZone.get_set ..).trans (if_neg (Ne.symm same))
      · rfl
  | pumpMap =>
    refine Eq.trans ?_ (if_neg (by simp)).symm
    simp only [State.booked, State.frameEvent]
    repeat' split
    all_goals rfl
  | _ =>
    rw [if_neg (by simp), (s.booked_slots before now _ (by simp) (by simp)).1]

theorem State.booked_pump : (s.booked before now e).line.acceptedPump =
    if e = .pumpMap then looked (before.map pumpSlot) (pumpSlot now) s.line.acceptedPump else s.line.acceptedPump := by
  cases e with
  | temperature y =>
    refine Eq.trans ?_ (if_neg (by simp)).symm
    simp only [State.booked, State.frameEvent]
    repeat' split
    all_goals rfl
  | pumpMap =>
    simp only [State.booked, State.frameEvent, looked, if_true]
    repeat' split
    all_goals rfl
  | _ =>
    rw [if_neg (by simp), (s.booked_slots before now _ (by simp) (by simp)).2]

end

end Sys2Proof.Machine
end

section
/-! What a frame end has accepted, and what of it the zones hold (R98 to R100, R180, R183). -/

namespace Sys2Proof.Machine

section
variable (s : State) (slots : List Octet) (order : List FrameEvent)

/-! ## The accepted values -/

/-- A value that one event alone looks at is accepted where its slot shows the same raw value twice (R180). -/
theorem State.eventsDone_looked {γ : Type} [DecidableEq γ] {π : State → Option γ} {slot : List Octet → γ} (x : FrameEvent)
    (same : slot (frameSlots slots) = slot slots)
    (event : ∀ t e, π (t.frameEvent s.line.previous (frameSlots slots) e) =
      if e = x then looked (s.line.previous.map slot) (slot (frameSlots slots)) (π t) else π t) :
    π (s.eventsDone slots order) =
      if ∃ b ∈ s.line.previous, slot b = slot slots then some (slot slots)
      else π (s.countIdleFrames (frameSlots slots)) := by
  rw [State.eventsDone_project s slots order π
    (step := fun v e => if e = x then looked (s.line.previous.map slot) (slot (frameSlots slots)) v else v) event]
  rw [foldl_once (x := x) (nodup_inOrder order nodup_frameEvents) (mem_inOrder order (mem_frameEvents x))
    fun e _ other v => if_neg other, if_pos rfl, same]
  unfold looked
  split
  · rename_i look
    exact (if_pos (doubleLook_iff.1 look).1).symm
  · rename_i unseen
    split
    · rename_i seen
      by_contra new
      exact unseen (doubleLook_iff.2 ⟨seen, new⟩)
    · rfl

theorem State.frameEnd_pair (n : Node) : ((s.frameEnd slots order).line.nodes.get n).acceptedPair =
    if ∃ b ∈ s.line.previous, messageSlots b n = messageSlots slots n then some (messageSlots slots n)
    else (s.line.nodes.get n).acceptedPair := by
  rw [State.frameEnd_eq, State.beginFrame_node]
  refine (State.eventsDone_looked s slots order (π := fun t => (t.line.nodes.get n).acceptedPair)
    (slot := fun b => messageSlots b n) (.message n) (messageSlots_frameSlots slots n) fun t e => ?_).trans ?_
  · obtain ⟨_, pair, _, _⟩ := (t.frameEvent_booked s.line.previous (frameSlots slots) e).nodes n
    exact pair.trans (t.booked_pair _ _ e)
  · simp only [State.counted_node]
    rfl

theorem State.frameEnd_temperature (z : Zone) : (s.frameEnd slots order).line.acceptedTemperature.get z =
    if ∃ b ∈ s.line.previous, temperatureSlot b z = temperatureSlot slots z then some (temperatureSlot slots z)
    else s.line.acceptedTemperature.get z := by
  refine State.eventsDone_looked s slots order (π := fun t => t.line.acceptedTemperature.get z)
    (slot := fun b => temperatureSlot b z) (.temperature z) (temperatureSlot_frameSlots slots z) fun t e => ?_
  rw [(t.frameEvent_booked s.line.previous (frameSlots slots) e).line]
  exact t.booked_temperature _ _ e z

theorem State.frameEnd_pump : (s.frameEnd slots order).line.acceptedPump =
    if ∃ b ∈ s.line.previous, pumpSlot b = pumpSlot slots then some (pumpSlot slots) else s.line.acceptedPump := by
  refine State.eventsDone_looked s slots order (π := fun t => t.line.acceptedPump) .pumpMap
    (pumpSlot_frameSlots slots) fun t e => ?_
  rw [(t.frameEvent_booked s.line.previous (frameSlots slots) e).line]
  exact t.booked_pump _ _ e

/-- A node that has become absent is at rest (R181, R187). -/
theorem State.frameEnd_quiet {n : Node} (here : s.present n = true)
    (gone : (s.frameEnd slots order).present n = false) :
    (s.frameEnd slots order).channel n = Channel.reset ∧ (s.frameEnd slots order).attention n = false := by
  have quiet : ((s.eventsDone slots order).line.nodes.get n).quietIfAbsent := by
    refine State.eventsDone_keeps s slots order (P := fun t => (t.line.nodes.get n).quietIfAbsent) ?_ fun t e h => ?_
    · rw [State.counted_node]
      exact fun gone => absurd (gone.symm.trans here) (by decide)
    · exact (t.frameEvent_booked _ _ e).quiet n (t.booked_quiet _ _ e h)
  rw [State.frameEnd_eq] at gone ⊢
  rw [State.present, State.beginFrame_node] at gone
  rw [State.channel, State.attention, State.beginFrame_node]
  obtain ⟨rest, mark⟩ := quiet gone
  exact ⟨by rw [rest]; rfl, mark⟩

end

/-! ## The zones -/

section
variable {s : State}

theorem State.handTemperature_zone (s : State) (y z : Zone) (v : Octet) : (s.handTemperature y v).heat.zones.get z =
    if z = y then { s.heat.zones.get z with raw := some v } else s.heat.zones.get z := by
  refine (PerZone.get_set ..).trans ?_
  split
  · rename_i same
    rw [same]
  · rfl

/-- Only the tunnel node, becoming present or absent, and its values change the zones (R98 to R100, R183). -/
theorem State.booked_zones (before : Option (List Octet)) (now : List Octet) (e : FrameEvent)
    (here : e = .code .tunnel → s.present .tunnel = true)
    (below : e = .absent .tunnel → (s.line.nodes.get .tunnel).idleFrames ≠ 8) (temperature : ∀ z, e ≠ .temperature z)
    (pumps : e ≠ .pumpMap) : (s.booked before now e).heat = s.heat := by
  cases e with
  | code m =>
    simp only [State.booked]
    repeat' split
    · exact State.hold_heat _ _
    · rfl
    · rename_i gone _
      have other : m ≠ .tunnel := fun same => gone (same ▸ here (congrArg _ same))
      unfold State.joined
      dsimp only
      rw [if_neg other]
      exact State.hold_heat _ _
    · rfl
  | absent m =>
    simp only [State.booked]
    split
    · rename_i due
      have full : (s.line.nodes.get m).idleFrames = 8 := of_decide_eq_true (Bool.and_eq_true_iff.1 due).2
      have other : m ≠ .tunnel := fun same => below (congrArg _ same) (same ▸ full)
      exact if_neg other
    · rfl
  | message m =>
    simp only [State.booked]
    split <;> rfl
  | temperature z => exact absurd rfl (temperature z)
  | pumpMap => exact absurd rfl pumps
  | count _ => rfl

/-- The tunnel node stays present, and each of its values is where it was or has been accepted and handed on (R98, R99). -/
structure State.Fed (s : State) (slots : List Octet) (t : State) : Prop where
  here : t.present .tunnel = true
  below : (t.line.nodes.get .tunnel).idleFrames ≠ 8
  temperature : ∀ z, (t.line.acceptedTemperature.get z = s.line.acceptedTemperature.get z
      ∧ (t.heat.zones.get z).raw = (s.heat.zones.get z).raw)
    ∨ (t.line.acceptedTemperature.get z = some (temperatureSlot slots z)
      ∧ s.line.acceptedTemperature.get z ≠ some (temperatureSlot slots z)
      ∧ (t.heat.zones.get z).raw = some (temperatureSlot slots z))
  pump : t.line.acceptedPump = s.line.acceptedPump
    ∨ ∀ z, (t.heat.zones.get z).pump = (pumpSlot slots).getLsbD z.number

variable {slots : List Octet} {t : State}

theorem State.Fed.of_same {u : State} (h : s.Fed slots t) (here : (u.view .tunnel).present = true)
    (below : (u.view .tunnel).idle ≠ 8) (zones : u.heat.zones = t.heat.zones)
    (kept : u.line.acceptedTemperature = t.line.acceptedTemperature ∧ u.line.acceptedPump = t.line.acceptedPump) :
    s.Fed slots u where
  here := here
  below := below
  temperature z := by
    rw [kept.1, zones]
    exact h.temperature z
  pump := by
    rw [kept.2, zones]
    exact h.pump

theorem State.Fed.of_stands {u : State} (h : s.Fed slots t) (k : t.LineStands u) : s.Fed slots u := by
  refine h.of_same ?_ ?_ k.zones ⟨by rw [k.line], by rw [k.line]⟩ <;> rw [k.view]
  · exact h.here
  · exact h.below

theorem State.Fed.booked (h : s.Fed slots t) (e : FrameEvent) :
    s.Fed slots (t.booked s.line.previous (frameSlots slots) e) := by
  have stays : ((t.booked s.line.previous (frameSlots slots) e).view .tunnel).present = true
      ∧ ((t.booked s.line.previous (frameSlots slots) e).view .tunnel).idle ≠ 8 := by
    rw [State.view_booked]
    exact NodeView.event_stays _ _ _ e h.here h.below
  obtain ⟨here, below⟩ := stays
  cases e with
  | temperature z =>
    simp only [State.booked, State.frameEvent, temperatureSlot_frameSlots] at here below ⊢
    split
    · rename_i look
      obtain ⟨_, new⟩ := doubleLook_iff.1 look
      rw [if_pos h.here]
      refine ⟨h.here, h.below, fun y => ?_, h.pump.imp_right fun pump y => ?_⟩
      · rw [State.handTemperature_zone]
        by_cases same : y = z
        · subst same
          refine .inr ⟨(PerZone.get_set ..).trans (if_pos rfl), ?_, congrArg ZoneInput.raw (if_pos rfl)⟩
          rcases h.temperature y with ⟨slot, _⟩ | ⟨slot, _⟩
          · exact slot ▸ new
          · exact absurd slot new
        · rw [if_neg same]
          have slot : (t.line.acceptedTemperature.set z (some (temperatureSlot slots z))).get y =
              t.line.acceptedTemperature.get y := (PerZone.get_set ..).trans (if_neg same)
          simp only [State.handTemperature, slot]
          exact h.temperature y
      · rw [State.handTemperature_zone, ← pump y]
        split <;> rfl
    · exact h
  | pumpMap =>
    simp only [State.booked, State.frameEvent, pumpSlot_frameSlots]
    split
    · rw [if_pos h.here]
      refine ⟨h.here, h.below, fun y => ?_, .inr fun z => congrArg ZoneInput.pump (State.handPumps_zone _ _ z)⟩
      rw [State.handPumps_zone]
      exact h.temperature y
    · exact h
  | _ =>
    exact h.of_same here below (congrArg Heat.zones
        (t.booked_zones _ _ _ (fun _ => h.here) (fun _ => h.below) (fun _ other => by cases other) (fun other => by cases other)))
      (t.booked_slots _ _ _ (fun _ other => by cases other) fun other => by cases other)

/-- What has been accepted while the tunnel node is present, its zones hold (R183). -/
def State.Shows (t : State) : Prop :=
  t.present .tunnel = true → ∀ z, ∀ v ∈ t.line.acceptedTemperature.get z, (t.heat.zones.get z).raw = some v

theorem State.Shows.of_same {u : State} (h : t.Shows) (here : u.present .tunnel = true → t.present .tunnel = true)
    (zones : u.heat.zones = t.heat.zones) (slot : u.line.acceptedTemperature = t.line.acceptedTemperature) : u.Shows :=
  fun present z v accepted => by
    rw [zones]
    exact h (here present) z v (slot ▸ accepted)

theorem State.Shows.of_stands {u : State} (h : t.Shows) (k : t.LineStands u) : u.Shows :=
  h.of_same (fun here => (k.present .tunnel).symm.trans here) k.zones (by rw [k.line])

theorem State.shows_handAccepted (t : State) : t.handAccepted.Shows := fun _ z v accepted => by
  rw [State.handAccepted_line] at accepted
  rw [State.handAccepted_zone, accepted]
  rfl

theorem State.Shows.booked (h : t.Shows) (before : Option (List Octet)) (now : List Octet) (e : FrameEvent) :
    (t.booked before now e).Shows := by
  have apart (e : FrameEvent) (code : e ≠ .code .tunnel) (absent : e ≠ .absent .tunnel)
      (temperature : ∀ z, e ≠ .temperature z) (pumps : e ≠ .pumpMap) : (t.booked before now e).Shows := by
    have view : (t.booked before now e).view .tunnel = t.view .tunnel := by
      rw [State.view_booked, NodeView.event_other _ _ _ code absent]
    refine h.of_same (fun here => (congrArg NodeView.present view).symm.trans here) ?_
      (t.booked_slots before now e temperature pumps).1
    rw [t.booked_zones before now e (fun same => absurd same code) (fun same => absurd same absent) temperature pumps]
  cases e with
  | temperature z =>
    simp only [State.booked, State.frameEvent]
    repeat' split
    · rename_i here
      intro _ y v accepted
      rw [State.handTemperature_zone]
      by_cases same : y = z
      · subst same
        rw [if_pos rfl]
        exact (((PerZone.get_set ..).trans (if_pos rfl)).symm.trans accepted)
      · rw [if_neg same]
        exact h here y v (((PerZone.get_set ..).trans (if_neg same)).symm.trans accepted)
    · exact fun here => absurd here ‹_›
    · exact h
  | pumpMap =>
    simp only [State.booked, State.frameEvent]
    repeat' split
    · intro here z v accepted
      rw [State.handPumps_zone]
      exact h here z v accepted
    · exact h
    · exact h
  | code m =>
    by_cases tunnel : m = .tunnel
    · subst tunnel
      simp only [State.booked]
      repeat' split
      · rename_i here
        exact h.of_same (fun _ => here) (by rw [State.coded, State.hold_heat]; rfl) (State.hold_slots _ _).1
      · refine h.of_same (fun here => ?_) rfl rfl
        rw [State.present, State.setNode_node] at here
        exact here
      · exact State.shows_handAccepted _
      · exact h
    · exact apart (.code m) (by simpa using tunnel) (by simp) (by simp) (by simp)
  | absent m =>
    by_cases tunnel : m = .tunnel
    · subst tunnel
      simp only [State.booked]
      split
      · intro here
        rw [State.present, State.left_node, if_pos rfl] at here
        exact absurd here Bool.false_ne_true
      · exact h
    · exact apart (.absent m) (by simp) (by simpa using tunnel) (by simp) (by simp)
  | message m => exact apart (.message m) (by simp) (by simp) (by simp) (by simp)
  | count m => exact h

end

/-! ## The zones as the frame ends -/

section
variable (s : State) (slots : List Octet) (order : List FrameEvent)

theorem State.beginFrame_present (t : State) (now : List Octet) (n : Node) : (t.beginFrame now).present n = t.present n := by
  rw [State.present, State.beginFrame_node]
  rfl

/-- Where the tunnel node stays present its values reach the zones as they are accepted (R98, R99). -/
theorem State.frameEnd_fed (here : s.present .tunnel = true) (stays : (s.frameEnd slots order).present .tunnel = true) :
    s.Fed slots (s.eventsDone slots order) := by
  have node : s.NodeFrame slots ((s.frameEnd slots order).view .tunnel) := State.frameEnd_node
  have below : s.idleAfter slots .tunnel ≠ 8 := fun full => by
    have gone := (node.leaves here).2 (node.idle.trans full)
    exact absurd (gone.symm.trans stays) (by decide)
  refine State.eventsDone_keeps s slots order (P := fun t => s.Fed slots t) ?_ fun t e h =>
    (h.booked e).of_stands (t.frameEvent_booked _ _ e)
  refine ⟨?_, ?_, fun z => .inl ⟨rfl, rfl⟩, .inl rfl⟩
  · rw [State.present, State.counted_node]
    exact here
  · rw [State.counted_node]
    exact below

/-- Where it becomes present the zones hold what stands accepted (R183). -/
theorem State.frameEnd_shows (gone : s.present .tunnel = false) : (s.eventsDone slots order).Shows := by
  refine State.eventsDone_keeps s slots order (P := State.Shows) (fun here => ?_) fun t e h =>
    (h.booked _ _ e).of_stands (t.frameEvent_booked _ _ e)
  rw [State.present, State.counted_node] at here
  exact absurd (gone.symm.trans here) (by decide)

end

end Sys2Proof.Machine
end

section
/-! What accepted codes raise, in any order of the separate events (R149, R150, R169, R170). -/

namespace Sys2Proof.Machine

/-! ## The events that raise nothing -/

/-- A fresh grant to a claimant (R151, R152). -/
def State.Grants (s : State) : Prop :=
  ∃ g ∈ s.dispatch.grant, g.window = .timing s.working.dispatchWindow ∧ s.dispatch.lastTarget = some g.target
    ∧ s.dispatch.deferred.get g.target = true ∧ s.claimant g.target = true

/-- Beside the line and the zones only a dispatch grant may open, and no present node loses its mark. -/
structure State.Calm (t u : State) : Prop where
  rest : u = { t with line := u.line, heat := u.heat, dispatch := u.dispatch }
  dispatch : u.dispatch = t.dispatch ∨ (t.inRun = true ∧ t.dispatch.grant = none ∧ u.Grants)
  marks : ∀ n, t.attention n = true → u.present n = true → u.attention n = true

namespace State.Calm

variable {s t u : State} {slots : List Octet}

theorem refl (t : State) : t.Calm t := ⟨rfl, .inl rfl, fun _ mark _ => mark⟩

/-- One node's line written. -/
theorem write {n : Node} {v : NodeLine}
    (mark : (t.line.nodes.get n).attention = true → v.present = true → v.attention = true) :
    t.Calm (t.setNode n v) where
  rest := rfl
  dispatch := .inl rfl
  marks m raised here := by
    rw [State.attention, State.setNode_node]
    rw [State.present, State.setNode_node] at here
    split
    · rename_i same
      subst same
      rw [if_pos rfl] at here
      exact mark raised here
    · exact raised

theorem decide (t : State) : t.Calm t.decideDispatch := by
  unfold State.decideDispatch
  split
  · exact refl t
  · rename_i closed
    split
    · rename_i classes x chosen
      have claims : t.claimant x = true := (List.mem_filter.1 (dispatchChoice_mem chosen)).2
      simp only [Bool.or_eq_true, Bool.not_eq_true', not_or, Bool.not_eq_true, Bool.not_eq_false] at closed
      obtain ⟨⟨⟨none, run⟩, _⟩, _⟩ := closed
      exact ⟨rfl, .inr ⟨run, by simpa using none, _, rfl, rfl, rfl, by simp, claims⟩, fun _ raised _ => raised⟩
    · exact refl t

theorem raised_setNode (t : State) {n : Node} {v : NodeLine} (mark : v.attention = (t.line.nodes.get n).attention) (m : Node)
    (raised : t.attention m = true) : (t.setNode n v).attention m = true := by
  rw [State.attention, State.setNode_node]
  split
  · rename_i same
    exact mark.trans (same ▸ raised)
  · exact raised

theorem after_write {v : State} (rest : u = { t with line := u.line, heat := u.heat })
    (marks : ∀ n, t.attention n = true → u.attention n = true) (k : u.Calm v) : t.Calm v where
  rest := by rw [k.rest, rest]
  dispatch := by
    rcases k.dispatch with same | ⟨run, none, grants⟩
    · exact .inl (by rw [same, rest])
    · rw [rest] at run none
      exact .inr ⟨run, none, grants⟩
  marks n raised := k.marks n (marks n raised)

/-- Where afterwards only channels and marks are written. -/
theorem trans {v : State} (h : t.Calm u) (k : u.Calm v) (line : u.LineStands v) (still : v.dispatch = u.dispatch) :
    t.Calm v where
  rest := by rw [k.rest, h.rest]
  dispatch := by
    rcases h.dispatch with same | ⟨run, none, g, standing, window, target, deferred, claims⟩
    · exact .inl (still.trans same)
    · have lanes : v.lanes = u.lanes := by rw [k.rest]
      have working : v.working = u.working := by rw [k.rest]
      refine .inr ⟨run, none, g, by rw [still]; exact standing, by rw [working]; exact window, by rw [still]; exact target,
        by rw [still]; exact deferred, ?_⟩
      rw [State.claimant, line.present, lanes, line.line]
      exact claims
  marks n raised here := k.marks n (h.marks n raised ((line.present n).symm.trans here)) here

/-- A message pair that ends no request. -/
theorem acceptPair (t : State) (n : Node) {p : Octet × Octet} (ends : ¬endsRequest p.2) :
    t.Calm (t.acceptPair n p) ∧ (t.acceptPair n p).dispatch = t.dispatch := by
  rcases t.acceptPair_quiet n ends with e | ⟨c, e⟩ <;> rw [e]
  · exact ⟨refl t, rfl⟩
  · exact ⟨write fun raised _ => raised, rfl⟩

theorem stationChanged (t before : State) (x : Station) : t.Calm (t.stationChanged before x) := by
  unfold State.stationChanged
  split
  · exact decide t
  · exact refl t

variable {n : Node} (tunnel : n ≠ .tunnel) (drive : n ≠ .drive)
include tunnel drive

theorem acceptCode (t : State) (v : Octet) : t.Calm (t.acceptCode n v) := by
  cases n with
  | tunnel => exact absurd rfl tunnel
  | drive => exact absurd rfl drive
  | station x =>
    simp only [State.acceptCode]
    split
    · exact .after_write (u := t.setStationCode x _) rfl (fun _ raised => raised) (stationChanged _ _ _)
    · exact refl t
  | _ => exact refl t

theorem presentWith (t : State) (v : Octet) : t.Calm (t.presentWith n v) := by
  have joins : t.Calm (t.setNode n { t.line.nodes.get n with present := true }) := write fun raised _ => raised
  cases n with
  | tunnel => exact absurd rfl tunnel
  | drive => exact absurd rfl drive
  | station x =>
    exact .after_write (u := (t.setNode (.station x) { t.line.nodes.get (.station x) with present := true }).setStationCode
      x ((stationCodeOfOctet v).getD .idle)) rfl (raised_setNode t rfl) (stationChanged _ _ _)
  | _ => exact joins

/-- A node becomes present; its accepted pair ends no request (R181, R187). -/
theorem becomePresent (mid : s.MidFrame slots t) (quiet : s.noRequestAt slots)
    (absent : (t.line.nodes.get n).present = false) (code : codeSlot slots n ≠ 0xFF) :
    t.Calm (t.becomePresent n (codeSlot slots n)) := by
  have joined := presentWith tunnel drive t (codeSlot slots n)
  rcases mid.becomePresent_form quiet absent code with e | ⟨p, ends, e⟩ <;> rw [e]
  · exact joined
  · obtain ⟨pair, still⟩ := acceptPair (t.presentWith n (codeSlot slots n)) n ends
    obtain ⟨here, _⟩ := t.presentWith_nodes n (codeSlot slots n) n
    rw [State.setNode_node, if_pos rfl] at here
    exact joined.trans pair (State.acceptPair_stands here p) still

omit tunnel drive

/-- Every event raises nothing but those of the tunnel node's and the drive node's codes and absence. -/
theorem event (mid : s.MidFrame slots t) (quiet : s.noRequestAt slots) {e : FrameEvent}
    (code : e ≠ .code .tunnel ∧ e ≠ .code .drive) (absent : e ≠ .absent .tunnel ∧ e ≠ .absent .drive) :
    t.Calm (t.frameEvent s.line.previous (frameSlots slots) e) := by
  cases e with
  | code n =>
    have tunnel : n ≠ .tunnel := fun same => code.1 (congrArg _ same)
    have drive : n ≠ .drive := fun same => code.2 (congrArg _ same)
    simp only [State.frameEvent, codeSlot_frameSlots]
    split
    · rename_i look
      refine .after_write (u := t.heard n (codeSlot slots n)) rfl
        (raised_setNode t rfl) ?_
      split
      · exact acceptCode tunnel drive _ _
      split
      · exact refl _
      · rename_i gone sends
        refine becomePresent tunnel drive (mid.codeAccepted look) quiet ?_ sends
        rw [State.setNode_node, if_pos rfl]
        simpa using gone
    · exact refl t
  | absent n =>
    simp only [State.frameEvent]
    split
    · have silenced : t.becomeAbsent n = t.silenced n := by
        cases n with
        | tunnel => exact absurd rfl absent.1
        | drive => exact absurd rfl absent.2
        | _ => rfl
      rw [silenced]
      refine ⟨by rw [t.silenced_form], .inl (by rw [t.silenced_form]), fun m raised here => ?_⟩
      rw [State.attention, State.silenced_node]
      rw [State.present, State.silenced_node] at here
      split
      · rename_i same
        rw [if_pos same] at here
        exact absurd here Bool.false_ne_true
      · exact raised
    · exact refl t
  | message n =>
    simp only [State.frameEvent, messageSlots_frameSlots]
    split
    · rename_i look
      refine .after_write (u := t.setNode n { t.line.nodes.get n with acceptedPair := some (messageSlots slots n) }) rfl
        (raised_setNode t rfl) ?_
      split
      · exact (acceptPair _ n (mid.message quiet look).2).1
      · exact refl _
    · exact refl t
  | temperature z =>
    simp only [State.frameEvent]
    repeat' split
    all_goals exact ⟨rfl, .inl rfl, fun _ raised _ => raised⟩
  | pumpMap =>
    simp only [State.frameEvent]
    repeat' split
    all_goals exact ⟨rfl, .inl rfl, fun _ raised _ => raised⟩
  | count n => exact write fun raised _ => raised

end State.Calm

end Sys2Proof.Machine
end

section
/-! One code accepted at a frame end, and what it raises, in any order of the separate events (R149, R150, R169, R170). -/

namespace Sys2Proof.Machine

/-! ## The events before and after the acceptance of one code -/

section
variable {s t u : State} {slots : List Octet}

/-- A node whose code and presence this frame end does not change. -/
theorem State.MidFrame.still (mid : s.MidFrame slots t) {n : Node} (quiet : s.codeQuiet slots n) {e : FrameEvent}
    (own : e = .code n ∨ e = .absent n) : t.frameEvent s.line.previous (frameSlots slots) e = t := by
  obtain ⟨_, _, below⟩ := mid.code n quiet
  rcases own with rfl | rfl
  · refine if_neg fun look => ?_
    rw [codeSlot_frameSlots] at look
    exact mid.codeNew look quiet
  · refine if_neg fun due => ?_
    obtain ⟨here, full⟩ := Bool.and_eq_true_iff.1 due
    exact below here (of_decide_eq_true full)

/-- A node that sends a code does not become absent (R181). -/
theorem State.MidFrame.still_absent (mid : s.MidFrame slots t) {n : Node} (sends : codeSlot slots n ≠ 0xFF) :
    t.frameEvent s.line.previous (frameSlots slots) (.absent n) = t :=
  if_neg fun due => sends (mid.idle n (of_decide_eq_true (Bool.and_eq_true_iff.1 due).2))

/-- Events of a frame end that come before or after the acceptance of the code of node `k`. -/
structure State.Uneventful (s : State) (slots : List Octet) (k : Node) (t u : State) : Prop where
  mid : s.MidFrame slots u
  rest : u = { t with line := u.line, heat := u.heat, dispatch := u.dispatch }
  dispatch : t.inRun = false ∨ t.dispatch.grant ≠ none → u.dispatch = t.dispatch
  view : ∀ n, n = k ∨ s.codeQuiet slots n → u.view n = t.view n
  stays : ∀ n, (t.view n).present = true → (t.view n).idle ≠ 8 →
    (u.view n).present = true ∧ (u.view n).idle ≠ 8 ∧ (t.attention n = true → u.attention n = true)

theorem State.Uneventful.refl {k : Node} (mid : s.MidFrame slots t) : s.Uneventful slots k t t :=
  ⟨mid, rfl, fun _ => rfl, fun _ _ => rfl, fun _ here below => ⟨here, below, id⟩⟩

theorem State.Uneventful.trans {k : Node} {v : State} (h : s.Uneventful slots k t u) (g : s.Uneventful slots k u v) :
    s.Uneventful slots k t v where
  mid := g.mid
  rest := by rw [g.rest, h.rest]
  dispatch closed := by
    have same := h.dispatch closed
    refine (g.dispatch ?_).trans same
    rw [same, h.rest]
    exact closed
  view n own := (g.view n own).trans (h.view n own)
  stays n here below := by
    obtain ⟨here, below, mark⟩ := h.stays n here below
    obtain ⟨here, below, mark'⟩ := g.stays n here below
    exact ⟨here, below, mark' ∘ mark⟩

variable {k : Node} (quiet : s.noRequestAt slots) (sends : codeSlot slots k ≠ 0xFF)
  (others : ∀ n, n = .tunnel ∨ n = .drive → n = k ∨ s.codeQuiet slots n)
include sends

/-- The events of a node that sends the code, or that this frame end does not change, but for that code. -/
theorem State.MidFrame.still_own (mid : s.MidFrame slots t) {n : Node} (own : n = k ∨ s.codeQuiet slots n) {e : FrameEvent}
    (code : e ≠ .code k) (mine : e = .code n ∨ e = .absent n) :
    t.frameEvent s.line.previous (frameSlots slots) e = t := by
  rcases own with rfl | still
  · obtain rfl := mine.resolve_left code
    exact mid.still_absent sends
  · exact mid.still still mine

include quiet others

theorem State.calmEvent (mid : s.MidFrame slots t) {e : FrameEvent} (code : e ≠ .code k) :
    t.Calm (t.frameEvent s.line.previous (frameSlots slots) e) := by
  by_cases steers : ∃ n, (n = .tunnel ∨ n = .drive) ∧ (e = .code n ∨ e = .absent n)
  · obtain ⟨n, steers, mine⟩ := steers
    rw [mid.still_own sends (others n steers) code mine]
    exact .refl t
  · refine .event mid quiet ⟨?_, ?_⟩ ⟨?_, ?_⟩ <;> rintro rfl
    · exact steers ⟨_, .inl rfl, .inl rfl⟩
    · exact steers ⟨_, .inr rfl, .inl rfl⟩
    · exact steers ⟨_, .inl rfl, .inr rfl⟩
    · exact steers ⟨_, .inr rfl, .inr rfl⟩

theorem State.uneventful_event (mid : s.MidFrame slots t) {e : FrameEvent} (code : e ≠ .code k) :
    s.Uneventful slots k t (t.frameEvent s.line.previous (frameSlots slots) e) where
  mid := mid.event quiet e
  rest := (State.calmEvent quiet sends others mid code).rest
  dispatch closed := by
    rcases (State.calmEvent quiet sends others mid code).dispatch with same | ⟨run, none, _⟩
    · exact same
    · rcases closed with outside | granted
      · exact absurd (outside.symm.trans run) Bool.false_ne_true
      · exact absurd none granted
  view n own := by
    by_cases mine : e = .code n ∨ e = .absent n
    · rw [mid.still_own sends own code mine]
    · rw [(t.frameEvent_booked _ _ e).view, State.view_booked]
      exact NodeView.event_other _ _ _ (fun same => mine (.inl same)) fun same => mine (.inr same)
  stays n here below := by
    have booked := (t.frameEvent_booked s.line.previous (frameSlots slots) e).view n
    obtain ⟨here', below'⟩ := NodeView.event_stays (t.view n) (s.line.previous.map fun b => codeSlot b n)
      (codeSlot (frameSlots slots) n) e here below
    rw [← State.view_booked, ← booked] at here' below'
    exact ⟨here', below', fun raised => (State.calmEvent quiet sends others mid code).marks n raised here'⟩

theorem State.uneventful_events (l : List FrameEvent) (code : .code k ∉ l) (mid : s.MidFrame slots t) :
    s.Uneventful slots k t (l.foldl (fun t e => t.frameEvent s.line.previous (frameSlots slots) e) t) := by
  induction l generalizing t with
  | nil => exact .refl mid
  | cons e l ih =>
    have one := State.uneventful_event quiet sends others mid (e := e) fun same => code (same ▸ List.mem_cons_self)
    exact one.trans (ih (fun mem => code (List.mem_cons_of_mem e mem)) one.mid)

/-- The frame end, split at the acceptance of one code. -/
theorem State.frameEnd_split (order : List FrameEvent) : ∃ t u,
    s.Uneventful slots k (s.countIdleFrames (frameSlots slots)) t
      ∧ s.Uneventful slots k (t.frameEvent s.line.previous (frameSlots slots) (.code k)) u
      ∧ s.frameEnd slots order = u.beginFrame (frameSlots slots) := by
  obtain ⟨a, b, split⟩ := List.append_of_mem (mem_inOrder order (mem_frameEvents (.code k)))
  have once : (a ++ .code k :: b).Nodup := split ▸ nodup_inOrder order nodup_frameEvents
  have apart := not_or.1 (List.mem_append.not.1 (List.nodup_middle.1 once).notMem)
  have before := State.uneventful_events quiet sends others a apart.1 (.counted s slots)
  have after := State.uneventful_events quiet sends others b apart.2 (before.mid.event quiet (.code k))
  refine ⟨_, _, before, after, ?_⟩
  rw [State.frameEnd_eq, State.eventsDone, split, List.foldl_append, List.foldl_cons]

end

end Sys2Proof.Machine
end

section
/-! The holds, the stops and the grants that accepted codes bring (R149, R150, R169, R170). -/

namespace Sys2Proof.Machine

/-! ## A change of the tunnel's code and of the drive's -/

section
variable {s : State}

/-- HOLD taken in RUN leaves no test and no command to take. -/
theorem State.heldBy_quiet {t : State} {c : HoldCause} (run : s.inRun = true) (h : s.heldBy t c) :
    t.startingTest = t ∧ t.takeCommands = t ∧ (s.line.driveCode ≠ .running → t.holdingTest = t) := by
  obtain ⟨⟨loop, _, _, _, _, _, _, _, none⟩, _⟩ := h
  cases was : s.executor.loop with
  | run =>
    simp only [State.loopAfterHold, was] at loop
    refine ⟨?_, State.takeCommands_none none, fun off => ?_⟩
    · unfold State.startingTest
      rw [loop]
      split <;> rename_i e <;> first
        | rfl
        | split at e <;> cases e
    · unfold State.holdingTest
      rw [loop, if_neg off]
  | _ => simp [State.inRun, was, LoopState.isRun] at run

theorem State.tunnelChanged_held (run : s.inRun = true) (code : s.line.tunnelCode ≠ .ready)
    (still : s.executor.drain = none) (idle : s.nonePending) : s.tunnelChanged = s.raiseHold .tunnelNotReady := by
  obtain ⟨held, _⟩ := State.raiseHold_held .tunnelNotReady still idle
  obtain ⟨starting, none, _⟩ := State.heldBy_quiet run held
  unfold State.tunnelChanged
  dsimp only
  rw [if_pos (by simp [run, code]), starting, none]

theorem State.driveChanged_held (run : s.inRun = true) (code : s.line.driveCode = .off)
    (still : s.executor.drain = none) (idle : s.nonePending) : s.driveChanged = s.raiseHold .driveNotReady := by
  obtain ⟨held, _⟩ := State.raiseHold_held .driveNotReady still idle
  obtain ⟨starting, none, holding⟩ := State.heldBy_quiet run held
  unfold State.driveChanged
  dsimp only
  rw [if_neg (by simp [code, DriveCode.isFault]), if_pos (by simp [run, code]), starting, holding (by simp [code]), none]

theorem State.loopAfterStop_ends (s : State) : s.loopAfterStop = .idle ∨ s.loopAfterStop = .stopped := by
  unfold State.loopAfterStop
  split <;> simp

theorem State.driveChanged_stopped (code : s.line.driveCode.isFault = true) (idle : s.nonePending) :
    s.driveChanged = s.raiseStop .driveFault := by
  obtain ⟨⟨⟨loop, _, _, _, _, _, _, _, none, _⟩, _⟩, _⟩ := State.raiseStop_stopped .driveFault idle
  have ended := s.loopAfterStop_ends
  rw [← loop] at ended
  have starting : (s.raiseStop .driveFault).startingTest = s.raiseStop .driveFault := by
    unfold State.startingTest
    rcases ended with e | e <;> rw [e]
  have holding : (s.raiseStop .driveFault).holdingTest = s.raiseStop .driveFault := by
    unfold State.holdingTest
    rcases ended with e | e <;> rw [e]
  unfold State.driveChanged
  dsimp only
  rw [if_pos code, starting, holding, State.takeCommands_none none]

end

/-! ## The one code accepted -/

section
variable {s t u : State} {slots : List Octet} {k : Node}

theorem State.Uneventful.found (h : s.Uneventful slots k (s.countIdleFrames (frameSlots slots)) t) {n : Node}
    (own : n = k ∨ s.codeQuiet slots n) : t.view n = { s.view n with idle := s.idleAfter slots n } := by
  rw [h.view n own, State.counted_view]

/-- Up to the acceptance of its code the node is as the frame found it. -/
theorem State.Uneventful.look (h : s.Uneventful slots k (s.countIdleFrames (frameSlots slots)) t)
    (accepted : s.codeAccepted slots k) : doubleLook (s.line.previous.map fun b => codeSlot b k) (codeSlot slots k)
      (t.line.nodes.get k).acceptedCode = true := by
  have code : (t.line.nodes.get k).acceptedCode = (s.line.nodes.get k).acceptedCode :=
    congrArg NodeView.accepted (h.found (.inl rfl))
  rw [code]
  exact State.look_iff.2 accepted

theorem State.Uneventful.fires (h : s.Uneventful slots k (s.countIdleFrames (frameSlots slots)) t)
    (accepted : s.codeAccepted slots k) (sends : codeSlot slots k ≠ 0xFF) :
    t.frameEvent s.line.previous (frameSlots slots) (.code k) =
      if s.present k then
        (t.heard k (codeSlot slots k)).acceptCode k (codeSlot slots k)
      else (t.heard k (codeSlot slots k)).becomePresent k
        (codeSlot slots k) := by
  have here : (t.line.nodes.get k).present = s.present k := congrArg NodeView.present (h.found (.inl rfl))
  simp only [State.frameEvent, codeSlot_frameSlots]
  rw [if_pos (h.look accepted), if_neg sends]
  exact if_congr (by rw [here]) rfl rfl

/-- A node that becomes present treats a pair that ends no request, which is a matter of the line (R187). -/
theorem State.Uneventful.becomes (h : s.Uneventful slots k (s.countIdleFrames (frameSlots slots)) t)
    (quiet : s.noRequestAt slots) (accepted : s.codeAccepted slots k) (sends : codeSlot slots k ≠ 0xFF)
    (gone : ¬s.present k = true) : ∃ l,
    t.frameEvent s.line.previous (frameSlots slots) (.code k) =
      { (t.heard k (codeSlot slots k)).presentWith k
        (codeSlot slots k) with line := l } := by
  have absent : (t.line.nodes.get k).present = s.present k := congrArg NodeView.present (h.found (.inl rfl))
  rw [h.fires accepted sends, if_neg gone]
  rcases (h.mid.codeAccepted (h.look accepted)).becomePresent_form quiet
    (by rw [State.setNode_node, if_pos rfl]; rw [absent]; simpa using gone) sends with e | ⟨p, ends, e⟩ <;> rw [e]
  · exact ⟨_, rfl⟩
  · rcases ((t.heard k (codeSlot slots k)).presentWith k
      (codeSlot slots k)).acceptPair_quiet k ends with e | ⟨c, e⟩ <;> rw [e]
    · exact ⟨_, rfl⟩
    · exact ⟨_, rfl⟩

/-- Beside the line, the zones and a dispatch grant a state of this frame end is as the frame found it. -/
theorem State.Uneventful.start (h : s.Uneventful slots k (s.countIdleFrames (frameSlots slots)) t) :
    t = { s with line := t.line, heat := t.heat, dispatch := t.dispatch } := h.rest

/-- What has been raised stands as the frame ends. -/
theorem State.Uneventful.ends (h : s.Uneventful slots k t u) (outside : t.inRun = false) :
    (u.beginFrame (frameSlots slots)).executor = t.executor
      ∧ (t.permissionsWithdrawn → (u.beginFrame (frameSlots slots)).permissionsWithdrawn) := by
  have rest := h.rest
  refine ⟨by rw [rest]; rfl, fun ⟨permit, stall, release, merge, dispatch⟩ => ?_⟩
  have grant : u.dispatch.grant = none := by rw [h.dispatch (.inl outside), dispatch]
  rw [rest]
  exact ⟨permit, stall, release, merge, grant⟩

/-- A hold cause raised at the acceptance stands as the frame ends (R162, R169). -/
theorem State.Uneventful.held {x : State} {c : HoldCause} (h : s.Uneventful slots k (x.raiseHold c) u)
    (run : x.inRun = true) (still : x.executor.drain = none) (idle : x.nonePending) :
    x.heldBy (u.beginFrame (frameSlots slots)) c ∧ (u.beginFrame (frameSlots slots)).permissionsWithdrawn
      ∧ ((x.view .panel).present = true → (x.view .panel).idle ≠ 8 →
        (u.beginFrame (frameSlots slots)).attention .panel = true) := by
  obtain ⟨held, outside, withdrawn, _⟩ := State.raiseHold_held c still idle
  obtain ⟨executor, permissions⟩ := h.ends outside
  refine ⟨?_, permissions (withdrawn run), fun here below => ?_⟩
  · simpa only [State.heldBy, State.holdTaken, State.outcomesKept, State.nonePending, executor] using held
  · have view : (x.raiseHold c).view .panel = x.view .panel :=
      (State.LineStands.of_kept (.of_settled (x.raiseHold_settled c))).view .panel
    obtain ⟨_, _, mark⟩ := h.stays .panel (by rw [view]; exact here) (by rw [view]; exact below)
    rw [State.attention, State.beginFrame_node]
    exact mark (State.raiseHold_mark c here)

/-- A node that stays present to the end is present at every point of it. -/
theorem State.Uneventful.here (h : s.Uneventful slots k (s.countIdleFrames (frameSlots slots)) t) {n : Node}
    {order : List FrameEvent} (here : s.present n = true) (stays : (s.frameEnd slots order).present n = true) :
    (t.view n).present = true ∧ (t.view n).idle ≠ 8 := by
  have below : s.idleAfter slots n ≠ 8 := fun full => by
    have gone := State.frameEnd_gone (order := order) here full
    exact absurd ((congrArg NodeView.present gone).symm.trans stays) Bool.false_ne_true
  obtain ⟨here, below, _⟩ := h.stays n (by rw [State.counted_view]; exact here) (by rw [State.counted_view]; exact below)
  exact ⟨here, below⟩

theorem State.coded_form (t : State) (k : Node) (code : Octet) : t.coded k code = { t with line := (t.coded k code).line } :=
  State.hold_form ..

/-- The state in which the code is held and the loop is still as it was. -/
theorem State.Uneventful.coded (h : s.Uneventful slots k (s.countIdleFrames (frameSlots slots)) t) (code : Octet) :
    (t.coded k code).executor = s.executor ∧ (t.coded k code).working = s.working := by
  rw [t.coded_form, h.start]
  exact ⟨rfl, rfl⟩

theorem State.coded_held (t : State) {code : Octet} {c : HeldCode k} (defined : codeFor k code = some c) :
    (t.coded k code).line.held k = c := by
  rw [State.coded, State.held_hold, defined]
  rfl

section
variable (idle : s.nonePending) (still : s.executor.drain = none) (run : s.inRun = true)
include idle still run

/-- A hold cause raised by a code accepted in RUN stands as the frame ends (R162, R169). -/
theorem State.Uneventful.held_to_end {cause : HoldCause} {code : Octet} {order : List FrameEvent}
    (before : s.Uneventful slots k (s.countIdleFrames (frameSlots slots)) t)
    (after : s.Uneventful slots k ((t.coded k code).raiseHold cause) u)
    (ends : s.frameEnd slots order = u.beginFrame (frameSlots slots)) (panel : k ≠ .panel) :
    (t.coded k code).heldBy (s.frameEnd slots order) cause ∧ (s.frameEnd slots order).permissionsWithdrawn
      ∧ (s.present .panel = true → (s.frameEnd slots order).present .panel = true →
        (s.frameEnd slots order).attention .panel = true) := by
  obtain ⟨executor, _⟩ := before.coded code
  obtain ⟨taken, withdrawn, mark⟩ := after.held (by rw [State.inRun, executor]; exact run)
    (by rw [executor]; exact still) (by rw [State.nonePending, executor]; exact idle)
  rw [← ends] at taken withdrawn mark
  refine ⟨taken, withdrawn, fun there stays => ?_⟩
  obtain ⟨here, below⟩ := before.here there stays
  rw [State.view_coded, if_neg panel] at mark
  exact mark here below

end

variable (idle : s.nonePending) (still : s.executor.drain = none) (quiet : s.noRequestAt slots) (order : List FrameEvent)
include idle still quiet

/-- The tunnel node no longer READY in RUN (R169). -/
theorem State.frameEnd_tunnelHeld (run : s.inRun = true) (drive : s.codeQuiet slots .drive)
    (accepted : s.codeAccepted slots .tunnel) (here : s.present .tunnel = true) (ready : s.line.tunnelCode = .ready)
    (code : codeSlot slots .tunnel ∈ [(0x00 : Octet), 0x01, 0x03]) :
    s.heldBy (s.frameEnd slots order) .tunnelNotReady ∧ (s.frameEnd slots order).permissionsWithdrawn
      ∧ (s.present .panel = true → (s.frameEnd slots order).present .panel = true →
        (s.frameEnd slots order).attention .panel = true) := by
  obtain ⟨c, defined, other, sends⟩ : ∃ c, codeFor .tunnel (codeSlot slots .tunnel) = some c ∧ c ≠ TunnelCode.ready
      ∧ codeSlot slots .tunnel ≠ 0xFF := by
    simp only [List.mem_cons, List.not_mem_nil, or_false] at code
    rcases code with e | e | e <;> rw [e] <;> exact ⟨_, rfl, by decide, by decide⟩
  obtain ⟨t, u, before, after, ends⟩ := State.frameEnd_split quiet sends (fun n steers => by
    rcases steers with rfl | rfl
    · exact .inl rfl
    · exact .inr drive) order
  obtain ⟨executor, working⟩ := before.coded (codeSlot slots .tunnel)
  have was : t.line.tunnelCode = .ready := (congrArg NodeView.held (before.found (.inl rfl))).trans ready
  have raised : t.frameEvent s.line.previous (frameSlots slots) (.code .tunnel) =
      (t.coded .tunnel (codeSlot slots .tunnel)).raiseHold .tunnelNotReady := by
    have written : t.coded .tunnel (codeSlot slots .tunnel) = (t.heard .tunnel (codeSlot slots .tunnel)).setTunnelCode c := by
      rw [State.coded, defined]
      rfl
    rw [before.fires accepted sends, if_pos here]
    simp only [State.acceptCode, show tunnelCodeOf (codeSlot slots .tunnel) = some c from defined]
    rw [if_neg (fun same => other (same.trans was)), ← written]
    exact State.tunnelChanged_held (by rw [State.inRun, executor]; exact run)
      (fun same => other ((t.coded_held defined).symm.trans same)) (by rw [executor]; exact still)
      (by rw [State.nonePending, executor]; exact idle)
  rw [raised] at after
  obtain ⟨taken, rest⟩ := before.held_to_end idle still run after ends (by decide)
  refine ⟨State.heldBy_congr executor ?_ working taken, rest⟩
  have view : (t.coded .tunnel (codeSlot slots .tunnel)).view .drive = t.view .drive := by
    rw [State.view_coded, if_neg (by decide)]
  exact (congrArg NodeView.held view).trans (congrArg NodeView.held (before.found (.inr drive)))

/-- The drive node OFF in RUN (R168, R169). -/
theorem State.frameEnd_driveHeld (run : s.inRun = true) (tunnel : s.codeQuiet slots .tunnel)
    (accepted : s.codeAccepted slots .drive) (here : s.present .drive = true) (on : s.line.driveCode ≠ .off)
    (code : codeSlot slots .drive = 0x00) : ∃ x : State, x.executor = s.executor ∧ x.line.driveCode = .off
      ∧ x.heldBy (s.frameEnd slots order) .driveNotReady ∧ (s.frameEnd slots order).permissionsWithdrawn := by
  have defined : codeFor .drive (codeSlot slots .drive) = some DriveCode.off := by rw [code]; rfl
  have sends : codeSlot slots .drive ≠ 0xFF := by rw [code]; decide
  obtain ⟨t, u, before, after, ends⟩ := State.frameEnd_split quiet sends (fun n steers => by
    rcases steers with rfl | rfl
    · exact .inr tunnel
    · exact .inl rfl) order
  obtain ⟨executor, _⟩ := before.coded (codeSlot slots .drive)
  have was : t.line.driveCode = s.line.driveCode := congrArg NodeView.held (before.found (.inl rfl))
  have raised : t.frameEvent s.line.previous (frameSlots slots) (.code .drive) =
      (t.coded .drive (codeSlot slots .drive)).raiseHold .driveNotReady := by
    have written : t.coded .drive (codeSlot slots .drive) = (t.heard .drive (codeSlot slots .drive)).setDriveCode .off := by
      rw [State.coded, defined]
      rfl
    rw [before.fires accepted sends, if_pos here]
    simp only [State.acceptCode, show driveCodeOf (codeSlot slots .drive) = some .off from defined]
    rw [if_neg (fun same => on (was.symm.trans same.symm)), ← written]
    exact State.driveChanged_held (by rw [State.inRun, executor]; exact run) (t.coded_held defined)
      (by rw [executor]; exact still) (by rw [State.nonePending, executor]; exact idle)
  rw [raised] at after
  obtain ⟨taken, withdrawn, _⟩ := before.held_to_end idle still run after ends (by decide)
  exact ⟨_, executor, t.coded_held defined, taken, withdrawn⟩

omit still

/-- The drive node FAULT or ESTOP, its code changed or with its presence (R170). -/
theorem State.frameEnd_driveStopped (tunnel : s.codeQuiet slots .tunnel) (accepted : s.codeAccepted slots .drive)
    {c : DriveCode} (fault : c.isFault = true) (defined : driveCodeOf (codeSlot slots .drive) = some c)
    (sends : codeSlot slots .drive ≠ 0xFF) (other : s.present .drive = true → s.line.driveCode ≠ c) :
    s.stopTaken (s.frameEnd slots order) .internal
      ∧ (s.frameEnd slots order).executor.stopCauses = s.executor.stopCauses.add .driveFault
      ∧ (s.inRun = true → (s.frameEnd slots order).permissionsWithdrawn) := by
  obtain ⟨t, u, before, after, ends⟩ := State.frameEnd_split quiet sends (fun n steers => by
    rcases steers with rfl | rfl
    · exact .inr tunnel
    · exact .inl rfl) order
  have was : t.line.driveCode = s.line.driveCode := congrArg NodeView.held (before.found (.inl rfl))
  have stopped (w : State) (rest : w = { t with line := w.line }) (code : w.line.driveCode = c) :
      w.executor = s.executor ∧ w.driveChanged = w.raiseStop .driveFault := by
    have executor : w.executor = s.executor := by rw [rest, before.start]
    exact ⟨executor, State.driveChanged_stopped (by rw [code]; exact fault) (by rw [State.nonePending, executor]; exact idle)⟩
  obtain ⟨x, l, executor, raised⟩ : ∃ (x : State) (l : Line), x.executor = s.executor
      ∧ t.frameEvent s.line.previous (frameSlots slots) (.code .drive) = { x.raiseStop .driveFault with line := l } := by
    rw [before.fires accepted sends]
    split
    · rename_i here
      simp only [State.acceptCode, defined]
      rw [if_neg fun same => other here (was.symm.trans same.symm)]
      obtain ⟨executor, raised⟩ := stopped ((t.heard .drive (codeSlot slots .drive)).setDriveCode c) rfl rfl
      exact ⟨_, _, executor, raised⟩
    · rename_i gone
      obtain ⟨l, joined⟩ := before.becomes quiet accepted sends gone
      rw [before.fires accepted sends, if_neg gone] at joined
      rw [joined]
      simp only [State.presentWith, defined, Option.getD_some]
      obtain ⟨executor, raised⟩ := stopped (((t.heard .drive (codeSlot slots .drive)).setNode .drive
        { (t.heard .drive (codeSlot slots .drive)).line.nodes.get .drive with present := true }).setDriveCode c) rfl rfl
      rw [raised]
      exact ⟨_, _, executor, rfl⟩
  rw [raised] at after
  have none : x.nonePending := by rw [State.nonePending, executor]; exact idle
  obtain ⟨⟨taken, causes⟩, outside, withdrawn, _⟩ := State.raiseStop_stopped .driveFault none
  obtain ⟨same, permissions⟩ := after.ends outside
  rw [← ends] at same permissions
  refine ⟨State.stopTaken_congr executor ?_, ?_, fun run => permissions (withdrawn (.inl ?_))⟩
  · simpa only [State.stopTaken, State.outcomesKept, State.nonePending, same] using taken
  · rw [same, ← executor]
    exact causes
  · rw [State.inRun, executor]
    exact run

end

end Sys2Proof.Machine
end

section
/-! The dispatch grant that a station's code brings at a frame end (R149 to R151). -/

namespace Sys2Proof.Machine

/-! ## Nodes whose code is not accepted -/

section
variable {s : State} {slots : List Octet} {n : Node}

/-- A node that has accepted no code is present only where it was, with the code it had. -/
structure State.Unaccepted (s : State) (slots : List Octet) {n : Node} (v : NodeView n) : Prop where
  idle : v.idle = 8 → codeSlot slots n = 0xFF
  accepted : v.accepted = (s.line.nodes.get n).acceptedCode ∨ v.accepted = some (codeSlot slots n)
  here : v.present = true → s.present n = true ∧ v.held = s.line.held n

theorem State.Unaccepted.event {v : NodeView n} (h : s.Unaccepted slots v) (unseen : ¬s.codeAccepted slots n)
    (e : FrameEvent) :
    s.Unaccepted slots (v.event (s.line.previous.map fun b => codeSlot b n) (codeSlot slots n) e) := by
  have acceptance : v.acceptance (s.line.previous.map fun b => codeSlot b n) (codeSlot slots n) = v := by
    refine NodeView.acceptance_unseen fun look => ?_
    obtain ⟨seen, new⟩ := doubleLook_iff.1 look
    rcases h.accepted with same | now
    · exact unseen ⟨seen, same ▸ new⟩
    · exact new now
  have absence : s.Unaccepted slots v.absence := by
    by_cases due : v.present = true ∧ v.idle = 8
    · obtain ⟨here, full⟩ := due
      rw [NodeView.absence_due here full]
      exact ⟨fun _ => h.idle full, .inr (congrArg some (h.idle full).symm), fun here => absurd here Bool.false_ne_true⟩
    · rw [show v.absence = v from if_neg (by simpa using due)]
      exact h
  cases e with
  | code m =>
    simp only [NodeView.event]
    rw [acceptance, ite_self]
    exact h
  | absent m =>
    simp only [NodeView.event]
    split
    · exact absence
    · exact h
  | _ => exact h

/-! ## A grant opened during the frame -/

/-- The stations that may claim at some point of this frame end (R149). -/
def State.mayClaim (s : State) (slots : List Octet) (y : Station) : Prop :=
  s.lanes.lp.get y = none
    ∧ (s.codeAccepted slots (.station y) ∨ (s.present (.station y) = true ∧ s.line.stationCode.get y = .want))

/-- A grant opened during this frame end (R151, R152). -/
def State.GrantedTo (s : State) (slots : List Octet) (t : State) : Prop :=
  ∃ g ∈ t.dispatch.grant, g.window = .timing s.working.dispatchWindow ∧ t.dispatch.lastTarget = some g.target
    ∧ t.dispatch.deferred.get g.target = true ∧ s.mayClaim slots g.target

/-- Where a frame end that found no grant stands at some point, the tunnel's and the drive's codes not changing. -/
structure State.Granting (s : State) (slots : List Octet) (t : State) : Prop where
  mid : s.MidFrame slots t
  rest : t = { s with line := t.line, heat := t.heat, dispatch := t.dispatch }
  unaccepted : ∀ n, ¬s.codeAccepted slots n → s.Unaccepted slots (t.view n)
  granted : t.dispatch.grant = none ∨ s.GrantedTo slots t

variable {t : State}

theorem State.Granting.counted (none : s.dispatch.grant = none) :
    s.Granting slots (s.countIdleFrames (frameSlots slots)) where
  mid := .counted s slots
  rest := rfl
  unaccepted n _ := by
    rw [State.counted_view]
    exact ⟨s.idleAfter_full slots, .inl rfl, fun here => ⟨here, rfl⟩⟩
  granted := .inl none

theorem State.Granting.event (h : s.Granting slots t) (quiet : s.noRequestAt slots) (tunnel : s.codeQuiet slots .tunnel)
    (drive : s.codeQuiet slots .drive) (e : FrameEvent) :
    s.Granting slots (t.frameEvent s.line.previous (frameSlots slots) e) := by
  have calm : t.Calm (t.frameEvent s.line.previous (frameSlots slots) e) := by
    by_cases steers : ∃ n, s.codeQuiet slots n ∧ (e = .code n ∨ e = .absent n)
    · obtain ⟨n, still, mine⟩ := steers
      rw [h.mid.still still mine]
      exact .refl t
    · refine .event h.mid quiet ⟨?_, ?_⟩ ⟨?_, ?_⟩ <;> rintro rfl
      · exact steers ⟨_, tunnel, .inl rfl⟩
      · exact steers ⟨_, drive, .inl rfl⟩
      · exact steers ⟨_, tunnel, .inr rfl⟩
      · exact steers ⟨_, drive, .inr rfl⟩
  have unaccepted (n : Node) (unseen : ¬s.codeAccepted slots n) :
      s.Unaccepted slots ((t.frameEvent s.line.previous (frameSlots slots) e).view n) := by
    rw [(t.frameEvent_booked _ _ e).view, State.view_booked, codeSlot_frameSlots]
    exact (h.unaccepted n unseen).event unseen e
  have rest : t.frameEvent s.line.previous (frameSlots slots) e = { s with
      line := (t.frameEvent s.line.previous (frameSlots slots) e).line
      heat := (t.frameEvent s.line.previous (frameSlots slots) e).heat
      dispatch := (t.frameEvent s.line.previous (frameSlots slots) e).dispatch } := by
    rw [calm.rest, h.rest]
  refine ⟨h.mid.event quiet e, rest, unaccepted, ?_⟩
  generalize t.frameEvent s.line.previous (frameSlots slots) e = u at *
  rcases calm.dispatch with same | ⟨_, _, g, standing, window, target, deferred, claims⟩
  · unfold State.GrantedTo
    rw [same]
    exact h.granted
  · have working : u.working = s.working := by rw [rest]
    have lanes : u.lanes = s.lanes := by rw [rest]
    simp only [State.claimant, Bool.and_eq_true, decide_eq_true_eq, Option.isNone_iff_eq_none, lanes] at claims
    obtain ⟨⟨here, want⟩, free⟩ := claims
    refine .inr ⟨g, standing, working ▸ window, target, deferred, free, ?_⟩
    by_contra others
    obtain ⟨unseen, not⟩ := not_or.1 others
    obtain ⟨was, held⟩ := (unaccepted (.station g.target) unseen).here here
    exact not ⟨was, held.symm.trans want⟩

end

/-! ## A station that becomes a claimant -/

theorem State.decideDispatch_opens {s : State} {x : Station} (none : s.dispatch.grant = none) (run : s.inRun = true)
    (ret : s.lanes.ret ≠ []) (ds : (s.eyes.get .ds).blockage = .none) (claims : s.claimant x = true) :
    s.decideDispatch.dispatch.grant ≠ .none := fun closed => by
  obtain ⟨d, form⟩ := s.decideDispatch_form
  have same : d = s.dispatch := by
    have dispatch := (State.decideDispatch_fresh none).2 closed
    rwa [form] at dispatch
  rcases (State.decideDispatch_eq_self s).1 (by rw [form, same]) with shut | empty
  · simp [none, run, ret, State.isBlocked, ds] at shut
  · have mem : x ∈ s.claimants := List.mem_filter.2 ⟨Station.mem_all x, claims⟩
    rw [empty] at mem
    cases mem

section
variable {t : State} {x : Station} (closed : t.dispatch.grant = none) (run : t.inRun = true) (ret : t.lanes.ret ≠ [])
  (ds : (t.eyes.get .ds).blockage = .none) (free : t.lanes.lp.get x = .none)
include closed run ret ds free

theorem State.stationChanged_opens {w b : State} (rest : w = { t with line := w.line })
    (was : b.claimant x = false) (here : w.present (.station x) = true) (want : w.line.stationCode.get x = .want) :
    (w.stationChanged b x).dispatch.grant ≠ .none := by
  have claims : w.claimant x = true := by
    rw [State.claimant, here, want, rest]
    simp [free]
  unfold State.stationChanged
  rw [if_pos (by rw [was, claims]; rfl)]
  rw [rest] at claims ⊢
  exact State.decideDispatch_opens closed run ret ds claims

end

section
variable {s t : State} {slots : List Octet} {x : Station}

/-- A station whose code WANT is accepted, which it did not have, makes the Dispatch Arbiter decide (R149, R150). -/
theorem State.Uneventful.opens (h : s.Uneventful slots (.station x) (s.countIdleFrames (frameSlots slots)) t)
    (quiet : s.noRequestAt slots) (accepted : s.codeAccepted slots (.station x))
    (code : codeSlot slots (.station x) = 0x01) (run : s.inRun = true) (ret : s.lanes.ret ≠ [])
    (ds : (s.eyes.get .ds).blockage = none) (free : s.lanes.lp.get x = none)
    (other : s.present (.station x) = true → s.line.stationCode.get x ≠ .want) (closed : t.dispatch.grant = none) :
    (t.frameEvent s.line.previous (frameSlots slots) (.code (.station x))).dispatch.grant ≠ none := by
  have sends : codeSlot slots (.station x) ≠ 0xFF := by rw [code]; decide
  have defined : stationCodeOfOctet (codeSlot slots (.station x)) = some .want := by rw [code]; rfl
  have was : t.line.stationCode.get x = s.line.stationCode.get x := congrArg NodeView.held (h.found (.inl rfl))
  have start := h.start
  have run' : t.inRun = true := by rw [start]; exact run
  have ret' : t.lanes.ret ≠ [] := by rw [start]; exact ret
  have ds' : (t.eyes.get .ds).blockage = .none := by rw [start]; exact ds
  have free' : t.lanes.lp.get x = .none := by rw [start]; exact free
  by_cases here : s.present (.station x) = true
  · have there : (t.line.nodes.get (.station x)).present = true := (congrArg NodeView.present (h.found (.inl rfl))).trans here
    rw [h.fires accepted sends, if_pos here]
    simp only [State.acceptCode, defined]
    refine State.stationChanged_opens closed run' ret' ds' free' rfl ?_ ?_ ((PerStation.get_set ..).trans (if_pos rfl))
    · have idle : t.line.stationCode.get x ≠ .want := was ▸ other here
      simp [State.claimant, State.setNode, idle]
    · rw [State.present, State.setStationCode, State.setNode_node, if_pos rfl]
      exact there
  · have absent : (t.line.nodes.get (.station x)).present = false :=
      (congrArg NodeView.present (h.found (.inl rfl))).trans (eq_false_of_ne_true here)
    obtain ⟨l, joined⟩ := h.becomes quiet accepted sends here
    rw [joined]
    simp only [State.presentWith, defined, Option.getD_some]
    refine State.stationChanged_opens closed run' ret' ds' free' rfl ?_ ?_ ((PerStation.get_set ..).trans (if_pos rfl))
    · rw [State.claimant, State.present, State.setNode_node, if_pos rfl, absent]
      rfl
    · rw [State.present, State.setStationCode, State.setNode_node, if_pos rfl]

/-- A dispatch grant is brought by a station that becomes a claimant in RUN (R149 to R151). -/
theorem State.frameEnd_granted (quiet : s.noRequestAt slots) (order : List FrameEvent) (run : s.inRun = true)
    (tunnel : s.codeQuiet slots .tunnel) (drive : s.codeQuiet slots .drive) (none : s.dispatch.grant = none)
    (ret : s.lanes.ret ≠ []) (ds : (s.eyes.get .ds).blockage = .none) (accepted : s.codeAccepted slots (.station x))
    (code : codeSlot slots (.station x) = 0x01) (free : s.lanes.lp.get x = .none)
    (other : s.present (.station x) = true → s.line.stationCode.get x ≠ .want) :
    s.GrantedTo slots (s.frameEnd slots order) := by
  have sends : codeSlot slots (.station x) ≠ 0xFF := by rw [code]; decide
  obtain ⟨t, u, before, after, ends⟩ := State.frameEnd_split quiet sends (fun n steers => by
    rcases steers with rfl | rfl
    · exact .inr tunnel
    · exact .inr drive) order
  have opened : (t.frameEvent s.line.previous (frameSlots slots) (.code (.station x))).dispatch.grant ≠ .none := by
    by_cases closed : t.dispatch.grant = .none
    · exact before.opens quiet accepted code run ret ds free other closed
    · have calm := State.Calm.event before.mid quiet (e := .code (.station x)) (by simp) (by simp)
      rcases calm.dispatch with same | ⟨_, none, _⟩
      · exact same ▸ closed
      · exact absurd none closed
  have granting : s.Granting slots (s.eventsDone slots order) :=
    State.eventsDone_keeps s slots order (P := s.Granting slots) (.counted none) fun t e h =>
      h.event quiet tunnel drive e
  have stands : (s.frameEnd slots order).dispatch.grant ≠ .none := by
    rw [ends]
    have same := after.dispatch (.inr opened)
    exact same ▸ opened
  exact granting.granted.resolve_left stands

end

end Sys2Proof.Machine
end

section
/-! What the end of a frame accepts, and what that brings about (R98, R99, R149, R150, R169, R170, R180 to R183, R187). -/

namespace Sys2Proof.Machine

/-- With a drive that does not run, a HOLD taken in RUN is over at once (R168). -/
theorem State.heldBy_at_once {s x t : State} {c : HoldCause} (executor : x.executor = s.executor) (run : s.inRun = true)
    (off : x.line.driveCode ≠ .running) (h : x.heldBy t c) :
    t.executor.loop = .hold ∧ t.executor.holdCauses = s.executor.holdCauses.add c
      ∧ t.executor.outcomes.hold = ⟨.done, some .internal, none⟩ ∧ s.outcomesKept t [.hold]
      ∧ t.executor.settleTimer = none ∧ t.nonePending := by
  cases was : s.executor.loop with
  | run =>
    obtain ⟨⟨loop, hold, outcome, others, _, timer, _, _, none⟩, causes⟩ := h
    simp only [State.loopAfterHold, State.outcomeOfHold, executor, was, if_neg off] at loop hold outcome timer
    refine ⟨loop, by rw [causes, executor], hold, fun d mem other => ?_, timer, none⟩
    by_cases isRun : d = .run
    · subst isRun
      exact outcome
    · rw [← executor]
      exact others d mem (by simpa [isRun] using other)
  | _ => simp [State.inRun, was, LoopState.isRun] at run

/-- Settles O45: the separate events are taken one by one, each beside what it writes. A node's code and its absence make its
presence and codes in either order; up to the acceptance of a code its node is as the frame found it, and what the code
raises stands to the end. -/
theorem frameEndAccepts : Obligations.FrameEndAccepts := by
  refine ⟨fun s slots order => ?_, fun s slots order => ?_, fun s slots order idle still quiet => ⟨?_, ?_, ?_, ?_⟩⟩
  · refine ⟨_, rfl, fun n _ => ⟨s.frameEnd_pair slots order n, State.frameEnd_node.accepted⟩,
      fun z _ => ⟨s.frameEnd_temperature slots order z, fun here stays => ?_, fun gone joins => ?_⟩,
      s.frameEnd_pump slots order, fun here stays changed z _ => ?_⟩
    · rcases (s.frameEnd_fed slots order here stays).temperature z with ⟨slot, raw⟩ | ⟨slot, new, raw⟩
      · exact ⟨fun _ => raw, fun changed => absurd slot changed⟩
      · exact ⟨fun same => absurd (same.symm.trans slot) new, fun _ => raw.trans slot.symm⟩
    · exact s.frameEnd_shows slots order gone ((State.beginFrame_present _ _ _).symm.trans joins) z
    · exact (s.frameEnd_fed slots order here stays).pump.resolve_left changed z
  · have node (n : Node) : s.NodeFrame slots ((s.frameEnd slots order).view n) := State.frameEnd_node
    refine ⟨_, rfl, fun n _ => ⟨(node n).idle, (node n).joins, (node n).leaves, fun here gone => ?_⟩,
      (node .tunnel).held, (node .drive).held, fun x => (node (.station x)).held⟩
    obtain ⟨rest, mark⟩ := s.frameEnd_quiet slots order here gone
    exact ⟨rest, mark, (Line.atFirstCode_iff _ n).2 ((node n).first here gone)⟩
  · intro run drive accepted here ready code
    exact ⟨_, rfl, s.frameEnd_tunnelHeld idle still quiet order run drive accepted here ready code⟩
  · intro run tunnel accepted here on code
    obtain ⟨x, executor, off, held, withdrawn⟩ := s.frameEnd_driveHeld idle still quiet order run tunnel accepted here on code
    obtain ⟨loop, causes, hold, others, timer, none⟩ :=
      State.heldBy_at_once executor run (by rw [off]; decide) held
    exact ⟨_, rfl, loop, withdrawn, causes, hold, others, timer, none⟩
  · intro tunnel accepted c fault other
    obtain ⟨isFault, defined, sends⟩ : c.isFault = true ∧ driveCodeOf (codeSlot slots .drive) = some c
        ∧ codeSlot slots .drive ≠ 0xFF := by
      rcases fault with ⟨rfl, code⟩ | ⟨rfl, code⟩ <;> rw [code] <;> exact ⟨rfl, rfl, by decide⟩
    exact ⟨_, rfl, s.frameEnd_driveStopped idle quiet order tunnel accepted isFault defined sends other⟩
  · intro run tunnel drive closed ret ds x accepted code free other
    obtain ⟨g, granted, window, target, deferred, lane, claims⟩ :=
      s.frameEnd_granted quiet order run tunnel drive closed ret ds accepted code free other
    refine ⟨_, rfl, g, granted, window, target, deferred, lane, fun alone => ?_⟩
    by_contra apart
    obtain ⟨unseen, idle⟩ := alone g.target apart
    rcases claims with accepts | ⟨here, want⟩
    · exact unseen accepts
    · exact idle here want

end Sys2Proof.Machine
end
